-- ==== Sys2Proof/Word.lean ====
section
/-!
DEFINITION. The word types of the CHD-C9 and the closed name types that instruction
operands and outside events carry. Bits are numbered and stored as R7 says.
-/
namespace Sys2Proof

abbrev Byte := BitVec 8
/-- A scalar register value (R81). -/
abbrev Word := BitVec 32
abbrev Dword := BitVec 64
/-- A vector register value (R83). -/
abbrev Vec := BitVec 2048
/-- The 64 lane tags of a vector register, lane i at bits 2i+1:2i (R93, R307). -/
abbrev VTags := BitVec 128
/-- A lane mask, one bit per byte lane (R84). -/
abbrev Mask := BitVec 256
/-- The 256 tags of a lane mask, bit j's tag at 2j+1:2j (R93, R307). -/
abbrev MTags := BitVec 512
/-- A poison tag: 0 clean, 1 deferred fault, 2 race, 3 uncorrectable (R93). -/
abbrev Tag := BitVec 2

/-- The two scalar units, slots 1 and 2 (R75). -/
inductive SUnit where
  | a | b
  deriving DecidableEq, Repr

/-- The two vector units, slots 4 and 5 (R75). -/
inductive VUnit where
  | v | w
  deriving DecidableEq, Repr

/-- The entry of a file, or the saved control register, that an uncorrectable upset strikes (R302). -/
inductive UpsetTarget where
  | creg (n : Nat)
  | scalar (n : Nat)
  | vector (n : Nat)
  | pred (n : Nat)
  | mask (n : Nat)
  | mparam (n : Nat)
  | loopCtr (n : Nat)
  deriving DecidableEq, Repr

/-- The bands of the junction temperature that R218 and R220 tell apart:
at most 85, above 85 and at most 95, above 95 degrees Celsius. -/
inductive TempBand where
  | cool | warm | hot
  deriving DecidableEq, Repr

/-- The units whose loss starts a recovery (R416). -/
inductive LostUnit where
  | core (c : Nat)
  | tower (c g : Nat)
  | cluster (cl : Nat)
  | stack (k : Nat)
  | link (p : Nat)
  | mirror
  deriving DecidableEq, Repr

/-- A request that a home translates (R425, R427). Access 1 read, 2 write, 3 accumulate,
4 fetch; `core` is the requester's chip core number, 0xFFFF_FFFF for none. -/
structure WalkRequest where
  va : Nat
  asid : Nat
  access : Nat
  kid : Nat
  core : Nat
  deriving DecidableEq, Repr

/-- A ridge flit as its receiver sees it: whether its CRC holds, and its link sequence number (R435). -/
structure Flit where
  seq : Nat
  crcOk : Bool
  deriving DecidableEq, Repr

/-- What a ridge packet asks for (R231, R436): a write of bytes, a read, a scatter-accumulate update, the
application of staged updates, or a mirror write. -/
inductive RidgeOp where
  | write (bytes : List Byte)
  | read (size : Nat)
  /-- a scatter-accumulate update: the kernel and the chip core number that made it (R369, R373) -/
  | accumulate (kid : Word) (core aop : Nat) (ord : Bool) (value : Word)
  /-- the staged updates of a kernel of the source are to be applied at the homes of this module (R374) -/
  | apply (kid : Word)
  /-- a mirror write of the paired module to a stack and physical address (R434) -/
  | belay (stack pa : Nat) (bytes : List Byte)
  deriving DecidableEq, Repr

/-- A packet from another module (R436, R438): source module, per-source sequence number, the partition that
sends it, the address space and the virtual address it names. -/
structure RidgePacket where
  src : Nat
  seq : Nat
  pn : Nat
  asid : Nat
  va : Nat
  op : RidgeOp
  deriving DecidableEq, Repr

/-- A stored word that an upset leaves failing correction (R215, R314, R326); on the bus, a word of host or peer
memory whose read completions arrive poisoned until it is written again (R442). -/
inductive ErrorSite where
  | tower (c addr : Nat)
  | hbm (stack pa : Nat)
  | tile (c t r col : Nat)
  | bankRow (c bank row : Nat)
  | bus (addr : Nat)
  deriving DecidableEq, Repr

/-- A message on the I3C management port: the ridge paths of one destination (R436, R454),
or a request that the port answers (R451). -/
inductive I3CMessage where
  | setPaths (dest : Nat) (ports : List Nat)
  | query
  deriving DecidableEq, Repr

end Sys2Proof
end

