-- ==== Sys2Proof/Machine/Bits.lean ====
section
/-!
DEFINITION. Bit fields, lanes, byte strings, checksums and the integer helpers of R12 and R13.
-/
namespace Sys2Proof.Machine

/-- Bits lo+n-1:lo of a word as a number (R7). -/
def bits {w : Nat} (x : BitVec w) (lo n : Nat) : Nat := x.toNat / 2 ^ lo % 2 ^ n

/-- Bit i of a number (R7). -/
def nbit (x i : Nat) : Bool := x / 2 ^ i % 2 == 1

/-- Bits lo+n-1:lo of a number (R7). -/
def nbits (x lo n : Nat) : Nat := x / 2 ^ lo % 2 ^ n

/-- x, n bits wide, read as two's complement (R13 sext). -/
def sextI (x n : Nat) : Int := if 2 ^ (n - 1) ≤ x then (x : Int) - 2 ^ n else x

/-- Lane i of width w of a vector register (R22, R83). -/
def lane (w : Nat) (x : Vec) (i : Nat) : BitVec w := x.extractLsb' (i * w) w

/-- The vector whose lane i is f i, for n lanes of width w. -/
def packLanes (w n : Nat) (f : Nat → BitVec w) : Vec :=
  .ofNat 2048 ((List.range n).foldr (fun i acc => (f i).toNat + 2 ^ w * acc) 0)

/-- The tag of 32-bit lane i (R93). -/
def ltag (t : VTags) (i : Nat) : Tag := t.extractLsb' (2 * i) 2

/-- The lane tags whose lane i carries f i. -/
def packTags (f : Nat → Tag) : VTags :=
  .ofNat 128 ((List.range 64).foldr (fun i acc => (f i).toNat + 4 * acc) 0)

/-- The tag of mask bit j (R93). -/
def mtag (t : MTags) (j : Nat) : Tag := t.extractLsb' (2 * j) 2

/-- The mask-bit tags whose bit j carries f j. -/
def packMTags (f : Nat → Tag) : MTags :=
  .ofNat 512 ((List.range 256).foldr (fun i acc => (f i).toNat + 4 * acc) 0)

/-- The mask whose bit j is f j. -/
def packMask (f : Nat → Bool) : Mask :=
  .ofNat 256 ((List.range 256).foldr (fun i acc => (f i).toNat + 2 * acc) 0)

/-- The greater of two tags (R93). -/
def Tag.max (a b : Tag) : Tag := if a.ult b then b else a

/-- The greatest of a list of tags; clean for none (R93). -/
def maxTag (l : List Tag) : Tag := l.foldl Tag.max 0

/-- The greatest lane tag of a vector. -/
def VTags.worst (t : VTags) : Tag := maxTag ((List.range 64).map (ltag t))

/-- The bytes of a number, little-endian (R7). -/
def bytesLE (n x : Nat) : List Byte := (List.range n).map (fun i => .ofNat 8 (x / 2 ^ (8 * i)))

/-- The number that bytes store, little-endian (R7). -/
def ofBytesLE (l : List Byte) : Nat := l.foldr (fun b acc => b.toNat + 256 * acc) 0

/-- One step of the reflected CRC-32C (R53). -/
def crc32cStep (c : Nat) : Nat := if c % 2 = 1 then (c / 2) ^^^ 0x82F63B78 else c / 2

/-- CRC-32C of bytes in address order (R53). -/
def crc32c (l : List Byte) : Word :=
  let c := l.foldl (fun c b =>
    (List.range 8).foldl (fun c _ => crc32cStep c) (c ^^^ b.toNat)) 0xFFFFFFFF
  .ofNat 32 (c ^^^ 0xFFFFFFFF)

/-- One step of the CRC-16 of R116. -/
def crc16Step (c : Nat) : Nat :=
  if c ≥ 0x8000 then (c * 2 % 0x10000) ^^^ 0x1021 else c * 2

/-- CRC-16 with polynomial 0x1021, initial value 0xFFFF (R116). -/
def crc16 (l : List Byte) : Nat :=
  l.foldl (fun c b => (List.range 8).foldl (fun c _ => crc16Step c) (c ^^^ (b.toNat * 256))) 0xFFFF

/-- Count of ones among the low n bits (R186). -/
def popcount (n x : Nat) : Nat := (List.range n).foldl (fun c i => if nbit x i then c + 1 else c) 0

/-- Leading zero bits of an n-bit value; n for 0 (R186, R252). -/
def clzN (n x : Nat) : Nat := if x = 0 then n else n - 1 - Nat.log2 x

/-- Trailing zero bits of an n-bit value; n for 0 (R186). -/
def ctzN (n x : Nat) : Nat :=
  ((List.range n).find? (nbit x)).getD n

/-- Saturation of an exact integer to n-bit two's complement. -/
def satS (n : Nat) (x : Int) : Int :=
  if x < -(2 ^ (n - 1)) then -(2 ^ (n - 1)) else if x > 2 ^ (n - 1) - 1 then 2 ^ (n - 1) - 1 else x

/-- One entry of a sparse table, written over any entry with the same key. -/
def assocSet {α β : Type} [DecidableEq α] (l : List (α × β)) (k : α) (v : β) : List (α × β) :=
  (k, v) :: l.filter (fun e => e.1 ≠ k)

/-- The value under a key. -/
def assocGet {α β : Type} [DecidableEq α] (l : List (α × β)) (k : α) : Option β :=
  (l.find? (fun e => e.1 = k)).map (·.2)

/-- The sorted list with x in it once. -/
def insertSorted (x : Nat) : List Nat → List Nat
  | [] => [x]
  | y :: ys => if x < y then x :: y :: ys else if x = y then y :: ys else y :: insertSorted x ys

end Sys2Proof.Machine
end

