-- ==== Sys2Proof/Syntax.lean ====
section
/-!
DEFINITION. The instruction type: one constructor per row of spec/opcode_table.json. Operand
fields have the widths of the row. Rows without an encoding are the steps of the agents; their
arguments say which core, FIFO, kernel, queue or unit takes the step, or what arrives from outside.
`u` names the unit of a row that two slots execute (R75); `stop`, `qui` are the S and Q flags (R77).
-/
namespace Sys2Proof

inductive Instr where
  /-- NOP_SLOT0 (R79). Control-slot no-operation; carries only the bundle's stop and quiescent flags. -/
  | nopSlot0 (stop : Bool) (qui : Bool) (g : BitVec 4)
  /-- BR (R166). Branch to a bundle reached by segment displacement and index, after three delay slots. -/
  | br (stop : Bool) (qui : Bool) (g : BitVec 4) (o : BitVec 20)
  /-- CALL (R166). Branch like br and write the link reference of the fourth following bundle to s47. -/
  | callR (stop : Bool) (qui : Bool) (g : BitVec 4) (o : BitVec 20)
  /-- JR (R166). Branch to the bundle reference held in a scalar register, after three delay slots. -/
  | jr (stop : Bool) (qui : Bool) (g : BitVec 4) (a : BitVec 6)
  /-- RET (R166). Branch to the bundle reference held in s47. -/
  | ret (stop : Bool) (qui : Bool) (g : BitVec 4)
  /-- LOOP (R168). Arm a hardware loop counter with a count and body length, or skip the body on a zero count. -/
  | loopR (stop : Bool) (qui : Bool) (g : BitVec 4) (c : BitVec 1) (a : BitVec 6) (l : BitVec 13)
  /-- CHK (R170). Branch within the segment when a scalar register carries a nonzero poison tag. -/
  | chk (stop : Bool) (qui : Bool) (g : BitVec 4) (a : BitVec 6) (o : BitVec 14)
  /-- CHKV (R170). Branch within the segment when any lane of a vector register carries a nonzero tag. -/
  | chkv (stop : Bool) (qui : Bool) (g : BitVec 4) (v : BitVec 5) (o : BitVec 15)
  /-- BRV_ALL (R171). Branch when every bit of a mask is set; trap on mixed or poisoned masks. -/
  | brvAll (stop : Bool) (qui : Bool) (g : BitVec 4) (m : BitVec 3) (o : BitVec 15)
  /-- BRV_NONE (R171). Branch when every bit of a mask is clear; trap on mixed or poisoned masks. -/
  | brvNone (stop : Bool) (qui : Bool) (g : BitVec 4) (m : BitVec 3) (o : BitVec 15)
  /-- HALT (R172). In a Q bundle, make the cairn DONE without saving its registers. -/
  | haltR (stop : Bool) (qui : Bool) (g : BitVec 4)
  /-- PARK (R173). In a Q bundle, park the cairn on a scratchpad line if the word there equals a value. -/
  | park (stop : Bool) (qui : Bool) (g : BitVec 4) (a : BitVec 6) (b : BitVec 6) (t : BitVec 8)
  /-- YIELD (R172). In a Q bundle, save the cairn and return it READY to the tail of its priority list. -/
  | yield (stop : Bool) (qui : Bool) (g : BitVec 4)
  /-- SUMMIT (R69). In a Q bundle, park the cairn at a superstep boundary with SUM = 1. -/
  | summit (stop : Bool) (qui : Bool) (g : BitVec 4)
  /-- BARSET (R177). Set a barrier's count and owner kernel. -/
  | barset (stop : Bool) (qui : Bool) (g : BitVec 4) (i : BitVec 7) (a : BitVec 6)
  /-- BARARR (R177). Arrive at a barrier, decrementing its count, and release earlier stores. -/
  | bararr (stop : Bool) (qui : Bool) (g : BitVec 4) (i : BitVec 7)
  /-- BARWAIT (R177). Hold the bundle until the barrier is owned by the kernel with count 0, then acquire. -/
  | barwait (stop : Bool) (qui : Bool) (g : BitVec 4) (i : BitVec 7)
  /-- BARTEST (R177). Write a predicate saying whether the barrier has completed for this kernel. -/
  | bartest (stop : Bool) (qui : Bool) (g : BitVec 4) (i : BitVec 7) (p : BitVec 3)
  /-- ROPE_PAIR (R64). In a Q bundle, rope the core with its pair partner and wait for it. -/
  | ropePair (stop : Bool) (qui : Bool) (g : BitVec 4)
  /-- ROPE_QUAD (R64). In a Q bundle, rope all four positions of the cluster and wait for them. -/
  | ropeQuad (stop : Bool) (qui : Bool) (g : BitVec 4)
  /-- UNROPE (R68). In a Q bundle, clear the rope in every member. -/
  | unrope (stop : Bool) (qui : Bool) (g : BitVec 4)
  /-- DRAIN (R179). Hold the next position until the core's remote operations have completed at the named scope. -/
  | drain (stop : Bool) (qui : Bool) (g : BitVec 4) (x : BitVec 3)
  /-- TRAP (R180). Raise TRAP_INSTR with the code in TRA. -/
  | trapR (stop : Bool) (qui : Bool) (g : BitVec 4) (c : BitVec 16)
  /-- SYS (R181). Post a service request to the partition's service ring at commit. -/
  | sys (stop : Bool) (qui : Bool) (g : BitVec 4) (c : BitVec 16)
  /-- CREAD (R182). Read a control register into a scalar register. -/
  | cread (stop : Bool) (qui : Bool) (g : BitVec 4) (d : BitVec 6) (r : BitVec 12)
  /-- CWRITE (R182). Write a scalar register into a control register. -/
  | cwrite (stop : Bool) (qui : Bool) (g : BitVec 4) (r : BitVec 12) (a : BitVec 6)
  /-- RFDEFER (R183). Request that the core's pending refresh passes wait a number of milliseconds. -/
  | rfdefer (stop : Bool) (qui : Bool) (g : BitVec 4) (a : BitVec 6)
  /-- TRET (R184). Leave handler mode and rewind the pitch to PENT. -/
  | tret (stop : Bool) (qui : Bool) (g : BitVec 4)
  /-- TRET_AT (R184). Leave handler mode and make the named bundle the new pitch entry. -/
  | tretAt (stop : Bool) (qui : Bool) (g : BitVec 4) (a : BitVec 6)
  /-- NOP (R79). No-operation in slots 1 to 7. -/
  | nopK (k : BitVec 3) (g : BitVec 4)
  /-- ADD (R186). Scalar 32-bit add. -/
  | addR (u : SUnit) (g : BitVec 4) (d : BitVec 6) (a : BitVec 6) (b : BitVec 6)
  /-- SUB (R186). Scalar 32-bit subtract. -/
  | subR (u : SUnit) (g : BitVec 4) (d : BitVec 6) (a : BitVec 6) (b : BitVec 6)
  /-- MUL (R186). Scalar multiply, low word. -/
  | mulR (u : SUnit) (g : BitVec 4) (d : BitVec 6) (a : BitVec 6) (b : BitVec 6)
  /-- MULHS (R186). Scalar signed multiply, high word. -/
  | mulhs (u : SUnit) (g : BitVec 4) (d : BitVec 6) (a : BitVec 6) (b : BitVec 6)
  /-- MULHU (R186). Scalar unsigned multiply, high word. -/
  | mulhu (u : SUnit) (g : BitVec 4) (d : BitVec 6) (a : BitVec 6) (b : BitVec 6)
  /-- DIV (R187). Scalar signed divide truncating toward zero. -/
  | divR (u : SUnit) (g : BitVec 4) (d : BitVec 6) (a : BitVec 6) (b : BitVec 6)
  /-- DIVU (R187). Scalar unsigned divide. -/
  | divu (u : SUnit) (g : BitVec 4) (d : BitVec 6) (a : BitVec 6) (b : BitVec 6)
  /-- REM (R187). Scalar signed remainder. -/
  | remR (u : SUnit) (g : BitVec 4) (d : BitVec 6) (a : BitVec 6) (b : BitVec 6)
  /-- REMU (R187). Scalar unsigned remainder. -/
  | remu (u : SUnit) (g : BitVec 4) (d : BitVec 6) (a : BitVec 6) (b : BitVec 6)
  /-- AND (R186). Scalar bitwise and. -/
  | andR (u : SUnit) (g : BitVec 4) (d : BitVec 6) (a : BitVec 6) (b : BitVec 6)
  /-- OR (R186). Scalar bitwise or. -/
  | orR (u : SUnit) (g : BitVec 4) (d : BitVec 6) (a : BitVec 6) (b : BitVec 6)
  /-- XOR (R186). Scalar bitwise exclusive or. -/
  | xorR (u : SUnit) (g : BitVec 4) (d : BitVec 6) (a : BitVec 6) (b : BitVec 6)
  /-- ANDN (R186). Scalar and with complement. -/
  | andn (u : SUnit) (g : BitVec 4) (d : BitVec 6) (a : BitVec 6) (b : BitVec 6)
  /-- SHL (R186). Scalar shift left by b<4:0>. -/
  | shl (u : SUnit) (g : BitVec 4) (d : BitVec 6) (a : BitVec 6) (b : BitVec 6)
  /-- SHR (R186). Scalar logical shift right. -/
  | shr (u : SUnit) (g : BitVec 4) (d : BitVec 6) (a : BitVec 6) (b : BitVec 6)
  /-- SAR (R186). Scalar arithmetic shift right. -/
  | sar (u : SUnit) (g : BitVec 4) (d : BitVec 6) (a : BitVec 6) (b : BitVec 6)
  /-- ROL (R186). Scalar rotate left. -/
  | rol (u : SUnit) (g : BitVec 4) (d : BitVec 6) (a : BitVec 6) (b : BitVec 6)
  /-- MIN (R186). Scalar signed minimum. -/
  | minR (u : SUnit) (g : BitVec 4) (d : BitVec 6) (a : BitVec 6) (b : BitVec 6)
  /-- MAX (R186). Scalar signed maximum. -/
  | maxR (u : SUnit) (g : BitVec 4) (d : BitVec 6) (a : BitVec 6) (b : BitVec 6)
  /-- MINU (R186). Scalar unsigned minimum. -/
  | minu (u : SUnit) (g : BitVec 4) (d : BitVec 6) (a : BitVec 6) (b : BitVec 6)
  /-- MAXU (R186). Scalar unsigned maximum. -/
  | maxu (u : SUnit) (g : BitVec 4) (d : BitVec 6) (a : BitVec 6) (b : BitVec 6)
  /-- LEA (R186). Scalar add with the second operand shifted left by x. -/
  | lea (u : SUnit) (g : BitVec 4) (d : BitVec 6) (a : BitVec 6) (b : BitVec 6) (x : BitVec 3)
  /-- SEL (R186). Select one of two scalars by a predicate. -/
  | sel (u : SUnit) (g : BitVec 4) (d : BitVec 6) (a : BitVec 6) (b : BitVec 6) (p : BitVec 3)
  /-- CLZ (R186). Count leading zero bits. -/
  | clz (u : SUnit) (g : BitVec 4) (d : BitVec 6) (a : BitVec 6)
  /-- CTZ (R186). Count trailing zero bits. -/
  | ctz (u : SUnit) (g : BitVec 4) (d : BitVec 6) (a : BitVec 6)
  /-- POPC (R186). Count one bits. -/
  | popc (u : SUnit) (g : BitVec 4) (d : BitVec 6) (a : BitVec 6)
  /-- RNGX (R188). Mix two words into a pseudo-random word. -/
  | rngx (u : SUnit) (g : BitVec 4) (d : BitVec 6) (a : BitVec 6) (b : BitVec 6)
  /-- MOV (R186). Copy a scalar source. -/
  | mov (u : SUnit) (g : BitVec 4) (d : BitVec 6) (a : BitVec 6)
  /-- ADDI (R189). Add a sign-extended 9-bit immediate. -/
  | addi (u : SUnit) (g : BitVec 4) (d : BitVec 6) (a : BitVec 6) (i : BitVec 9)
  /-- ANDI (R189). And with a sign-extended immediate. -/
  | andi (u : SUnit) (g : BitVec 4) (d : BitVec 6) (a : BitVec 6) (i : BitVec 9)
  /-- ORI (R189). Or with a sign-extended immediate. -/
  | ori (u : SUnit) (g : BitVec 4) (d : BitVec 6) (a : BitVec 6) (i : BitVec 9)
  /-- XORI (R189). Exclusive or with a sign-extended immediate. -/
  | xori (u : SUnit) (g : BitVec 4) (d : BitVec 6) (a : BitVec 6) (i : BitVec 9)
  /-- SHLI (R189). Shift left by an immediate count. -/
  | shli (u : SUnit) (g : BitVec 4) (d : BitVec 6) (a : BitVec 6) (i : BitVec 5)
  /-- SHRI (R189). Logical shift right by an immediate count. -/
  | shri (u : SUnit) (g : BitVec 4) (d : BitVec 6) (a : BitVec 6) (i : BitVec 5)
  /-- SARI (R189). Arithmetic shift right by an immediate count. -/
  | sari (u : SUnit) (g : BitVec 4) (d : BitVec 6) (a : BitVec 6) (i : BitVec 5)
  /-- ROLI (R189). Rotate left by an immediate count. -/
  | roli (u : SUnit) (g : BitVec 4) (d : BitVec 6) (a : BitVec 6) (i : BitVec 5)
  /-- MULI (R189). Multiply by a sign-extended immediate, low word. -/
  | muli (u : SUnit) (g : BitVec 4) (d : BitVec 6) (a : BitVec 6) (i : BitVec 9)
  /-- BFX (R190). Extract a bit field. -/
  | bfx (u : SUnit) (g : BitVec 4) (d : BitVec 6) (a : BitVec 6) (p : BitVec 5) (n : BitVec 4)
  /-- BFI (R190). Insert a bit field into the destination. -/
  | bfi (u : SUnit) (g : BitVec 4) (d : BitVec 6) (a : BitVec 6) (p : BitVec 5) (n : BitVec 4)
  /-- LI (R191). Load a sign-extended 15-bit immediate. -/
  | li (u : SUnit) (g : BitVec 4) (d : BitVec 6) (i : BitVec 15)
  /-- CMP_EQ (R192). Predicate := scalars equal. -/
  | cmpEq (u : SUnit) (g : BitVec 4) (p : BitVec 3) (a : BitVec 6) (b : BitVec 6)
  /-- CMP_NE (R192). Predicate := scalars differ. -/
  | cmpNe (u : SUnit) (g : BitVec 4) (p : BitVec 3) (a : BitVec 6) (b : BitVec 6)
  /-- CMP_LT (R192). Predicate := signed less than. -/
  | cmpLt (u : SUnit) (g : BitVec 4) (p : BitVec 3) (a : BitVec 6) (b : BitVec 6)
  /-- CMP_LE (R192). Predicate := signed less or equal. -/
  | cmpLe (u : SUnit) (g : BitVec 4) (p : BitVec 3) (a : BitVec 6) (b : BitVec 6)
  /-- CMP_LTU (R192). Predicate := unsigned less than. -/
  | cmpLtu (u : SUnit) (g : BitVec 4) (p : BitVec 3) (a : BitVec 6) (b : BitVec 6)
  /-- CMP_LEU (R192). Predicate := unsigned less or equal. -/
  | cmpLeu (u : SUnit) (g : BitVec 4) (p : BitVec 3) (a : BitVec 6) (b : BitVec 6)
  /-- CMPI_EQ (R192). Predicate := scalar equals immediate. -/
  | cmpiEq (u : SUnit) (g : BitVec 4) (p : BitVec 3) (a : BitVec 6) (i : BitVec 9)
  /-- CMPI_LT (R192). Predicate := scalar signed less than immediate. -/
  | cmpiLt (u : SUnit) (g : BitVec 4) (p : BitVec 3) (a : BitVec 6) (i : BitVec 9)
  /-- CMPI_LTU (R192). Predicate := scalar unsigned less than immediate. -/
  | cmpiLtu (u : SUnit) (g : BitVec 4) (p : BitVec 3) (a : BitVec 6) (i : BitVec 9)
  /-- CMPI_NE (R192). Predicate := scalar differs from immediate. -/
  | cmpiNe (u : SUnit) (g : BitVec 4) (p : BitVec 3) (a : BitVec 6) (i : BitVec 9)
  /-- PAND (R193). Predicate and. -/
  | pand (u : SUnit) (g : BitVec 4) (p : BitVec 3) (a : BitVec 3) (b : BitVec 3)
  /-- POR (R193). Predicate or. -/
  | por (u : SUnit) (g : BitVec 4) (p : BitVec 3) (a : BitVec 3) (b : BitVec 3)
  /-- PXOR (R193). Predicate exclusive or. -/
  | pxor (u : SUnit) (g : BitVec 4) (p : BitVec 3) (a : BitVec 3) (b : BitVec 3)
  /-- PANDN (R193). Predicate and with complement. -/
  | pandn (u : SUnit) (g : BitVec 4) (p : BitVec 3) (a : BitVec 3) (b : BitVec 3)
  /-- CMPT (R194). Trap CHECK_MISMATCH when two scalars differ in value or tag. -/
  | cmpt (u : SUnit) (g : BitVec 4) (a : BitVec 6) (b : BitVec 6)
  /-- CMPTI (R194). Trap CHECK_MISMATCH when a scalar differs from an immediate or is tagged. -/
  | cmpti (u : SUnit) (g : BitVec 4) (a : BitVec 6) (i : BitVec 9)
  /-- PTEST (R195). Predicate := scalar carries a nonzero poison tag. -/
  | ptest (u : SUnit) (g : BitVec 4) (p : BitVec 3) (a : BitVec 6)
  /-- PCLR (R195). Copy a scalar with its tag cleared. -/
  | pclr (u : SUnit) (g : BitVec 4) (d : BitVec 6) (a : BitVec 6)
  /-- FADD (R196). FP32 add under the rounding field. -/
  | fadd (u : SUnit) (g : BitVec 4) (d : BitVec 6) (a : BitVec 6) (b : BitVec 6) (r : BitVec 3)
  /-- FSUB (R196). FP32 subtract. -/
  | fsub (u : SUnit) (g : BitVec 4) (d : BitVec 6) (a : BitVec 6) (b : BitVec 6) (r : BitVec 3)
  /-- FMUL (R196). FP32 multiply. -/
  | fmul (u : SUnit) (g : BitVec 4) (d : BitVec 6) (a : BitVec 6) (b : BitVec 6) (r : BitVec 3)
  /-- FFMA (R196). FP32 fused multiply-add into the destination. -/
  | ffma (u : SUnit) (g : BitVec 4) (d : BitVec 6) (a : BitVec 6) (b : BitVec 6) (r : BitVec 3)
  /-- FMIN (R196). FP32 minimum. -/
  | fmin (u : SUnit) (g : BitVec 4) (d : BitVec 6) (a : BitVec 6) (b : BitVec 6)
  /-- FMAX (R196). FP32 maximum. -/
  | fmax (u : SUnit) (g : BitVec 4) (d : BitVec 6) (a : BitVec 6) (b : BitVec 6)
  /-- FABS (R196). FP32 absolute value. -/
  | fabs (u : SUnit) (g : BitVec 4) (d : BitVec 6) (a : BitVec 6)
  /-- FNEG (R196). FP32 negate. -/
  | fneg (u : SUnit) (g : BitVec 4) (d : BitVec 6) (a : BitVec 6)
  /-- FCVT_W_F (R197). Convert FP32 to INT32. -/
  | fcvtWF (u : SUnit) (g : BitVec 4) (d : BitVec 6) (a : BitVec 6) (b : BitVec 6) (r : BitVec 3)
  /-- FCVT_F_W (R197). Convert INT32 to FP32. -/
  | fcvtFW (u : SUnit) (g : BitVec 4) (d : BitVec 6) (a : BitVec 6) (b : BitVec 6) (r : BitVec 3)
  /-- FCVT_F_WU (R197). Convert UINT32 to FP32. -/
  | fcvtFWu (u : SUnit) (g : BitVec 4) (d : BitVec 6) (a : BitVec 6) (b : BitVec 6) (r : BitVec 3)
  /-- FCVT_WU_F (R197). Convert FP32 to UINT32. -/
  | fcvtWuF (u : SUnit) (g : BitVec 4) (d : BitVec 6) (a : BitVec 6) (b : BitVec 6) (r : BitVec 3)
  /-- FCMP_EQ (R198). Predicate := FP32 equal. -/
  | fcmpEq (u : SUnit) (g : BitVec 4) (p : BitVec 3) (a : BitVec 6) (b : BitVec 6)
  /-- FCMP_LT (R198). Predicate := FP32 less than. -/
  | fcmpLt (u : SUnit) (g : BitVec 4) (p : BitVec 3) (a : BitVec 6) (b : BitVec 6)
  /-- FCMP_LE (R198). Predicate := FP32 less or equal. -/
  | fcmpLe (u : SUnit) (g : BitVec 4) (p : BitVec 3) (a : BitVec 6) (b : BitVec 6)
  /-- FCMP_UN (R198). Predicate := FP32 unordered. -/
  | fcmpUn (u : SUnit) (g : BitVec 4) (p : BitVec 3) (a : BitVec 6) (b : BitVec 6)
  /-- FCLASS (R198). Write a one-hot FP32 class word. -/
  | fclass (u : SUnit) (g : BitVec 4) (d : BitVec 6) (a : BitVec 6)
  /-- LDB (R224). Load a sign-extended byte from the scratchpad. -/
  | ldb (g : BitVec 4) (d : BitVec 6) (b : BitVec 6) (o : BitVec 9)
  /-- LDBU (R224). Load a zero-extended byte. -/
  | ldbu (g : BitVec 4) (d : BitVec 6) (b : BitVec 6) (o : BitVec 9)
  /-- LDH (R224). Load a sign-extended half-word. -/
  | ldh (g : BitVec 4) (d : BitVec 6) (b : BitVec 6) (o : BitVec 9)
  /-- LDHU (R224). Load a zero-extended half-word. -/
  | ldhu (g : BitVec 4) (d : BitVec 6) (b : BitVec 6) (o : BitVec 9)
  /-- LDW (R224). Load a word. -/
  | ldw (g : BitVec 4) (d : BitVec 6) (b : BitVec 6) (o : BitVec 9)
  /-- STB (R224). Store a byte. -/
  | stb (g : BitVec 4) (d : BitVec 6) (b : BitVec 6) (o : BitVec 9)
  /-- STH (R224). Store a half-word. -/
  | sth (g : BitVec 4) (d : BitVec 6) (b : BitVec 6) (o : BitVec 9)
  /-- STW (R224). Store a word. -/
  | stw (g : BitVec 4) (d : BitVec 6) (b : BitVec 6) (o : BitVec 9)
  /-- LDW_S (R225). Speculative word load that never traps. -/
  | ldwS (g : BitVec 4) (d : BitVec 6) (b : BitVec 6) (o : BitVec 9)
  /-- LDBU_S (R225). Speculative zero-extended byte load. -/
  | ldbuS (g : BitVec 4) (d : BitVec 6) (b : BitVec 6) (o : BitVec 9)
  /-- LDHU_S (R225). Speculative zero-extended half-word load. -/
  | ldhuS (g : BitVec 4) (d : BitVec 6) (b : BitVec 6) (o : BitVec 9)
  /-- LDV (R226). Load a 256-byte row under a mask. -/
  | ldv (g : BitVec 4) (v : BitVec 5) (b : BitVec 6) (o : BitVec 7) (m : BitVec 3)
  /-- STV (R226). Store the active bytes of a vector register to a row. -/
  | stv (g : BitVec 4) (v : BitVec 5) (b : BitVec 6) (o : BitVec 7) (m : BitVec 3)
  /-- LDV_S (R226). Speculative row load. -/
  | ldvS (g : BitVec 4) (v : BitVec 5) (b : BitVec 6) (o : BitVec 7) (m : BitVec 3)
  /-- LDMX4 (R227). Widen four MXFP4 blocks of a sheet into 128 BF16 elements. -/
  | ldmx4 (g : BitVec 4) (v : BitVec 5) (b : BitVec 6) (o : BitVec 7) (m : BitVec 3)
  /-- LDMX8 (R227). Widen four MXFP8 blocks of a sheet into 128 BF16 elements. -/
  | ldmx8 (g : BitVec 4) (v : BitVec 5) (b : BitVec 6) (o : BitVec 7) (m : BitVec 3)
  /-- LDVX (R228). Gather elements by per-lane row offsets within their own towers. -/
  | ldvx (g : BitVec 4) (v : BitVec 5) (i : BitVec 5) (b : BitVec 6) (m : BitVec 2) (w : BitVec 3)
  /-- STVX (R228). Scatter active elements by per-lane row offsets. -/
  | stvx (g : BitVec 4) (v : BitVec 5) (i : BitVec 5) (b : BitVec 6) (m : BitVec 2) (w : BitVec 3)
  /-- LDVX_S (R228). Speculative gather. -/
  | ldvxS (g : BitVec 4) (v : BitVec 5) (i : BitVec 5) (b : BitVec 6) (m : BitVec 2) (w : BitVec 3)
  /-- SHN (R229). Shift a vector register across lane groups or to a roped neighbour core. -/
  | shn (g : BitVec 4) (d : BitVec 5) (a : BitVec 5) (e : BitVec 3) (t : BitVec 5) (m : BitVec 3)
  /-- TSH (R230). Copy a 256-byte row tower to tower, within the core or to a roped neighbour. -/
  | tsh (g : BitVec 4) (d : BitVec 5) (a : BitVec 5) (e : BitVec 3) (t : BitVec 5) (m : BitVec 3)
  /-- VADD (R252). Vector integer add. -/
  | vadd (u : VUnit) (g : BitVec 4) (d : BitVec 5) (a : BitVec 5) (b : BitVec 5) (m : BitVec 3) (x : BitVec 3)
  /-- VSUB (R252). Vector integer subtract. -/
  | vsub (u : VUnit) (g : BitVec 4) (d : BitVec 5) (a : BitVec 5) (b : BitVec 5) (m : BitVec 3) (x : BitVec 3)
  /-- VMUL (R252). Vector integer multiply, low part. -/
  | vmul (u : VUnit) (g : BitVec 4) (d : BitVec 5) (a : BitVec 5) (b : BitVec 5) (m : BitVec 3) (x : BitVec 3)
  /-- VMULH (R252). Vector signed multiply, high part. -/
  | vmulh (u : VUnit) (g : BitVec 4) (d : BitVec 5) (a : BitVec 5) (b : BitVec 5) (m : BitVec 3) (x : BitVec 3)
  /-- VMAD (R253). Vector integer multiply-add into the destination. -/
  | vmad (u : VUnit) (g : BitVec 4) (d : BitVec 5) (a : BitVec 5) (b : BitVec 5) (m : BitVec 3) (x : BitVec 3)
  /-- VMIN (R252). Vector signed minimum. -/
  | vmin (u : VUnit) (g : BitVec 4) (d : BitVec 5) (a : BitVec 5) (b : BitVec 5) (m : BitVec 3) (x : BitVec 3)
  /-- VMAX (R252). Vector signed maximum. -/
  | vmax (u : VUnit) (g : BitVec 4) (d : BitVec 5) (a : BitVec 5) (b : BitVec 5) (m : BitVec 3) (x : BitVec 3)
  /-- VMINU (R252). Vector unsigned minimum. -/
  | vminu (u : VUnit) (g : BitVec 4) (d : BitVec 5) (a : BitVec 5) (b : BitVec 5) (m : BitVec 3) (x : BitVec 3)
  /-- VMAXU (R252). Vector unsigned maximum. -/
  | vmaxu (u : VUnit) (g : BitVec 4) (d : BitVec 5) (a : BitVec 5) (b : BitVec 5) (m : BitVec 3) (x : BitVec 3)
  /-- VABS (R252). Vector integer absolute value. -/
  | vabs (u : VUnit) (g : BitVec 4) (d : BitVec 5) (a : BitVec 5) (m : BitVec 3) (x : BitVec 3)
  /-- VAND (R252). Vector bitwise and. -/
  | vand (u : VUnit) (g : BitVec 4) (d : BitVec 5) (a : BitVec 5) (b : BitVec 5) (m : BitVec 3) (x : BitVec 3)
  /-- VOR (R252). Vector bitwise or. -/
  | vor (u : VUnit) (g : BitVec 4) (d : BitVec 5) (a : BitVec 5) (b : BitVec 5) (m : BitVec 3) (x : BitVec 3)
  /-- VXOR (R252). Vector bitwise exclusive or. -/
  | vxor (u : VUnit) (g : BitVec 4) (d : BitVec 5) (a : BitVec 5) (b : BitVec 5) (m : BitVec 3) (x : BitVec 3)
  /-- VSHL (R252). Vector shift left. -/
  | vshl (u : VUnit) (g : BitVec 4) (d : BitVec 5) (a : BitVec 5) (b : BitVec 5) (m : BitVec 3) (x : BitVec 3)
  /-- VSHR (R252). Vector logical shift right. -/
  | vshr (u : VUnit) (g : BitVec 4) (d : BitVec 5) (a : BitVec 5) (b : BitVec 5) (m : BitVec 3) (x : BitVec 3)
  /-- VSAR (R252). Vector arithmetic shift right. -/
  | vsar (u : VUnit) (g : BitVec 4) (d : BitVec 5) (a : BitVec 5) (b : BitVec 5) (m : BitVec 3) (x : BitVec 3)
  /-- VCLZ (R252). Vector count leading zeros. -/
  | vclz (u : VUnit) (g : BitVec 4) (d : BitVec 5) (a : BitVec 5) (m : BitVec 3) (x : BitVec 3)
  /-- VPOPC (R252). Vector population count. -/
  | vpopc (u : VUnit) (g : BitVec 4) (d : BitVec 5) (a : BitVec 5) (m : BitVec 3) (x : BitVec 3)
  /-- VADDS (R252). Vector saturating signed add. -/
  | vadds (u : VUnit) (g : BitVec 4) (d : BitVec 5) (a : BitVec 5) (b : BitVec 5) (m : BitVec 3) (x : BitVec 3)
  /-- VSUBS (R252). Vector saturating signed subtract. -/
  | vsubs (u : VUnit) (g : BitVec 4) (d : BitVec 5) (a : BitVec 5) (b : BitVec 5) (m : BitVec 3) (x : BitVec 3)
  /-- VCMP_EQ (R254). Mask := elements equal. -/
  | vcmpEq (u : VUnit) (g : BitVec 4) (d : BitVec 3) (a : BitVec 5) (b : BitVec 5) (m : BitVec 3) (x : BitVec 3)
  /-- VCMP_NE (R254). Mask := elements differ. -/
  | vcmpNe (u : VUnit) (g : BitVec 4) (d : BitVec 3) (a : BitVec 5) (b : BitVec 5) (m : BitVec 3) (x : BitVec 3)
  /-- VCMP_LT (R254). Mask := signed less than. -/
  | vcmpLt (u : VUnit) (g : BitVec 4) (d : BitVec 3) (a : BitVec 5) (b : BitVec 5) (m : BitVec 3) (x : BitVec 3)
  /-- VCMP_LE (R254). Mask := signed less or equal. -/
  | vcmpLe (u : VUnit) (g : BitVec 4) (d : BitVec 3) (a : BitVec 5) (b : BitVec 5) (m : BitVec 3) (x : BitVec 3)
  /-- VCMP_LTU (R254). Mask := unsigned less than. -/
  | vcmpLtu (u : VUnit) (g : BitVec 4) (d : BitVec 3) (a : BitVec 5) (b : BitVec 5) (m : BitVec 3) (x : BitVec 3)
  /-- VCMP_LEU (R254). Mask := unsigned less or equal. -/
  | vcmpLeu (u : VUnit) (g : BitVec 4) (d : BitVec 3) (a : BitVec 5) (b : BitVec 5) (m : BitVec 3) (x : BitVec 3)
  /-- VADD_X (R255). Vector add of a scalar operand. -/
  | vaddX (u : VUnit) (g : BitVec 4) (d : BitVec 5) (a : BitVec 5) (sx : BitVec 6) (m : BitVec 2) (x : BitVec 3)
  /-- VSUB_X (R255). Vector subtract of a scalar operand. -/
  | vsubX (u : VUnit) (g : BitVec 4) (d : BitVec 5) (a : BitVec 5) (sx : BitVec 6) (m : BitVec 2) (x : BitVec 3)
  /-- VMUL_X (R255). Vector multiply by a scalar operand. -/
  | vmulX (u : VUnit) (g : BitVec 4) (d : BitVec 5) (a : BitVec 5) (sx : BitVec 6) (m : BitVec 2) (x : BitVec 3)
  /-- VAND_X (R255). Vector and with a scalar operand. -/
  | vandX (u : VUnit) (g : BitVec 4) (d : BitVec 5) (a : BitVec 5) (sx : BitVec 6) (m : BitVec 2) (x : BitVec 3)
  /-- VSHL_X (R255). Vector shift left by a scalar count. -/
  | vshlX (u : VUnit) (g : BitVec 4) (d : BitVec 5) (a : BitVec 5) (sx : BitVec 6) (m : BitVec 2) (x : BitVec 3)
  /-- VSHR_X (R255). Vector logical shift right by a scalar count. -/
  | vshrX (u : VUnit) (g : BitVec 4) (d : BitVec 5) (a : BitVec 5) (sx : BitVec 6) (m : BitVec 2) (x : BitVec 3)
  /-- VSAR_X (R255). Vector arithmetic shift right by a scalar count. -/
  | vsarX (u : VUnit) (g : BitVec 4) (d : BitVec 5) (a : BitVec 5) (sx : BitVec 6) (m : BitVec 2) (x : BitVec 3)
  /-- VCMP_EQ_X (R254). Mask := elements equal a scalar. -/
  | vcmpEqX (u : VUnit) (g : BitVec 4) (d : BitVec 3) (a : BitVec 5) (sx : BitVec 6) (m : BitVec 2) (x : BitVec 3)
  /-- VCMP_LT_X (R254). Mask := elements signed less than a scalar. -/
  | vcmpLtX (u : VUnit) (g : BitVec 4) (d : BitVec 3) (a : BitVec 5) (sx : BitVec 6) (m : BitVec 2) (x : BitVec 3)
  /-- VDUP (R256). Broadcast a scalar into every element. -/
  | vdup (u : VUnit) (g : BitVec 4) (d : BitVec 5) (a : BitVec 5) (sx : BitVec 6) (m : BitVec 2) (x : BitVec 3)
  /-- VINS (R257). Insert a scalar at the first active element. -/
  | vins (u : VUnit) (g : BitVec 4) (d : BitVec 5) (a : BitVec 5) (sx : BitVec 6) (m : BitVec 2) (x : BitVec 3)
  /-- VEXT (R258). Extract one element into a k register. -/
  | vext (u : VUnit) (g : BitVec 4) (d : BitVec 3) (a : BitVec 5) (sx : BitVec 6) (m : BitVec 2) (x : BitVec 3)
  /-- MAND (R259). Mask and. -/
  | mand (u : VUnit) (g : BitVec 4) (d : BitVec 3) (a : BitVec 3) (b : BitVec 3)
  /-- MOR (R259). Mask or. -/
  | mor (u : VUnit) (g : BitVec 4) (d : BitVec 3) (a : BitVec 3) (b : BitVec 3)
  /-- MXOR (R259). Mask exclusive or. -/
  | mxor (u : VUnit) (g : BitVec 4) (d : BitVec 3) (a : BitVec 3) (b : BitVec 3)
  /-- MANDN (R259). Mask and with complement. -/
  | mandn (u : VUnit) (g : BitVec 4) (d : BitVec 3) (a : BitVec 3) (b : BitVec 3)
  /-- MPOP (R260). Count the set bits of a mask into a k register. -/
  | mpop (u : VUnit) (g : BitVec 4) (d : BitVec 3) (a : BitVec 3)
  /-- MFIRST (R260). Write the lowest set bit number of a mask into a k register. -/
  | mfirst (u : VUnit) (g : BitVec 4) (d : BitVec 3) (a : BitVec 3)
  /-- VSEL (R261). Select bytes from two vectors by a mask. -/
  | vsel (u : VUnit) (g : BitVec 4) (d : BitVec 5) (a : BitVec 5) (b : BitVec 5) (m : BitVec 3)
  /-- VPERM (R262). Permute elements by an index vector. -/
  | vperm (u : VUnit) (g : BitVec 4) (d : BitVec 5) (a : BitVec 5) (b : BitVec 5) (m : BitVec 3) (x : BitVec 3)
  /-- VROT_X (R262). Rotate elements by a scalar amount. -/
  | vrotX (u : VUnit) (g : BitVec 4) (d : BitVec 5) (a : BitVec 5) (sx : BitVec 6) (m : BitVec 2) (x : BitVec 3)
  /-- VZIP (R262). Interleave the lower halves of two vectors. -/
  | vzip (u : VUnit) (g : BitVec 4) (d : BitVec 5) (a : BitVec 5) (b : BitVec 5) (m : BitVec 3) (x : BitVec 3)
  /-- VUNZIP (R262). Take even elements of two vectors. -/
  | vunzip (u : VUnit) (g : BitVec 4) (d : BitVec 5) (a : BitVec 5) (b : BitVec 5) (m : BitVec 3) (x : BitVec 3)
  /-- VCOMPRESS (R263). Pack active elements to the bottom. -/
  | vcompress (u : VUnit) (g : BitVec 4) (d : BitVec 5) (a : BitVec 5) (b : BitVec 5) (m : BitVec 3) (x : BitVec 3)
  /-- VEXPAND (R263). Spread consecutive elements into active positions. -/
  | vexpand (u : VUnit) (g : BitVec 4) (d : BitVec 5) (a : BitVec 5) (b : BitVec 5) (m : BitVec 3) (x : BitVec 3)
  /-- VIDX (R262). Write imm + i into element i. -/
  | vidx (u : VUnit) (g : BitVec 4) (d : BitVec 5) (i : BitVec 8) (x : BitVec 3)
  /-- VRED_ADD (R264). Integer sum of active elements plus an accumulator. -/
  | vredAdd (u : VUnit) (g : BitVec 4) (d : BitVec 5) (a : BitVec 5) (b : BitVec 5) (m : BitVec 3) (x : BitVec 3)
  /-- VRED_MAX (R264). Signed maximum of active elements and an accumulator. -/
  | vredMax (u : VUnit) (g : BitVec 4) (d : BitVec 5) (a : BitVec 5) (b : BitVec 5) (m : BitVec 3) (x : BitVec 3)
  /-- VRED_MIN (R264). Signed minimum of active elements and an accumulator. -/
  | vredMin (u : VUnit) (g : BitVec 4) (d : BitVec 5) (a : BitVec 5) (b : BitVec 5) (m : BitVec 3) (x : BitVec 3)
  /-- VSCAN_ADD (R264). Inclusive prefix sum over active elements. -/
  | vscanAdd (u : VUnit) (g : BitVec 4) (d : BitVec 5) (a : BitVec 5) (b : BitVec 5) (m : BitVec 3) (x : BitVec 3)
  /-- VMRED_ADD (R265). Sum values over each group of equal keys; write leader mask. -/
  | vmredAdd (u : VUnit) (g : BitVec 4) (d : BitVec 5) (a : BitVec 5) (b : BitVec 5) (m : BitVec 3) (x : BitVec 3)
  /-- VMRED_MAX (R265). Maximum value over each group of equal keys. -/
  | vmredMax (u : VUnit) (g : BitVec 4) (d : BitVec 5) (a : BitVec 5) (b : BitVec 5) (m : BitVec 3) (x : BitVec 3)
  /-- VMSCAN_ADD (R265). Prefix sum within each group of equal keys. -/
  | vmscanAdd (u : VUnit) (g : BitVec 4) (d : BitVec 5) (a : BitVec 5) (b : BitVec 5) (m : BitVec 3) (x : BitVec 3)
  /-- VMCOUNT (R265). Size of each group of equal keys. -/
  | vmcount (u : VUnit) (g : BitVec 4) (d : BitVec 5) (a : BitVec 5) (b : BitVec 5) (m : BitVec 3) (x : BitVec 3)
  /-- VFADD_F (R271). Vector FP32 add. -/
  | vfaddF (u : VUnit) (g : BitVec 4) (d : BitVec 5) (a : BitVec 5) (b : BitVec 5) (m : BitVec 3) (r : BitVec 3)
  /-- VFSUB_F (R271). Vector FP32 subtract. -/
  | vfsubF (u : VUnit) (g : BitVec 4) (d : BitVec 5) (a : BitVec 5) (b : BitVec 5) (m : BitVec 3) (r : BitVec 3)
  /-- VFMUL_F (R271). Vector FP32 multiply. -/
  | vfmulF (u : VUnit) (g : BitVec 4) (d : BitVec 5) (a : BitVec 5) (b : BitVec 5) (m : BitVec 3) (r : BitVec 3)
  /-- VFFMA_F (R271). Vector FP32 fused multiply-add into the destination. -/
  | vffmaF (u : VUnit) (g : BitVec 4) (d : BitVec 5) (a : BitVec 5) (b : BitVec 5) (m : BitVec 3) (r : BitVec 3)
  /-- VFMIN_F (R271). Vector FP32 minimum. -/
  | vfminF (u : VUnit) (g : BitVec 4) (d : BitVec 5) (a : BitVec 5) (b : BitVec 5) (m : BitVec 3)
  /-- VFMAX_F (R271). Vector FP32 maximum. -/
  | vfmaxF (u : VUnit) (g : BitVec 4) (d : BitVec 5) (a : BitVec 5) (b : BitVec 5) (m : BitVec 3)
  /-- VFABS_F (R271). Vector FP32 absolute value. -/
  | vfabsF (u : VUnit) (g : BitVec 4) (d : BitVec 5) (a : BitVec 5) (m : BitVec 3)
  /-- VFNEG_F (R271). Vector FP32 negate. -/
  | vfnegF (u : VUnit) (g : BitVec 4) (d : BitVec 5) (a : BitVec 5) (m : BitVec 3)
  /-- VFCMP_EQ_F (R274). Mask := FP32 lanes equal. -/
  | vfcmpEqF (u : VUnit) (g : BitVec 4) (d : BitVec 3) (a : BitVec 5) (b : BitVec 5) (m : BitVec 3)
  /-- VFCMP_LT_F (R274). Mask := FP32 lanes less than. -/
  | vfcmpLtF (u : VUnit) (g : BitVec 4) (d : BitVec 3) (a : BitVec 5) (b : BitVec 5) (m : BitVec 3)
  /-- VFCMP_LE_F (R274). Mask := FP32 lanes less or equal. -/
  | vfcmpLeF (u : VUnit) (g : BitVec 4) (d : BitVec 3) (a : BitVec 5) (b : BitVec 5) (m : BitVec 3)
  /-- VFCMP_UN_F (R274). Mask := FP32 lanes unordered. -/
  | vfcmpUnF (u : VUnit) (g : BitVec 4) (d : BitVec 3) (a : BitVec 5) (b : BitVec 5) (m : BitVec 3)
  /-- VFADD_BF (R272). BF16 element add. -/
  | vfaddBf (u : VUnit) (g : BitVec 4) (d : BitVec 5) (a : BitVec 5) (b : BitVec 5) (m : BitVec 3) (r : BitVec 3)
  /-- VFMUL_BF (R272). BF16 element multiply. -/
  | vfmulBf (u : VUnit) (g : BitVec 4) (d : BitVec 5) (a : BitVec 5) (b : BitVec 5) (m : BitVec 3) (r : BitVec 3)
  /-- VFFMA_BF (R272). BF16 fused multiply-add into the destination. -/
  | vffmaBf (u : VUnit) (g : BitVec 4) (d : BitVec 5) (a : BitVec 5) (b : BitVec 5) (m : BitVec 3) (r : BitVec 3)
  /-- VFDOT_BF (R273). Accumulate pairs of BF16 products into FP32 lanes. -/
  | vfdotBf (u : VUnit) (g : BitVec 4) (d : BitVec 5) (a : BitVec 5) (b : BitVec 5) (m : BitVec 3) (r : BitVec 3)
  /-- VCVT_BF_F (R275). Convert FP32 lanes to BF16. -/
  | vcvtBfF (u : VUnit) (g : BitVec 4) (d : BitVec 5) (a : BitVec 5) (b : BitVec 5) (m : BitVec 3) (r : BitVec 3)
  /-- VCVT_F16_F (R275). Convert FP32 lanes to FP16. -/
  | vcvtF16F (u : VUnit) (g : BitVec 4) (d : BitVec 5) (a : BitVec 5) (b : BitVec 5) (m : BitVec 3) (r : BitVec 3)
  /-- VCVT_E4_F (R275). Convert FP32 lanes to E4M3. -/
  | vcvtE4F (u : VUnit) (g : BitVec 4) (d : BitVec 5) (a : BitVec 5) (b : BitVec 5) (m : BitVec 3) (r : BitVec 3)
  /-- VCVT_E5_F (R275). Convert FP32 lanes to E5M2. -/
  | vcvtE5F (u : VUnit) (g : BitVec 4) (d : BitVec 5) (a : BitVec 5) (b : BitVec 5) (m : BitVec 3) (r : BitVec 3)
  /-- VCVT_E2_F (R275). Convert FP32 lanes to E2M1, saturating. -/
  | vcvtE2F (u : VUnit) (g : BitVec 4) (d : BitVec 5) (a : BitVec 5) (b : BitVec 5) (m : BitVec 3) (r : BitVec 3)
  /-- VCVT_F_BF (R275). Widen BF16 to FP32. -/
  | vcvtFBf (u : VUnit) (g : BitVec 4) (d : BitVec 5) (a : BitVec 5) (b : BitVec 5) (m : BitVec 3) (r : BitVec 3)
  /-- VCVT_F_F16 (R275). Widen FP16 to FP32. -/
  | vcvtFF16 (u : VUnit) (g : BitVec 4) (d : BitVec 5) (a : BitVec 5) (b : BitVec 5) (m : BitVec 3) (r : BitVec 3)
  /-- VCVT_F_E4 (R275). Widen E4M3 to FP32. -/
  | vcvtFE4 (u : VUnit) (g : BitVec 4) (d : BitVec 5) (a : BitVec 5) (b : BitVec 5) (m : BitVec 3) (r : BitVec 3)
  /-- VCVT_F_E5 (R275). Widen E5M2 to FP32. -/
  | vcvtFE5 (u : VUnit) (g : BitVec 4) (d : BitVec 5) (a : BitVec 5) (b : BitVec 5) (m : BitVec 3) (r : BitVec 3)
  /-- VCVT_F_E2 (R275). Widen E2M1 to FP32. -/
  | vcvtFE2 (u : VUnit) (g : BitVec 4) (d : BitVec 5) (a : BitVec 5) (b : BitVec 5) (m : BitVec 3) (r : BitVec 3)
  /-- VCVT_W_F (R275). Convert FP32 lanes to INT32. -/
  | vcvtWF (u : VUnit) (g : BitVec 4) (d : BitVec 5) (a : BitVec 5) (b : BitVec 5) (m : BitVec 3) (r : BitVec 3)
  /-- VCVT_F_W (R275). Convert INT32 lanes to FP32. -/
  | vcvtFW (u : VUnit) (g : BitVec 4) (d : BitVec 5) (a : BitVec 5) (b : BitVec 5) (m : BitVec 3) (r : BitVec 3)
  /-- VCVT_B_F (R275). Convert FP32 lanes to INT8. -/
  | vcvtBF (u : VUnit) (g : BitVec 4) (d : BitVec 5) (a : BitVec 5) (b : BitVec 5) (m : BitVec 3) (r : BitVec 3)
  /-- VCVT_E4_F_SAT (R275). Convert FP32 lanes to E4M3, saturating. -/
  | vcvtE4FSat (u : VUnit) (g : BitVec 4) (d : BitVec 5) (a : BitVec 5) (b : BitVec 5) (m : BitVec 3) (r : BitVec 3)
  /-- VCVT_E5_F_SAT (R275). Convert FP32 lanes to E5M2, saturating. -/
  | vcvtE5FSat (u : VUnit) (g : BitVec 4) (d : BitVec 5) (a : BitVec 5) (b : BitVec 5) (m : BitVec 3) (r : BitVec 3)
  /-- VPACK_H (R277). Concatenate the low halves of the lanes of two vectors. -/
  | vpackH (u : VUnit) (g : BitVec 4) (d : BitVec 5) (a : BitVec 5) (b : BitVec 5) (m : BitVec 3)
  /-- VPACK_B (R277). Concatenate the low bytes of the halves of two vectors. -/
  | vpackB (u : VUnit) (g : BitVec 4) (d : BitVec 5) (a : BitVec 5) (b : BitVec 5) (m : BitVec 3)
  /-- VPACK_N (R277). Concatenate the low nibbles of the bytes of two vectors. -/
  | vpackN (u : VUnit) (g : BitVec 4) (d : BitVec 5) (a : BitVec 5) (b : BitVec 5) (m : BitVec 3)
  /-- VUNPK_LO (R278). Zero-extend the lower half of narrow fields by a step code. -/
  | vunpkLo (u : VUnit) (g : BitVec 4) (d : BitVec 5) (a : BitVec 5) (t : BitVec 5) (m : BitVec 3)
  /-- VUNPK_HI (R278). Zero-extend the upper half of narrow fields by a step code. -/
  | vunpkHi (u : VUnit) (g : BitVec 4) (d : BitVec 5) (a : BitVec 5) (t : BitVec 5) (m : BitVec 3)
  /-- VBEXP (R279). Form the shared exponent of each 32-lane half. -/
  | vbexp (u : VUnit) (g : BitVec 4) (d : BitVec 5) (a : BitVec 5) (m : BitVec 3)
  /-- VSCALB (R280). Scale FP32 lanes by a power of two. -/
  | vscalb (u : VUnit) (g : BitVec 4) (d : BitVec 5) (a : BitVec 5) (i : BitVec 8) (r : BitVec 3)
  /-- VEXP2 (R284). Base-2 exponential of FP32 lanes. -/
  | vexp2 (u : VUnit) (g : BitVec 4) (d : BitVec 5) (a : BitVec 5) (b : BitVec 5) (m : BitVec 3) (r : BitVec 3)
  /-- VLOG2 (R285). Base-2 logarithm of FP32 lanes. -/
  | vlog2 (u : VUnit) (g : BitVec 4) (d : BitVec 5) (a : BitVec 5) (b : BitVec 5) (m : BitVec 3) (r : BitVec 3)
  /-- VRCP (R286). Reciprocal of FP32 lanes. -/
  | vrcp (u : VUnit) (g : BitVec 4) (d : BitVec 5) (a : BitVec 5) (b : BitVec 5) (m : BitVec 3) (r : BitVec 3)
  /-- VRSQRT (R287). Reciprocal square root of FP32 lanes. -/
  | vrsqrt (u : VUnit) (g : BitVec 4) (d : BitVec 5) (a : BitVec 5) (b : BitVec 5) (m : BitVec 3) (r : BitVec 3)
  /-- VSQRT (R288). Correctly rounded square root of FP32 lanes. -/
  | vsqrt (u : VUnit) (g : BitVec 4) (d : BitVec 5) (a : BitVec 5) (b : BitVec 5) (m : BitVec 3) (r : BitVec 3)
  /-- MPARM_LO (R330). Write the low half of a matrix parameter register. -/
  | mparmLo (g : BitVec 4) (p : BitVec 3) (sx : BitVec 6)
  /-- MPARM_HI (R330). Write the high half of a matrix parameter register. -/
  | mparmHi (g : BitVec 4) (p : BitVec 3) (sx : BitVec 6)
  /-- MCALL (R319). Check and queue a matrix routine command naming a barrier. -/
  | mcall (g : BitVec 4) (r : BitVec 8) (b : BitVec 7) (n : BitVec 1)
  /-- MSWAP (R316). Queue a swap of the active and shadow weight banks. -/
  | mswap (g : BitVec 4) (b : BitVec 7) (n : BitVec 1)
  /-- TCFG (R331). Configure or unconfigure a tile from a deckle word. -/
  | tcfg (g : BitVec 4) (t : BitVec 3) (sx : BitVec 6)
  /-- TZERO (R332). Set every element of a configured tile to +0. -/
  | tzero (g : BitVec 4) (t : BitVec 3)
  /-- TROW_W (R333). Write 64 lanes into a tile row. -/
  | trowW (g : BitVec 4) (v : BitVec 5) (t : BitVec 3) (i : BitVec 8) (e : BitVec 2)
  /-- TROW_R (R333). Read a tile row into a vector register. -/
  | trowR (g : BitVec 4) (v : BitVec 5) (t : BitVec 3) (i : BitVec 8) (e : BitVec 2)
  /-- TCOL_W (R333). Write 64 lanes into a tile column. -/
  | tcolW (g : BitVec 4) (v : BitVec 5) (t : BitVec 3) (i : BitVec 8) (e : BitVec 2)
  /-- TCOL_R (R333). Read a tile column into a vector register. -/
  | tcolR (g : BitVec 4) (v : BitVec 5) (t : BitVec 3) (i : BitVec 8) (e : BitVec 2)
  /-- MSTAT (R334). Write the matrix unit status word to a k register. -/
  | mstat (g : BitVec 4) (k : BitVec 3)
  /-- TDROP (R332). Unconfigure a tile and discard its contents. -/
  | tdrop (g : BitVec 4) (t : BitVec 3)
  /-- SPUSH (R343). Push one scalar element to a stream-switch endpoint. -/
  | spush (g : BitVec 4) (qx : BitVec 5) (sx : BitVec 6)
  /-- SPUSHV (R343). Push one vector element to a stream-switch endpoint. -/
  | spushv (g : BitVec 4) (qx : BitVec 5) (v : BitVec 5) (m : BitVec 3)
  /-- SPOP (R344). Pop one element into a scalar register. -/
  | spop (g : BitVec 4) (qx : BitVec 5) (sx : BitVec 6)
  /-- SPOPV (R344). Pop one element into a vector register. -/
  | spopv (g : BitVec 4) (qx : BitVec 5) (v : BitVec 5) (m : BitVec 3)
  /-- SCARD (R346). Push a card address to an engine's card queue. -/
  | scard (g : BitVec 4) (qx : BitVec 5) (sx : BitVec 6)
  /-- SROUTE (R348). Set the route of an endpoint's outbound side with an element limit. -/
  | sroute (g : BitVec 4) (qx : BitVec 5) (sx : BitVec 6) (c : BitVec 10)
  /-- SSTAT (R347). Read a FIFO's free room and available elements. -/
  | sstat (g : BitVec 4) (qx : BitVec 5) (sx : BitVec 6)
  /-- SACC (R370). Push 64 indexed updates to the scatter-accumulate engine. -/
  | sacc (g : BitVec 4) (i : BitVec 5) (v : BitVec 5) (o : BitVec 4) (m : BitVec 3) (d : BitVec 1)
  /-- SFLUSH (R375). Trigger application of the kernel's staged ordered updates at every home. -/
  | sflush (g : BitVec 4)
  /-- SWSUB (R394). Subscribe a query slot to a sweep, counting toward NSUB. -/
  | swsub (g : BitVec 4) (qx : BitVec 5) (sx : BitVec 6) (n : BitVec 4)
  /-- SWJOIN (R394). Join a query slot to a sweep on time or late. -/
  | swjoin (g : BitVec 4) (qx : BitVec 5) (sx : BitVec 6) (n : BitVec 4)
  /-- SWPOP (R394). Pop a page or refusal descriptor from the sweep inbox. -/
  | swpop (g : BitVec 4) (sx : BitVec 6)
  /-- SWDONE (R394). Release one reference of a landing buffer. -/
  | swdone (g : BitVec 4) (sx : BitVec 6)
  /-- MGPUSH (R395). Push a page's softmax partial to the merge buffer. -/
  | mgpush (g : BitVec 4) (v : BitVec 5) (m : BitVec 3)
  /-- MGPOP (R396). Pop a query's merged result and free its slot. -/
  | mgpop (g : BitVec 4) (v : BitVec 5) (m : BitVec 3)
  /-- BUNDLE_ISSUE (R97). An expanded bundle issues at its position and its slots take effect together. -/
  | bundleIssue (c : Nat)
  /-- BUNDLE_SKIP (R103). The look-ahead nullifier skips a bundle whose guards are all known false. -/
  | bundleSkip (c : Nat)
  /-- SEGMENT_EXPAND (R119). The prefetch engine reads, checks and expands a segment into the loop buffer. -/
  | segmentExpand (c : Nat)
  /-- LOOP_CLOSE (R169). Program order reaches an armed loop's end bundle and the counter closes. -/
  | loopClose (c : Nat)
  /-- BIVOUAC (R70). A spinning loop reaches BVN unchanged iterations and the cairn rewinds and parks. -/
  | bivouac (c : Nat)
  /-- PARK_WAKE (R71). A write to a parked cairn's monitored line makes it READY. -/
  | parkWake (kid : Nat) (ix : Nat)
  /-- PARK_TIMEOUT (R71). A parked cairn's timeout expires and it becomes READY. -/
  | parkTimeout (kid : Nat) (ix : Nat)
  /-- CAIRN_PICKUP (R54). An idle core picks a READY cairn, reads its record and restores it. -/
  | cairnPickup (c : Nat) (kid : Nat) (ix : Nat)
  /-- PRIORITY_AGING (R72). A READY cairn's effective priority rises after AGE cycles. -/
  | priorityAging (kid : Nat) (ix : Nat)
  /-- PHASE_START (R44). A phase selects a schedule, binds clusters and links its checked cairns. -/
  | phaseStart (kid : Nat)
  /-- SUMMIT_EXCHANGE (R241). When every cairn has arrived, transfers complete, staged updates apply and cairns are released. -/
  | summitExchange (kid : Nat)
  /-- ROPE_CLOSE (R66). Every member has committed rope and the members start lock-step execution. -/
  | ropeClose (c : Nat)
  /-- PREEMPT_GRANT (R306). A pending pre-emption is granted at a Q bundle commit and the cairn is saved READY. -/
  | preemptGrant (c : Nat)
  /-- PREEMPT_OVERRUN (R73). 4 x MAXP cycles pass after a pre-emption request without a Q point. -/
  | preemptOverrun (c : Nat)
  /-- TIMING_EVENT (R290). A shadow-latch mismatch discards a bundle's execution and replays it. -/
  | timingEvent (c : Nat)
  /-- SUPPLY_SETTLED (R294). The raised supply settles and the held bundle replays. -/
  | supplySettled (c : Nat)
  /-- MARGIN_WINDOW_END (R295). An RPW window ends: streak counting and relaxation. -/
  | marginWindowEnd (c : Nat)
  /-- QUARANTINE (R297). A quarantine request takes effect and the core leaves the pickup set. -/
  | quarantine (c : Nat)
  /-- SOFT_ERROR (R303). An uncorrectable upset in core state rewinds the pitch without a handler. -/
  | softError (c : Nat)
  /-- CONTROL_REGISTER_UPSET (R302). An uncorrectable error strikes a saved control register or register file entry. -/
  | controlRegisterUpset (c : Nat) (what : UpsetTarget)
  /-- VERTICAL_WIRE_FAILURE (R311). A tower wire fails on two beats and is remapped or the core degrades. -/
  | verticalWireFailure (c : Nat) (twr : Nat) (bus : Nat) (col : Nat)
  /-- TOWER_MOVE (R311). A tower's contents move to a spare physical tower. -/
  | towerMove (c : Nat) (twr : Nat)
  /-- REFRESH_PENDING (R218). A tower's refresh interval expires and its pass becomes pending. -/
  | refreshPending (c : Nat) (twr : Nat)
  /-- REFRESH_PASS_START (R218). A pending refresh pass starts on an idle refresh slot. -/
  | refreshPassStart (c : Nat) (twr : Nat)
  /-- REFRESH_PASS_END (R218). A refresh pass completes after 2 ms. -/
  | refreshPassEnd (c : Nat) (twr : Nat)
  /-- DEFERRAL_EXPIRY (R221). The deferral grant DEF reaches 0. -/
  | deferralExpiry (c : Nat)
  /-- FORCED_PASS (R221). LEFT reaches 0 and the oldest pass is forced at the next Q commit. -/
  | forcedPass (c : Nat)
  /-- TEMPERATURE_CHANGE (R220). Junction temperature crosses a threshold, changing CAP and the refresh interval. -/
  | temperatureChange (band : TempBand)
  /-- POP_RELEASE (R98). An element for the popper's kernel arrives and an interlocked pop proceeds. -/
  | popRelease (c : Nat)
  /-- PUSH_ROOM (R343). Room appears and a push held at commit places its element. -/
  | pushRoom (c : Nat)
  /-- BARWAIT_RELEASE (R177). The barrier completes for the kernel and barwait acquires. -/
  | barwaitRelease (c : Nat)
  /-- DRAIN_RELEASE (R179). Outstanding remote operations complete at the scope and drain releases. -/
  | drainRelease (c : Nat)
  /-- SYS_RING_ROOM (R181). A service-ring entry frees and the held sys posts. -/
  | sysRingRoom (c : Nat)
  /-- MATRIX_QUEUE_ROOM (R315). A matrix command completes and a held mcall or mswap is accepted. -/
  | matrixQueueRoom (c : Nat)
  /-- TILE_HOLD_RELEASE (R327). Commands naming a tile complete and a held tile instruction proceeds. -/
  | tileHoldRelease (c : Nat)
  /-- TSH_SOURCE_RELEASE (R230). An inbound write to a tsh source word completes and the held tsh proceeds. -/
  | tshSourceRelease (c : Nat)
  /-- CARD_READ (R346). An engine reads and checks an accepted card. -/
  | cardRead (c : Nat) (fifo : Nat)
  /-- COPY (R353). Copy card moves a four-dimensional strided block. -/
  | copyCard (c : Nat) (fifo : Nat)
  /-- GATHER (R354). Gather card copies indexed elements. -/
  | gatherCard (c : Nat) (fifo : Nat)
  /-- TRANSPOSE (R355). Transpose card writes D[c][r] := S[r][c]. -/
  | transposeCard (c : Nat) (fifo : Nat)
  /-- MULTICAST (R357). Multicast card broadcasts HBM lines to many scratchpads. -/
  | multicastCard (c : Nat) (fifo : Nat)
  /-- BANKFILL (R358). Bankfill card writes rows of the shadow weight bank. -/
  | bankfillCard (c : Nat) (fifo : Nat)
  /-- OFFLOAD (R361). Offload card writes a zero-compressed image of rows. -/
  | offloadCard (c : Nat) (fifo : Nat)
  /-- RELOAD (R361). Reload card restores rows from a compressed image. -/
  | reloadCard (c : Nat) (fifo : Nat)
  /-- DECOMP (R362). Decompression card decodes one LZ4 block. -/
  | decompCard (c : Nat) (fifo : Nat)
  /-- CARD_REPORT (R364). A finished card pushes its status and signals its barrier in queue order. -/
  | cardReport (c : Nat) (fifo : Nat)
  /-- SWITCH_HOP (R349). An element moves over a stream-switch hop when there is room. -/
  | switchHop (c : Nat) (fifo : Nat)
  /-- CLUSTER_STALL (R365). A cluster has made no progress for 1,024 cycles. -/
  | clusterStall (cl : Nat)
  /-- MMA (R320). Accumulating matrix product routine. -/
  | mma (c : Nat)
  /-- MMO (R320). Overwriting matrix product routine. -/
  | mmo (c : Nat)
  /-- MMA_MX (R320). MX-scaled matrix product routine. -/
  | mmaMx (c : Nat)
  /-- TSTORE (R321). Routine that converts a tile region into the scratchpad. -/
  | tstore (c : Nat)
  /-- TLOAD (R321). Routine that converts scratchpad data into a tile region. -/
  | tload (c : Nat)
  /-- VENDOR_ROUTINE (R318). A signed vendor routine image runs. -/
  | vendorRoutine (c : Nat)
  /-- ROUTINE_STEP (R325). A routine runs one step of 16 rows. -/
  | routineStep (c : Nat)
  /-- ROUTINE_COMPLETE (R324). A routine finishes its writes, updates MST and signals its barrier. -/
  | routineComplete (c : Nat)
  /-- SWAP_COMPLETE (R316). Earlier routines and bank writes finish and the active bank inverts. -/
  | swapComplete (c : Nat)
  /-- MATRIX_UNIT_CLAIM (R336). A cairn touches a unit owned by another; the owner's state is written back and the toucher's taken. -/
  | matrixUnitClaim (c : Nat)
  /-- TILE_LAZY_LOAD (R338). A LAZY tile is loaded and checked on first touch. -/
  | tileLazyLoad (c : Nat) (tile : Nat)
  /-- POWER_ALARM_RAISE (R456). Power or coolant exceeds its limit and matrix steps narrow. -/
  | powerAlarmRaise
  /-- POWER_ALARM_CLEAR (R456). After 10 ms below limits the alarm clears. -/
  | powerAlarmClear
  /-- ACCUMULATE_ARRIVAL (R372). The engine takes a sacc element, merges lanes and applies or stages updates. -/
  | accumulateArrival (c : Nat)
  /-- SFLUSH_ARRIVAL (R375). A sflush reaches a home and triggers application. -/
  | sflushArrival (c : Nat)
  /-- SUBSCRIPTION (R383). A sweep card is read and the subscription is accepted or refused. -/
  | subscription (c : Nat)
  /-- PAGE_ISSUE (R386). A sweep engine issues a page read in ascending order. -/
  | pageIssue (kid : Nat) (swid : Nat) (page : Nat)
  /-- PAGE_LANDING (R387). A page lands in a landing buffer and descriptors go to the inbox. -/
  | pageLanding (kid : Nat) (swid : Nat) (c : Nat)
  /-- PARTIAL_COMBINE (R390). The merge buffer combines an accepted partial in run and page order. -/
  | partialCombine (c : Nat) (qslot : Nat)
  /-- POOL_ENTRY_FREE (R392). A merge pool entry frees and a held mgpush places its partial. -/
  | poolEntryFree (c : Nat)
  /-- QNOTIFY (R400). A doorbell write starts a scan of the queue. -/
  | qnotify (pn : Nat) (qn : Nat) (cnt : Nat)
  /-- QUEUE_SCAN_TIMER (R400). The 100 us scan interval expires and enabled queues are scanned. -/
  | queueScanTimer (pn : Nat)
  /-- SHADOW_WRITE (R402). The read-index shadow is published. -/
  | shadowWrite (pn : Nat) (qn : Nat)
  /-- QRIDX_RESYNC (R404). A resynchronising scan rebuilds QRIDX from K. -/
  | qridxResync (pn : Nat) (qn : Nat)
  /-- QSTAT_HALT_CLEAR (R398). Writing 1 to QSTAT.HALT clears the halt and resumes reading. -/
  | qstatHaltClear (pn : Nat) (qn : Nat)
  /-- LAUNCH (R406). A LAUNCH packet starts a kernel. -/
  | launchP (pn : Nat) (qn : Nat)
  /-- SIGNAL (R408). A SIGNAL packet applies an atomic operation to a 64-bit signal. -/
  | signalP (pn : Nat) (qn : Nat)
  /-- WAIT (R408). A WAIT packet reads a signal until its comparison holds. -/
  | waitP (pn : Nat) (qn : Nat)
  /-- WAIT_TIMEOUT (R408). A WAIT's timeout expires and the queue halts. -/
  | waitTimeout (pn : Nat) (qn : Nat)
  /-- MARKER (R408). A MARKER packet writes its serial and the cycle count. -/
  | markerP (pn : Nat) (qn : Nat)
  /-- NOP_PACKET (R408). A NOP packet completes at acceptance. -/
  | nopPacket (pn : Nat) (qn : Nat)
  /-- PACKET_AGING (R414). A waiting packet's effective priority rises each 1 ms. -/
  | packetAging (pn : Nat) (qn : Nat)
  /-- KERNEL_COMPLETION (R413). A finished kernel's status, signal decrement and work-list mark are written as one transaction. -/
  | kernelCompletion (kid : Nat)
  /-- PARTITION_RESET (R448). A partition reset stops the partition and resets its state. -/
  | partitionReset (pn : Nat)
  /-- UNIT_LOSS (R416). Loss of a core, tower, cluster, stack, link or mirror starts a recovery. -/
  | unitLoss (unit : LostUnit)
  /-- TRANSLATION_WALK (R425). A home walks the page tables for a request and translates or faults. -/
  | translationWalk (req : WalkRequest)
  /-- FRESP_WALK_AGAIN (R427). An answer makes the faulting request walk again. -/
  | frespWalkAgain (pn : Nat) (ent : Nat)
  /-- FRESP_FAIL (R428). An answer fails the faulting request. -/
  | frespFail (pn : Nat) (ent : Nat)
  /-- FAULT_TIMEOUT (R428). An unanswered fault's TMO expires and the request fails. -/
  | faultTimeout (pn : Nat) (ent : Nat)
  /-- TICTL_GO (R430). GO starts an invalidation of a page range. -/
  | tictlGo (pn : Nat) (word : Nat)
  /-- INVALIDATION_ACK (R430). Requests through removed entries complete and BUSY clears. -/
  | invalidationAck (pn : Nat)
  /-- BACKGROUND_FILL (R433). The home pulls absent lines of a migrating page. -/
  | backgroundFill (va : Nat) (asid : Nat)
  /-- FLIT_RECEIVE (R435). A ridge flit arrives; a CRC failure makes the sender retry. -/
  | flitReceive (port : Nat) (flit : Flit)
  /-- RIDGE_PACKET_RECEIVE (R436). A ridge packet is reordered, deduplicated and delivered. -/
  | ridgePacketReceive (pkt : RidgePacket)
  /-- LINK_DEAD (R437). A link fails and leaves every routing table. -/
  | linkDead (port : Nat)
  /-- PATH_LOSS_TIMEOUT (R437). 10 ms after the last path dies, requests to the destination fail. -/
  | pathLossTimeout (modn : Nat)
  /-- INGEST_WRITE (R444). A write TLP to an ingest aperture is performed into the window's target. -/
  | ingestWrite (win : Nat) (off : Nat) (data : (List Byte)) (poisoned : Bool)
  /-- WCLOSE (R445). A close write ends the current frame. -/
  | wclose (win : Nat) (tag : Nat)
  /-- FRAME_DESCRIPTOR (R445). A closed frame's writes complete and its descriptor goes to q8. -/
  | frameDescriptor (win : Nat)
  /-- WCFG_ENABLE (R443). Opening a window clears its status and frame serial. -/
  | wcfgEnable (win : Nat) (word : Nat)
  /-- APERTURE_ACCESS (R440). A BAR4 access reaches partition HBM by physical address. -/
  | apertureAccess (pn : Nat) (off : Nat) (data : (Option (List Byte))) (size : Nat) (poisoned : Bool)
  /-- REGISTER_WRITE (R9). A write to a BAR register without behaviour of its own sets its rw fields. -/
  | registerWrite (pn : Nat) (off : Nat) (word : Nat)
  /-- POWER_ON (R449). The housekeeping controller runs the bring-up stages. -/
  | powerOn
  /-- MODULE_RESET (R441). A Function Level Reset of the physical function reruns bring-up. -/
  | moduleReset
  /-- CONFIG (R454). Mailbox operation that applies a management configuration. -/
  | configOp (arg : (List Byte))
  /-- ROUTINE (R453). Mailbox operation that loads and verifies a vendor routine image. -/
  | routineOp (arg : (List Byte))
  /-- ATTEST (R455). Mailbox operation that returns a page of the signed attestation report. -/
  | attestOp (arg : (List Byte))
  /-- UNLOAD (R453). Mailbox operation that removes a vendor routine image. -/
  | unloadOp (arg : (List Byte))
  /-- DOUBLE_BIT_ERROR (R215). An upset leaves a stored 16-byte word (tower, HBM, tile element or bank row) failing correction, so it becomes uncorrectable. -/
  | doubleBitError (loc : ErrorSite)
  /-- CONFIGURATION_REQUEST (R451). A PCI Express configuration request reaches the host port, answered from stage 0 or retried, including the enabling of a virtual function. -/
  | configurationRequest (fn : Nat) (reg : Nat) (data : (Option Nat))
  /-- I3C_MANAGEMENT (R454). A message on the I3C management port, which sets the ridge paths per destination and answers in base camp. -/
  | i3cManagement (msg : I3CMessage)
  /-- BAD_OP (R453). A write to MBCMD with an OP of 0 or 5 to 255 completes with RES BAD_OP and changes no state. -/
  | badOp (op : Nat) (len : Nat)
  deriving DecidableEq, Repr, Inhabited

end Sys2Proof
end

