-- ==== Sys2Proof/Config.lean ====
section
/-!
DEFINITION. What an implementation, a self-test or chance fixes: constants without a body, so that no
proof can see their values. Each stands in the assumption log under the number it names.
-/
namespace Sys2Proof.Config

/-- Raw self-test result of core c at the boot of a tick (log 6); GUA is 8 to 24 (R296). -/
opaque guaRaw : Nat → Nat → Nat
def gua (t c : Nat) : BitVec 8 := .ofNat 8 (8 + guaRaw t c % 17)
/-- The numbers 0 to n - 1 in an order that raw numbers give: each the first time that it comes up. -/
def order (raw : Nat → Nat) (n : Nat) : List Nat :=
  ((List.range n).map (fun i => raw i % n) ++ List.range n).eraseDups
/-- The order in which self-test, or a repair at a tick (log 6, log 55), takes the 18 physical towers of core c
into use. -/
opaque towerRaw : Nat → Nat → Nat → Nat
def towerOrder (t c : Nat) : List Nat := order (towerRaw t c) 18
/-- The physical tower of logical tower g of core c (R28, R29): 18 towers, no two logical towers on one. -/
def towerMap (t c g : Nat) : Nat := ((towerOrder t c)[g]?).getD g
/-- Spare towers that self-test leaves to core c (log 6), 0 to 2 (R222), and their numbers. -/
opaque sptRaw : Nat → Nat → Nat
def spares (t c : Nat) : List Nat := ((towerOrder t c).drop 16).take (sptRaw t c % 3)
/-- The towers that it found faulty: neither in use nor spare (R28, R450). -/
def faultyTowers (t c : Nat) : List Nat := ((towerOrder t c).drop 16).drop (sptRaw t c % 3)
/-- Spare via columns of a bus (R28): 4 on the read bus 0 and the write bus 1, 2 on the command bus 2. -/
def busColumns (bus : Nat) : Nat := if bus = 2 then 2 else 4
/-- How many spare columns of a physical tower's bus self-test, or a repair at a tick, uses, and the columns
that they replace (log 6, log 55). -/
opaque usedRaw : Nat → Nat → Nat → Nat → Nat
opaque failedColumn : Nat → Nat → Nat → Nat → Nat → Nat
def usedColumns (t c phys bus : Nat) : Nat := usedRaw t c phys bus % (busColumns bus + 1)
/-- Does the repair flow rewrite the remap tables of core c while its partition is reset at this tick?
(R29, log 55) -/
opaque repairs : Nat → Nat → Bool
/-- The module's number in its domain (R201), fixed by configuration (log 8). -/
opaque modNum : BitVec 10
/-- The step that the agents and the outside world take when the agenda names none (log 4). -/
opaque schedule : Nat → Instr
/-- How many further pieces of its work an engine does in one step (R232, R236, log 36). -/
opaque pieces : Nat → Nat
/-- Whether a write in flight takes its place in the coherence order of its word, and whether it completes, at
this tick; by tick, tick of acceptance and word (R232, R243, R244, log 7). -/
opaque performs : Nat → Nat → Nat → Bool
opaque settled : Nat → Nat → Nat → Bool
/-- Which of a queue's accepted cards an engine serves at this tick (R236, log 36). -/
opaque nextCard : Nat → Nat
/-- Over which of its paths a packet goes, whether its acknowledgement comes at this tick, and how many packets
beyond one the credits of a channel and partition allow (R435, R436, R447, log 8). -/
opaque spray : Nat → Nat → Nat
opaque acked : Nat → Nat → Nat → Bool
opaque ridgeCredits : Nat
/-- How many words of a destination line an engine moves in one piece, 1 to 16 (R232, log 7). -/
opaque grainRaw : Nat → Nat
def grain (t : Nat) : Nat := 1 + grainRaw t % 16
/-- The bytes that a copy or transpose port holds: at least two elements' (R350, log 38). -/
opaque portRaw : Nat
def portBytes : Nat := 256 * (2 + portRaw)
/-- Cycles a step takes beyond one (log 4). -/
opaque stallCycles : Nat → Nat
/-- Whether a column of a tower's bus carries part of a word (log 6). -/
opaque columnServes : Nat → Nat → Nat → Bool

/-- Does module m belong to the load-store domain? (R419, log 8) -/
opaque inDomain : Nat → Bool
/-- SHA-384 of a byte string (R455, log 9). -/
opaque sha384 : List Byte → BitVec 384
/-- SHA-384 of the firmware in flash (R455, log 9). -/
opaque firmware : BitVec 384
/-- Does the firmware in flash verify against the fused keys? (R449, log 9) -/
opaque firmwareOk : Nat → Bool
/-- Do both signatures of a routine image hold? (R453, log 9) -/
opaque imageOk : List Byte → Bool
/-- The 64-byte Ed25519 and the 3,309-byte ML-DSA-65 signature of a byte string (R455, log 9). -/
opaque signByte : List Byte → Nat → Byte
/-- Does stack k fail to train at the boot that begins at this tick? (R449, log 6) -/
opaque stackFails : Nat → Nat → Bool
/-- The physical clusters that the boot finds beyond repair, and the ridge ports that it finds, by the tick of the
boot (R450, log 6). -/
opaque faultyClusters : Nat → List Nat
/-- The order in which sound sites of a half are mapped out to make up 2, and the order in which the others are
assigned where sites 0 to 31 are not all in use, by the tick of the boot (R18, R19, log 6). -/
opaque spareSite : Nat → Nat → Nat → Nat
opaque nodeSite : Nat → Nat → Nat → Nat
opaque faultyPorts : Nat → List Nat
/-- The detail word of a test-log entry (R452, log 6). -/
opaque logDetail : Nat → Nat → Word
/-- The management configuration stored in flash (R449, log 6). -/
opaque storedConfig : Nat → Option (BitVec 1088)
/-- The kernel identifier tried first for a launch at this tick (R410, log 11). -/
opaque kidRaw : Nat → Nat
/-- The stage-3 test of a core that a retest failed, and the physical tower (R452, R457, log 6): class 2 tower, 3
via column, 4 lane group, 5 bond crossing. -/
opaque retestRaw : Nat → Nat → Nat × Nat
def retestClass (c t : Nat) : Nat := 2 + (retestRaw c t).1 % 4
def retestTower (c t : Nat) : Nat := (retestRaw c t).2 % 18
/-- Does the reset of a partition last beyond this tick? (R441, R448, log 42) -/
opaque resetLasts : Nat → Nat → Bool
/-- Does the retest of core c at this tick pass? (R457, log 6) -/
opaque retestPasses : Nat → Nat → Bool

/-- What a vendor routine that runs at this tick writes: tile elements (tile, element, bits) and scratchpad bytes
(address, byte), each with whether an uncorrectable source went into it (R323), and the bits of `MST` bits 7:0
that it sets (R318, log 9). -/
opaque vendorTiles : Nat → List (Nat × Nat × Word × Bool)
opaque vendorWrites : Nat → List (Nat × Byte × Bool)
opaque vendorMst : Nat → BitVec 8

end Sys2Proof.Config
end

