-- ==== Sys2Proof/WellFormed.lean ====
section
/-!
DEFINITION. Which terms of `Instr` an encoding of the spec names: the encodings that R82, R83, R86,
R88 to R92 and R112 call illegal are refused here, by field. A step row is well formed when the
units it names exist (R20, R23, R398, R423, R443).
-/
namespace Sys2Proof

/-- A scalar destination: codes 0-55, or 63 for none (R82). -/
def sDst (d : BitVec 6) : Bool := d.ult 56 || d == 63
/-- A vector destination: codes 0-27, or 31 for none (R83). -/
def vDst (d : BitVec 5) : Bool := d.ult 28 || d == 31
/-- A decoded slot 2 names no literal (R86, R112). -/
def notLitInB (u : SUnit) (a : BitVec 6) : Bool := u != .b || a != 63
/-- FIFO numbers 11 to 15 are illegal (R91). -/
def qIn (q : BitVec 5) : Bool := q.ult 11 || !q.ult 16
/-- Q = 1 requires S = 1 (R77). -/
def qOk (stop qui : Bool) : Bool := !qui || stop

/-- A unit that the module has (R20, R23, R435). -/
def LostUnit.wf : LostUnit → Bool
  | .core c => decide (c < 256)
  | .tower c g => decide (c < 256) && decide (g < 16)
  | .cluster cl => decide (cl < 64)
  | .stack k => decide (k < 8)
  | .link p => decide (p < 16)
  | .mirror => true

/-- A stored word that the module has (R206, R313, R326, R420). -/
def ErrorSite.wf : ErrorSite → Bool
  | .tower c a => decide (c < 256) && decide (a < 2 ^ 26)
  | .hbm k pa => decide (k < 8) && decide (pa < 2 ^ 36)
  | .tile c t r col => decide (c < 256) && decide (t < 8) && decide (r < 256) && decide (col < 256)
  | .bankRow c b r => decide (c < 256) && decide (b < 2) && decide (r < 256)
  | .bus a => decide (a < 2 ^ 64)

/-- The well-formed instructions. -/
def Instr.wf : Instr → Bool
  | .nopSlot0 stop qui _ => qOk stop qui
  | .br stop qui _ _ => qOk stop qui
  | .callR stop qui _ _ => qOk stop qui
  | .jr stop qui _ _ => qOk stop qui
  | .ret stop qui _ => qOk stop qui
  | .loopR stop qui _ _ _ l => qOk stop qui && l != 0
  | .chk stop qui _ _ _ => qOk stop qui
  | .chkv stop qui _ _ _ => qOk stop qui
  | .brvAll stop qui _ _ _ => qOk stop qui
  | .brvNone stop qui _ _ _ => qOk stop qui
  | .haltR stop qui _ => qOk stop qui && qui
  | .park stop qui _ _ _ _ => qOk stop qui && qui
  | .yield stop qui _ => qOk stop qui && qui
  | .summit stop qui _ => qOk stop qui && qui
  | .barset stop qui _ _ _ => qOk stop qui
  | .bararr stop qui _ _ => qOk stop qui
  | .barwait stop qui _ _ => qOk stop qui
  | .bartest stop qui _ _ _ => qOk stop qui
  | .ropePair stop qui _ => qOk stop qui && qui
  | .ropeQuad stop qui _ => qOk stop qui && qui
  | .unrope stop qui _ => qOk stop qui && qui
  | .drain stop qui _ x => qOk stop qui && x.ult 5
  | .trapR stop qui _ _ => qOk stop qui
  | .sys stop qui _ _ => qOk stop qui
  | .cread stop qui _ d _ => qOk stop qui && sDst d
  | .cwrite stop qui _ _ _ => qOk stop qui
  | .rfdefer stop qui _ _ => qOk stop qui
  | .tret stop qui _ => qOk stop qui
  | .tretAt stop qui _ _ => qOk stop qui
  | .nopK k _ => k != 0
  | .addR u _ d a b => sDst d && notLitInB u a && notLitInB u b
  | .subR u _ d a b => sDst d && notLitInB u a && notLitInB u b
  | .mulR u _ d a b => sDst d && notLitInB u a && notLitInB u b
  | .mulhs u _ d a b => sDst d && notLitInB u a && notLitInB u b
  | .mulhu u _ d a b => sDst d && notLitInB u a && notLitInB u b
  | .divR u _ d a b => sDst d && notLitInB u a && notLitInB u b
  | .divu u _ d a b => sDst d && notLitInB u a && notLitInB u b
  | .remR u _ d a b => sDst d && notLitInB u a && notLitInB u b
  | .remu u _ d a b => sDst d && notLitInB u a && notLitInB u b
  | .andR u _ d a b => sDst d && notLitInB u a && notLitInB u b
  | .orR u _ d a b => sDst d && notLitInB u a && notLitInB u b
  | .xorR u _ d a b => sDst d && notLitInB u a && notLitInB u b
  | .andn u _ d a b => sDst d && notLitInB u a && notLitInB u b
  | .shl u _ d a b => sDst d && notLitInB u a && notLitInB u b
  | .shr u _ d a b => sDst d && notLitInB u a && notLitInB u b
  | .sar u _ d a b => sDst d && notLitInB u a && notLitInB u b
  | .rol u _ d a b => sDst d && notLitInB u a && notLitInB u b
  | .minR u _ d a b => sDst d && notLitInB u a && notLitInB u b
  | .maxR u _ d a b => sDst d && notLitInB u a && notLitInB u b
  | .minu u _ d a b => sDst d && notLitInB u a && notLitInB u b
  | .maxu u _ d a b => sDst d && notLitInB u a && notLitInB u b
  | .lea u _ d a b _ => sDst d && notLitInB u a && notLitInB u b
  | .sel u _ d a b _ => sDst d && notLitInB u a && notLitInB u b
  | .clz u _ d a => sDst d && notLitInB u a
  | .ctz u _ d a => sDst d && notLitInB u a
  | .popc u _ d a => sDst d && notLitInB u a
  | .rngx u _ d a b => sDst d && notLitInB u a && notLitInB u b
  | .mov u _ d a => sDst d && notLitInB u a
  | .addi u _ d a _ => sDst d && notLitInB u a
  | .andi u _ d a _ => sDst d && notLitInB u a
  | .ori u _ d a _ => sDst d && notLitInB u a
  | .xori u _ d a _ => sDst d && notLitInB u a
  | .shli u _ d a _ => sDst d && notLitInB u a
  | .shri u _ d a _ => sDst d && notLitInB u a
  | .sari u _ d a _ => sDst d && notLitInB u a
  | .roli u _ d a _ => sDst d && notLitInB u a
  | .muli u _ d a _ => sDst d && notLitInB u a
  | .bfx u _ d a _ _ => sDst d && notLitInB u a
  | .bfi u _ d a _ _ => sDst d && d != 63 && notLitInB u a
  | .li _ _ d _ => sDst d
  | .cmpEq u _ _ a b => notLitInB u a && notLitInB u b
  | .cmpNe u _ _ a b => notLitInB u a && notLitInB u b
  | .cmpLt u _ _ a b => notLitInB u a && notLitInB u b
  | .cmpLe u _ _ a b => notLitInB u a && notLitInB u b
  | .cmpLtu u _ _ a b => notLitInB u a && notLitInB u b
  | .cmpLeu u _ _ a b => notLitInB u a && notLitInB u b
  | .cmpiEq u _ _ a _ => notLitInB u a
  | .cmpiLt u _ _ a _ => notLitInB u a
  | .cmpiLtu u _ _ a _ => notLitInB u a
  | .cmpiNe u _ _ a _ => notLitInB u a
  | .pand _ _ _ _ _ => true
  | .por _ _ _ _ _ => true
  | .pxor _ _ _ _ _ => true
  | .pandn _ _ _ _ _ => true
  | .cmpt u _ a b => notLitInB u a && notLitInB u b
  | .cmpti u _ a _ => notLitInB u a
  | .ptest u _ _ a => notLitInB u a
  | .pclr u _ d a => sDst d && notLitInB u a
  | .fadd u _ d a b _ => sDst d && notLitInB u a && notLitInB u b
  | .fsub u _ d a b _ => sDst d && notLitInB u a && notLitInB u b
  | .fmul u _ d a b _ => sDst d && notLitInB u a && notLitInB u b
  | .ffma u _ d a b _ => sDst d && d != 63 && notLitInB u a && notLitInB u b
  | .fmin u _ d a b => sDst d && notLitInB u a && notLitInB u b
  | .fmax u _ d a b => sDst d && notLitInB u a && notLitInB u b
  | .fabs u _ d a => sDst d && notLitInB u a
  | .fneg u _ d a => sDst d && notLitInB u a
  | .fcvtWF u _ d a b _ => sDst d && notLitInB u a && notLitInB u b
  | .fcvtFW u _ d a b _ => sDst d && notLitInB u a && notLitInB u b
  | .fcvtFWu u _ d a b _ => sDst d && notLitInB u a && notLitInB u b
  | .fcvtWuF u _ d a b _ => sDst d && notLitInB u a && notLitInB u b
  | .fcmpEq u _ _ a b => notLitInB u a && notLitInB u b
  | .fcmpLt u _ _ a b => notLitInB u a && notLitInB u b
  | .fcmpLe u _ _ a b => notLitInB u a && notLitInB u b
  | .fcmpUn u _ _ a b => notLitInB u a && notLitInB u b
  | .fclass u _ d a => sDst d && notLitInB u a
  | .ldb _ d _ _ => sDst d
  | .ldbu _ d _ _ => sDst d
  | .ldh _ d _ _ => sDst d
  | .ldhu _ d _ _ => sDst d
  | .ldw _ d _ _ => sDst d
  | .stb _ _ _ _ => true
  | .sth _ _ _ _ => true
  | .stw _ _ _ _ => true
  | .ldwS _ d _ _ => sDst d
  | .ldbuS _ d _ _ => sDst d
  | .ldhuS _ d _ _ => sDst d
  | .ldv _ v _ _ _ => vDst v
  | .stv _ _ _ _ _ => true
  | .ldvS _ v _ _ _ => vDst v
  | .ldmx4 _ v _ _ _ => vDst v
  | .ldmx8 _ v _ _ _ => vDst v
  | .ldvx _ v _ _ _ w => vDst v && w.ult 3
  | .stvx _ _ _ _ _ w => w.ult 3
  | .ldvxS _ v _ _ _ w => vDst v && w.ult 3
  | .shn _ d _ e _ _ => e.ult 4 && vDst d
  | .tsh _ _ _ e _ _ => e.ult 4
  | .vadd _ _ d _ _ _ x => vDst d && x.ult 3
  | .vsub _ _ d _ _ _ x => vDst d && x.ult 3
  | .vmul _ _ d _ _ _ x => vDst d && x.ult 3
  | .vmulh _ _ d _ _ _ x => vDst d && x.ult 3
  | .vmad _ _ d _ _ _ x => vDst d && d != 31 && x.ult 3
  | .vmin _ _ d _ _ _ x => vDst d && x.ult 3
  | .vmax _ _ d _ _ _ x => vDst d && x.ult 3
  | .vminu _ _ d _ _ _ x => vDst d && x.ult 3
  | .vmaxu _ _ d _ _ _ x => vDst d && x.ult 3
  | .vabs _ _ d _ _ x => vDst d && x.ult 3
  | .vand _ _ d _ _ _ x => vDst d && x.ult 3
  | .vor _ _ d _ _ _ x => vDst d && x.ult 3
  | .vxor _ _ d _ _ _ x => vDst d && x.ult 3
  | .vshl _ _ d _ _ _ x => vDst d && x.ult 3
  | .vshr _ _ d _ _ _ x => vDst d && x.ult 3
  | .vsar _ _ d _ _ _ x => vDst d && x.ult 3
  | .vclz _ _ d _ _ x => vDst d && x.ult 3
  | .vpopc _ _ d _ _ x => vDst d && x.ult 3
  | .vadds _ _ d _ _ _ x => vDst d && x.ult 3
  | .vsubs _ _ d _ _ _ x => vDst d && x.ult 3
  | .vcmpEq _ _ _ _ _ _ x => x.ult 3
  | .vcmpNe _ _ _ _ _ _ x => x.ult 3
  | .vcmpLt _ _ _ _ _ _ x => x.ult 3
  | .vcmpLe _ _ _ _ _ _ x => x.ult 3
  | .vcmpLtu _ _ _ _ _ _ x => x.ult 3
  | .vcmpLeu _ _ _ _ _ _ x => x.ult 3
  | .vaddX _ _ d _ _ _ x => vDst d && x.ult 3
  | .vsubX _ _ d _ _ _ x => vDst d && x.ult 3
  | .vmulX _ _ d _ _ _ x => vDst d && x.ult 3
  | .vandX _ _ d _ _ _ x => vDst d && x.ult 3
  | .vshlX _ _ d _ _ _ x => vDst d && x.ult 3
  | .vshrX _ _ d _ _ _ x => vDst d && x.ult 3
  | .vsarX _ _ d _ _ _ x => vDst d && x.ult 3
  | .vcmpEqX _ _ _ _ _ _ x => x.ult 3
  | .vcmpLtX _ _ _ _ _ _ x => x.ult 3
  | .vdup _ _ d _ _ _ x => vDst d && x.ult 3
  | .vins _ _ d _ _ _ x => vDst d && x.ult 3
  | .vext _ _ _ _ _ _ x => x.ult 3
  | .mand _ _ _ _ _ => true
  | .mor _ _ _ _ _ => true
  | .mxor _ _ _ _ _ => true
  | .mandn _ _ _ _ _ => true
  | .mpop _ _ _ _ => true
  | .mfirst _ _ _ _ => true
  | .vsel _ _ d _ _ _ => vDst d
  | .vperm _ _ d _ _ _ x => vDst d && x.ult 3
  | .vrotX _ _ d _ _ _ x => vDst d && x.ult 3
  | .vzip _ _ d _ _ _ x => vDst d && x.ult 3
  | .vunzip _ _ d _ _ _ x => vDst d && x.ult 3
  | .vcompress _ _ d _ _ _ x => vDst d && x.ult 3
  | .vexpand _ _ d _ _ _ x => vDst d && x.ult 3
  | .vidx _ _ d _ x => vDst d && x.ult 3
  | .vredAdd _ _ d _ _ _ x => vDst d && x.ult 3
  | .vredMax _ _ d _ _ _ x => vDst d && x.ult 3
  | .vredMin _ _ d _ _ _ x => vDst d && x.ult 3
  | .vscanAdd _ _ d _ _ _ x => vDst d && x.ult 3
  | .vmredAdd _ _ d _ _ _ x => vDst d && x.ult 3
  | .vmredMax _ _ d _ _ _ x => vDst d && x.ult 3
  | .vmscanAdd _ _ d _ _ _ x => vDst d && x.ult 3
  | .vmcount _ _ d _ _ _ x => vDst d && x.ult 3
  | .vfaddF _ _ d _ _ _ _ => vDst d
  | .vfsubF _ _ d _ _ _ _ => vDst d
  | .vfmulF _ _ d _ _ _ _ => vDst d
  | .vffmaF _ _ d _ _ _ _ => vDst d && d != 31
  | .vfminF _ _ d _ _ _ => vDst d
  | .vfmaxF _ _ d _ _ _ => vDst d
  | .vfabsF _ _ d _ _ => vDst d
  | .vfnegF _ _ d _ _ => vDst d
  | .vfcmpEqF _ _ _ _ _ _ => true
  | .vfcmpLtF _ _ _ _ _ _ => true
  | .vfcmpLeF _ _ _ _ _ _ => true
  | .vfcmpUnF _ _ _ _ _ _ => true
  | .vfaddBf _ _ d _ _ _ _ => vDst d
  | .vfmulBf _ _ d _ _ _ _ => vDst d
  | .vffmaBf _ _ d _ _ _ _ => vDst d && d != 31
  | .vfdotBf _ _ d _ _ _ _ => vDst d && d != 31
  | .vcvtBfF _ _ d _ _ _ _ => vDst d
  | .vcvtF16F _ _ d _ _ _ _ => vDst d
  | .vcvtE4F _ _ d _ _ _ _ => vDst d
  | .vcvtE5F _ _ d _ _ _ _ => vDst d
  | .vcvtE2F _ _ d _ _ _ _ => vDst d
  | .vcvtFBf _ _ d _ _ _ _ => vDst d
  | .vcvtFF16 _ _ d _ _ _ _ => vDst d
  | .vcvtFE4 _ _ d _ _ _ _ => vDst d
  | .vcvtFE5 _ _ d _ _ _ _ => vDst d
  | .vcvtFE2 _ _ d _ _ _ _ => vDst d
  | .vcvtWF _ _ d _ _ _ _ => vDst d
  | .vcvtFW _ _ d _ _ _ _ => vDst d
  | .vcvtBF _ _ d _ _ _ _ => vDst d
  | .vcvtE4FSat _ _ d _ _ _ _ => vDst d
  | .vcvtE5FSat _ _ d _ _ _ _ => vDst d
  | .vpackH _ _ d _ _ _ => vDst d
  | .vpackB _ _ d _ _ _ => vDst d
  | .vpackN _ _ d _ _ _ => vDst d
  | .vunpkLo _ _ d _ t _ => vDst d && t.ult 3
  | .vunpkHi _ _ d _ t _ => vDst d && t.ult 3
  | .vbexp _ _ d _ _ => vDst d
  | .vscalb _ _ d _ _ _ => vDst d
  | .vexp2 _ _ d _ _ _ _ => vDst d
  | .vlog2 _ _ d _ _ _ _ => vDst d
  | .vrcp _ _ d _ _ _ _ => vDst d
  | .vrsqrt _ _ d _ _ _ _ => vDst d
  | .vsqrt _ _ d _ _ _ _ => vDst d
  | .mparmLo _ _ _ => true
  | .mparmHi _ _ _ => true
  | .mcall _ _ b n => (n == 0 || b == 0)
  | .mswap _ b n => (n == 0 || b == 0)
  | .tcfg _ _ _ => true
  | .tzero _ _ => true
  | .trowW _ _ _ _ _ => true
  | .trowR _ v _ _ _ => vDst v
  | .tcolW _ _ _ _ _ => true
  | .tcolR _ v _ _ _ => vDst v
  | .mstat _ _ => true
  | .tdrop _ _ => true
  | .spush _ qx _ => qIn qx
  | .spushv _ qx _ _ => qIn qx
  | .spop _ qx sx => qIn qx && sDst sx
  | .spopv _ qx v _ => qIn qx && vDst v
  | .scard _ qx _ => qIn qx
  | .sroute _ qx _ _ => qIn qx
  | .sstat _ qx sx => qIn qx && sDst sx
  | .sacc _ _ _ o _ _ => o.ult 7
  | .sflush _ => true
  | .swsub _ qx _ _ => qIn qx
  | .swjoin _ qx _ _ => qIn qx
  | .swpop _ sx => sDst sx
  | .swdone _ _ => true
  | .mgpush _ _ _ => true
  | .mgpop _ v _ => vDst v
  | .bundleIssue c => decide (c < 256)
  | .bundleSkip c => decide (c < 256)
  | .segmentExpand c => decide (c < 256)
  | .loopClose c => decide (c < 256)
  | .bivouac c => decide (c < 256)
  | .parkWake _ _ => true
  | .parkTimeout _ _ => true
  | .cairnPickup c _ _ => decide (c < 256)
  | .priorityAging _ _ => true
  | .phaseStart _ => true
  | .summitExchange _ => true
  | .ropeClose c => decide (c < 256)
  | .preemptGrant c => decide (c < 256)
  | .preemptOverrun c => decide (c < 256)
  | .timingEvent c => decide (c < 256)
  | .supplySettled c => decide (c < 256)
  | .marginWindowEnd c => decide (c < 256)
  | .quarantine c => decide (c < 256)
  | .softError c => decide (c < 256)
  | .controlRegisterUpset c _ => decide (c < 256)
  | .verticalWireFailure c twr _ _ => decide (c < 256) && decide (twr < 16)
  | .towerMove c twr => decide (c < 256) && decide (twr < 16)
  | .refreshPending c twr => decide (c < 256) && decide (twr < 16)
  | .refreshPassStart c twr => decide (c < 256) && decide (twr < 16)
  | .refreshPassEnd c twr => decide (c < 256) && decide (twr < 16)
  | .deferralExpiry c => decide (c < 256)
  | .forcedPass c => decide (c < 256)
  | .temperatureChange _ => true
  | .popRelease c => decide (c < 256)
  | .pushRoom c => decide (c < 256)
  | .barwaitRelease c => decide (c < 256)
  | .drainRelease c => decide (c < 256)
  | .sysRingRoom c => decide (c < 256)
  | .matrixQueueRoom c => decide (c < 256)
  | .tileHoldRelease c => decide (c < 256)
  | .tshSourceRelease c => decide (c < 256)
  | .cardRead c fifo => decide (c < 256) && decide (fifo < 33)
  | .copyCard c fifo => decide (c < 256) && decide (fifo < 33)
  | .gatherCard c fifo => decide (c < 256) && decide (fifo < 33)
  | .transposeCard c fifo => decide (c < 256) && decide (fifo < 33)
  | .multicastCard c fifo => decide (c < 256) && decide (fifo < 33)
  | .bankfillCard c fifo => decide (c < 256) && decide (fifo < 33)
  | .offloadCard c fifo => decide (c < 256) && decide (fifo < 33)
  | .reloadCard c fifo => decide (c < 256) && decide (fifo < 33)
  | .decompCard c fifo => decide (c < 256) && decide (fifo < 33)
  | .cardReport c fifo => decide (c < 256) && decide (fifo < 33)
  | .switchHop c fifo => decide (c < 256) && decide (fifo < 33)
  | .clusterStall cl => decide (cl < 64)
  | .mma c => decide (c < 256)
  | .mmo c => decide (c < 256)
  | .mmaMx c => decide (c < 256)
  | .tstore c => decide (c < 256)
  | .tload c => decide (c < 256)
  | .vendorRoutine c => decide (c < 256)
  | .routineStep c => decide (c < 256)
  | .routineComplete c => decide (c < 256)
  | .swapComplete c => decide (c < 256)
  | .matrixUnitClaim c => decide (c < 256)
  | .tileLazyLoad c tile => decide (c < 256) && decide (tile < 8)
  | .powerAlarmRaise => true
  | .powerAlarmClear => true
  | .accumulateArrival c => decide (c < 256)
  | .sflushArrival c => decide (c < 256)
  | .subscription c => decide (c < 256)
  | .pageIssue _ swid _ => decide (swid < 256)
  | .pageLanding _ swid c => decide (swid < 256) && decide (c < 256)
  | .partialCombine c qslot => decide (c < 256) && decide (qslot < 16)
  | .poolEntryFree c => decide (c < 256)
  | .qnotify pn qn _ => decide (pn < 8) && decide (qn < 64)
  | .queueScanTimer pn => decide (pn < 8)
  | .shadowWrite pn qn => decide (pn < 8) && decide (qn < 64)
  | .qridxResync pn qn => decide (pn < 8) && decide (qn < 64)
  | .qstatHaltClear pn qn => decide (pn < 8) && decide (qn < 64)
  | .launchP pn qn => decide (pn < 8) && decide (qn < 64)
  | .signalP pn qn => decide (pn < 8) && decide (qn < 64)
  | .waitP pn qn => decide (pn < 8) && decide (qn < 64)
  | .waitTimeout pn qn => decide (pn < 8) && decide (qn < 64)
  | .markerP pn qn => decide (pn < 8) && decide (qn < 64)
  | .nopPacket pn qn => decide (pn < 8) && decide (qn < 64)
  | .packetAging pn qn => decide (pn < 8) && decide (qn < 64)
  | .kernelCompletion _ => true
  | .partitionReset pn => decide (pn < 8)
  | .unitLoss u => u.wf
  | .translationWalk _ => true
  | .frespWalkAgain pn _ => decide (pn < 8)
  | .frespFail pn _ => decide (pn < 8)
  | .faultTimeout pn _ => decide (pn < 8)
  | .tictlGo pn _ => decide (pn < 8)
  | .invalidationAck pn => decide (pn < 8)
  | .backgroundFill _ _ => true
  | .flitReceive port _ => decide (port < 16)
  | .ridgePacketReceive _ => true
  | .linkDead port => decide (port < 16)
  | .pathLossTimeout modn => decide (modn < 1024)
  | .ingestWrite win _ _ _ => decide (win < 16)
  | .wclose win _ => decide (win < 16)
  | .frameDescriptor win => decide (win < 16)
  | .wcfgEnable win _ => decide (win < 16)
  | .apertureAccess pn _ _ _ _ => decide (pn < 8)
  | .registerWrite pn _ _ => decide (pn < 9)
  | .powerOn => true
  | .moduleReset => true
  | .configOp _ => true
  | .routineOp _ => true
  | .attestOp _ => true
  | .unloadOp _ => true
  | .doubleBitError e => e.wf
  | .configurationRequest _ _ _ => true
  | .i3cManagement _ => true
  | .badOp _ _ => true

end Sys2Proof
end

