-- ==== Sys2Proof/Decode.lean ====
section
/-!
DEFINITION. Slot words to instructions and back (R77 to R92, R106 to R112), compressed segments to
expanded bundles (R116 to R118). Every field is cut out here, once; a word that is no instruction is
refused under the name of what is wrong with it.
-/
namespace Sys2Proof

/-- Why a slot word is no instruction (R112). -/
inductive DecodeError where
  /-- The opcode is reserved (R106 to R111). -/
  | reservedOpcode
  /-- A must-be-zero field is nonzero (R11). -/
  | mustBeZero
  /-- A field holds a value that R112 lists as illegal. -/
  | illegalField
  /-- There is no such slot. -/
  | noSlot
  deriving DecidableEq, Repr

/-- Bits lo+n-1:lo of w (R7). -/
def fld (w lo n : Nat) : Nat := w / 2 ^ lo % 2 ^ n

/-- The instruction when its must-be-zero fields hold zero and its fields are legal. -/
def accept (mbz : Bool) (i : Instr) : Except DecodeError Instr :=
  if mbz then (if i.wf then .ok i else .error .illegalField) else .error .mustBeZero

/-- The word of slot 0 (R92, R106). -/
def decodeC (w : Nat) : Except DecodeError Instr :=
  match fld w 20 6 with
  | 0 => accept (fld w 0 20 == 0) (.nopSlot0 (fld w 31 1 == 1) (fld w 30 1 == 1) (.ofNat 4 (fld w 26 4)))
  | 1 => accept (true) (.br (fld w 31 1 == 1) (fld w 30 1 == 1) (.ofNat 4 (fld w 26 4)) (.ofNat 20 (fld w 0 20)))
  | 2 => accept (true) (.callR (fld w 31 1 == 1) (fld w 30 1 == 1) (.ofNat 4 (fld w 26 4)) (.ofNat 20 (fld w 0 20)))
  | 3 => accept (fld w 0 14 == 0) (.jr (fld w 31 1 == 1) (fld w 30 1 == 1) (.ofNat 4 (fld w 26 4)) (.ofNat 6 (fld w 14 6)))
  | 4 => accept (fld w 0 20 == 0) (.ret (fld w 31 1 == 1) (fld w 30 1 == 1) (.ofNat 4 (fld w 26 4)))
  | 5 => accept (true) (.loopR (fld w 31 1 == 1) (fld w 30 1 == 1) (.ofNat 4 (fld w 26 4)) (.ofNat 1 (fld w 19 1)) (.ofNat 6 (fld w 13 6)) (.ofNat 13 (fld w 0 13)))
  | 6 => accept (true) (.chk (fld w 31 1 == 1) (fld w 30 1 == 1) (.ofNat 4 (fld w 26 4)) (.ofNat 6 (fld w 14 6)) (.ofNat 14 (fld w 0 14)))
  | 7 => accept (true) (.chkv (fld w 31 1 == 1) (fld w 30 1 == 1) (.ofNat 4 (fld w 26 4)) (.ofNat 5 (fld w 15 5)) (.ofNat 15 (fld w 0 15)))
  | 8 =>
    match fld w 18 2 with
    | 0 => accept (true) (.brvAll (fld w 31 1 == 1) (fld w 30 1 == 1) (.ofNat 4 (fld w 26 4)) (.ofNat 3 (fld w 15 3)) (.ofNat 15 (fld w 0 15)))
    | 1 => accept (true) (.brvNone (fld w 31 1 == 1) (fld w 30 1 == 1) (.ofNat 4 (fld w 26 4)) (.ofNat 3 (fld w 15 3)) (.ofNat 15 (fld w 0 15)))
    | _ => .error .illegalField
  | 9 => accept (fld w 0 20 == 0) (.haltR (fld w 31 1 == 1) (fld w 30 1 == 1) (.ofNat 4 (fld w 26 4)))
  | 10 => accept (true) (.park (fld w 31 1 == 1) (fld w 30 1 == 1) (.ofNat 4 (fld w 26 4)) (.ofNat 6 (fld w 14 6)) (.ofNat 6 (fld w 8 6)) (.ofNat 8 (fld w 0 8)))
  | 11 => accept (fld w 0 20 == 0) (.yield (fld w 31 1 == 1) (fld w 30 1 == 1) (.ofNat 4 (fld w 26 4)))
  | 12 => accept (fld w 0 20 == 0) (.summit (fld w 31 1 == 1) (fld w 30 1 == 1) (.ofNat 4 (fld w 26 4)))
  | 13 => accept (fld w 0 7 == 0) (.barset (fld w 31 1 == 1) (fld w 30 1 == 1) (.ofNat 4 (fld w 26 4)) (.ofNat 7 (fld w 13 7)) (.ofNat 6 (fld w 7 6)))
  | 14 => accept (fld w 0 13 == 0) (.bararr (fld w 31 1 == 1) (fld w 30 1 == 1) (.ofNat 4 (fld w 26 4)) (.ofNat 7 (fld w 13 7)))
  | 15 => accept (fld w 0 13 == 0) (.barwait (fld w 31 1 == 1) (fld w 30 1 == 1) (.ofNat 4 (fld w 26 4)) (.ofNat 7 (fld w 13 7)))
  | 16 => accept (fld w 3 10 == 0) (.bartest (fld w 31 1 == 1) (fld w 30 1 == 1) (.ofNat 4 (fld w 26 4)) (.ofNat 7 (fld w 13 7)) (.ofNat 3 (fld w 0 3)))
  | 17 =>
    match fld w 18 2 with
    | 0 => accept (fld w 0 18 == 0) (.ropePair (fld w 31 1 == 1) (fld w 30 1 == 1) (.ofNat 4 (fld w 26 4)))
    | 1 => accept (fld w 0 18 == 0) (.ropeQuad (fld w 31 1 == 1) (fld w 30 1 == 1) (.ofNat 4 (fld w 26 4)))
    | _ => .error .illegalField
  | 18 => accept (fld w 0 20 == 0) (.unrope (fld w 31 1 == 1) (fld w 30 1 == 1) (.ofNat 4 (fld w 26 4)))
  | 19 => accept (fld w 0 17 == 0) (.drain (fld w 31 1 == 1) (fld w 30 1 == 1) (.ofNat 4 (fld w 26 4)) (.ofNat 3 (fld w 17 3)))
  | 20 => accept (fld w 16 4 == 0) (.trapR (fld w 31 1 == 1) (fld w 30 1 == 1) (.ofNat 4 (fld w 26 4)) (.ofNat 16 (fld w 0 16)))
  | 21 => accept (fld w 16 4 == 0) (.sys (fld w 31 1 == 1) (fld w 30 1 == 1) (.ofNat 4 (fld w 26 4)) (.ofNat 16 (fld w 0 16)))
  | 22 => accept (fld w 12 2 == 0) (.cread (fld w 31 1 == 1) (fld w 30 1 == 1) (.ofNat 4 (fld w 26 4)) (.ofNat 6 (fld w 14 6)) (.ofNat 12 (fld w 0 12)))
  | 23 => accept (fld w 6 2 == 0) (.cwrite (fld w 31 1 == 1) (fld w 30 1 == 1) (.ofNat 4 (fld w 26 4)) (.ofNat 12 (fld w 8 12)) (.ofNat 6 (fld w 0 6)))
  | 24 => accept (fld w 0 14 == 0) (.rfdefer (fld w 31 1 == 1) (fld w 30 1 == 1) (.ofNat 4 (fld w 26 4)) (.ofNat 6 (fld w 14 6)))
  | 25 => accept (fld w 0 20 == 0) (.tret (fld w 31 1 == 1) (fld w 30 1 == 1) (.ofNat 4 (fld w 26 4)))
  | 26 => accept (fld w 0 14 == 0) (.tretAt (fld w 31 1 == 1) (fld w 30 1 == 1) (.ofNat 4 (fld w 26 4)) (.ofNat 6 (fld w 14 6)))
  | _ => .error .reservedOpcode

/-- The word of slots 1 and 2 (R87, R107). -/
def decodeAB (k : BitVec 3) (u : SUnit) (w : Nat) : Except DecodeError Instr :=
  match fld w 21 7 with
  | 0 => accept (fld w 0 21 == 0) (.nopK k (.ofNat 4 (fld w 28 4)))
  | 1 => accept (fld w 0 3 == 0) (.addR u (.ofNat 4 (fld w 28 4)) (.ofNat 6 (fld w 15 6)) (.ofNat 6 (fld w 9 6)) (.ofNat 6 (fld w 3 6)))
  | 2 => accept (fld w 0 3 == 0) (.subR u (.ofNat 4 (fld w 28 4)) (.ofNat 6 (fld w 15 6)) (.ofNat 6 (fld w 9 6)) (.ofNat 6 (fld w 3 6)))
  | 3 => accept (fld w 0 3 == 0) (.mulR u (.ofNat 4 (fld w 28 4)) (.ofNat 6 (fld w 15 6)) (.ofNat 6 (fld w 9 6)) (.ofNat 6 (fld w 3 6)))
  | 4 => accept (fld w 0 3 == 0) (.mulhs u (.ofNat 4 (fld w 28 4)) (.ofNat 6 (fld w 15 6)) (.ofNat 6 (fld w 9 6)) (.ofNat 6 (fld w 3 6)))
  | 5 => accept (fld w 0 3 == 0) (.mulhu u (.ofNat 4 (fld w 28 4)) (.ofNat 6 (fld w 15 6)) (.ofNat 6 (fld w 9 6)) (.ofNat 6 (fld w 3 6)))
  | 6 => accept (fld w 0 3 == 0) (.divR u (.ofNat 4 (fld w 28 4)) (.ofNat 6 (fld w 15 6)) (.ofNat 6 (fld w 9 6)) (.ofNat 6 (fld w 3 6)))
  | 7 => accept (fld w 0 3 == 0) (.divu u (.ofNat 4 (fld w 28 4)) (.ofNat 6 (fld w 15 6)) (.ofNat 6 (fld w 9 6)) (.ofNat 6 (fld w 3 6)))
  | 8 => accept (fld w 0 3 == 0) (.remR u (.ofNat 4 (fld w 28 4)) (.ofNat 6 (fld w 15 6)) (.ofNat 6 (fld w 9 6)) (.ofNat 6 (fld w 3 6)))
  | 9 => accept (fld w 0 3 == 0) (.remu u (.ofNat 4 (fld w 28 4)) (.ofNat 6 (fld w 15 6)) (.ofNat 6 (fld w 9 6)) (.ofNat 6 (fld w 3 6)))
  | 10 => accept (fld w 0 3 == 0) (.andR u (.ofNat 4 (fld w 28 4)) (.ofNat 6 (fld w 15 6)) (.ofNat 6 (fld w 9 6)) (.ofNat 6 (fld w 3 6)))
  | 11 => accept (fld w 0 3 == 0) (.orR u (.ofNat 4 (fld w 28 4)) (.ofNat 6 (fld w 15 6)) (.ofNat 6 (fld w 9 6)) (.ofNat 6 (fld w 3 6)))
  | 12 => accept (fld w 0 3 == 0) (.xorR u (.ofNat 4 (fld w 28 4)) (.ofNat 6 (fld w 15 6)) (.ofNat 6 (fld w 9 6)) (.ofNat 6 (fld w 3 6)))
  | 13 => accept (fld w 0 3 == 0) (.andn u (.ofNat 4 (fld w 28 4)) (.ofNat 6 (fld w 15 6)) (.ofNat 6 (fld w 9 6)) (.ofNat 6 (fld w 3 6)))
  | 14 => accept (fld w 0 3 == 0) (.shl u (.ofNat 4 (fld w 28 4)) (.ofNat 6 (fld w 15 6)) (.ofNat 6 (fld w 9 6)) (.ofNat 6 (fld w 3 6)))
  | 15 => accept (fld w 0 3 == 0) (.shr u (.ofNat 4 (fld w 28 4)) (.ofNat 6 (fld w 15 6)) (.ofNat 6 (fld w 9 6)) (.ofNat 6 (fld w 3 6)))
  | 16 => accept (fld w 0 3 == 0) (.sar u (.ofNat 4 (fld w 28 4)) (.ofNat 6 (fld w 15 6)) (.ofNat 6 (fld w 9 6)) (.ofNat 6 (fld w 3 6)))
  | 17 => accept (fld w 0 3 == 0) (.rol u (.ofNat 4 (fld w 28 4)) (.ofNat 6 (fld w 15 6)) (.ofNat 6 (fld w 9 6)) (.ofNat 6 (fld w 3 6)))
  | 18 => accept (fld w 0 3 == 0) (.minR u (.ofNat 4 (fld w 28 4)) (.ofNat 6 (fld w 15 6)) (.ofNat 6 (fld w 9 6)) (.ofNat 6 (fld w 3 6)))
  | 19 => accept (fld w 0 3 == 0) (.maxR u (.ofNat 4 (fld w 28 4)) (.ofNat 6 (fld w 15 6)) (.ofNat 6 (fld w 9 6)) (.ofNat 6 (fld w 3 6)))
  | 20 => accept (fld w 0 3 == 0) (.minu u (.ofNat 4 (fld w 28 4)) (.ofNat 6 (fld w 15 6)) (.ofNat 6 (fld w 9 6)) (.ofNat 6 (fld w 3 6)))
  | 21 => accept (fld w 0 3 == 0) (.maxu u (.ofNat 4 (fld w 28 4)) (.ofNat 6 (fld w 15 6)) (.ofNat 6 (fld w 9 6)) (.ofNat 6 (fld w 3 6)))
  | 22 => accept (true) (.lea u (.ofNat 4 (fld w 28 4)) (.ofNat 6 (fld w 15 6)) (.ofNat 6 (fld w 9 6)) (.ofNat 6 (fld w 3 6)) (.ofNat 3 (fld w 0 3)))
  | 23 => accept (true) (.sel u (.ofNat 4 (fld w 28 4)) (.ofNat 6 (fld w 15 6)) (.ofNat 6 (fld w 9 6)) (.ofNat 6 (fld w 3 6)) (.ofNat 3 (fld w 0 3)))
  | 24 => accept (fld w 0 9 == 0) (.clz u (.ofNat 4 (fld w 28 4)) (.ofNat 6 (fld w 15 6)) (.ofNat 6 (fld w 9 6)))
  | 25 => accept (fld w 0 9 == 0) (.ctz u (.ofNat 4 (fld w 28 4)) (.ofNat 6 (fld w 15 6)) (.ofNat 6 (fld w 9 6)))
  | 26 => accept (fld w 0 9 == 0) (.popc u (.ofNat 4 (fld w 28 4)) (.ofNat 6 (fld w 15 6)) (.ofNat 6 (fld w 9 6)))
  | 27 => accept (fld w 0 3 == 0) (.rngx u (.ofNat 4 (fld w 28 4)) (.ofNat 6 (fld w 15 6)) (.ofNat 6 (fld w 9 6)) (.ofNat 6 (fld w 3 6)))
  | 28 => accept (fld w 0 9 == 0) (.mov u (.ofNat 4 (fld w 28 4)) (.ofNat 6 (fld w 15 6)) (.ofNat 6 (fld w 9 6)))
  | 32 => accept (true) (.addi u (.ofNat 4 (fld w 28 4)) (.ofNat 6 (fld w 15 6)) (.ofNat 6 (fld w 9 6)) (.ofNat 9 (fld w 0 9)))
  | 33 => accept (true) (.andi u (.ofNat 4 (fld w 28 4)) (.ofNat 6 (fld w 15 6)) (.ofNat 6 (fld w 9 6)) (.ofNat 9 (fld w 0 9)))
  | 34 => accept (true) (.ori u (.ofNat 4 (fld w 28 4)) (.ofNat 6 (fld w 15 6)) (.ofNat 6 (fld w 9 6)) (.ofNat 9 (fld w 0 9)))
  | 35 => accept (true) (.xori u (.ofNat 4 (fld w 28 4)) (.ofNat 6 (fld w 15 6)) (.ofNat 6 (fld w 9 6)) (.ofNat 9 (fld w 0 9)))
  | 36 => accept (fld w 5 4 == 0) (.shli u (.ofNat 4 (fld w 28 4)) (.ofNat 6 (fld w 15 6)) (.ofNat 6 (fld w 9 6)) (.ofNat 5 (fld w 0 5)))
  | 37 => accept (fld w 5 4 == 0) (.shri u (.ofNat 4 (fld w 28 4)) (.ofNat 6 (fld w 15 6)) (.ofNat 6 (fld w 9 6)) (.ofNat 5 (fld w 0 5)))
  | 38 => accept (fld w 5 4 == 0) (.sari u (.ofNat 4 (fld w 28 4)) (.ofNat 6 (fld w 15 6)) (.ofNat 6 (fld w 9 6)) (.ofNat 5 (fld w 0 5)))
  | 39 => accept (fld w 5 4 == 0) (.roli u (.ofNat 4 (fld w 28 4)) (.ofNat 6 (fld w 15 6)) (.ofNat 6 (fld w 9 6)) (.ofNat 5 (fld w 0 5)))
  | 40 => accept (true) (.muli u (.ofNat 4 (fld w 28 4)) (.ofNat 6 (fld w 15 6)) (.ofNat 6 (fld w 9 6)) (.ofNat 9 (fld w 0 9)))
  | 41 => accept (true) (.bfx u (.ofNat 4 (fld w 28 4)) (.ofNat 6 (fld w 15 6)) (.ofNat 6 (fld w 9 6)) (.ofNat 5 (fld w 4 5)) (.ofNat 4 (fld w 0 4)))
  | 42 => accept (true) (.bfi u (.ofNat 4 (fld w 28 4)) (.ofNat 6 (fld w 15 6)) (.ofNat 6 (fld w 9 6)) (.ofNat 5 (fld w 4 5)) (.ofNat 4 (fld w 0 4)))
  | 44 => accept (true) (.li u (.ofNat 4 (fld w 28 4)) (.ofNat 6 (fld w 15 6)) (.ofNat 15 (fld w 0 15)))
  | 48 => accept (fld w 0 3 == 0 && fld w 18 3 == 0) (.cmpEq u (.ofNat 4 (fld w 28 4)) (.ofNat 3 (fld w 15 3)) (.ofNat 6 (fld w 9 6)) (.ofNat 6 (fld w 3 6)))
  | 49 => accept (fld w 0 3 == 0 && fld w 18 3 == 0) (.cmpNe u (.ofNat 4 (fld w 28 4)) (.ofNat 3 (fld w 15 3)) (.ofNat 6 (fld w 9 6)) (.ofNat 6 (fld w 3 6)))
  | 50 => accept (fld w 0 3 == 0 && fld w 18 3 == 0) (.cmpLt u (.ofNat 4 (fld w 28 4)) (.ofNat 3 (fld w 15 3)) (.ofNat 6 (fld w 9 6)) (.ofNat 6 (fld w 3 6)))
  | 51 => accept (fld w 0 3 == 0 && fld w 18 3 == 0) (.cmpLe u (.ofNat 4 (fld w 28 4)) (.ofNat 3 (fld w 15 3)) (.ofNat 6 (fld w 9 6)) (.ofNat 6 (fld w 3 6)))
  | 52 => accept (fld w 0 3 == 0 && fld w 18 3 == 0) (.cmpLtu u (.ofNat 4 (fld w 28 4)) (.ofNat 3 (fld w 15 3)) (.ofNat 6 (fld w 9 6)) (.ofNat 6 (fld w 3 6)))
  | 53 => accept (fld w 0 3 == 0 && fld w 18 3 == 0) (.cmpLeu u (.ofNat 4 (fld w 28 4)) (.ofNat 3 (fld w 15 3)) (.ofNat 6 (fld w 9 6)) (.ofNat 6 (fld w 3 6)))
  | 54 => accept (fld w 18 3 == 0) (.cmpiEq u (.ofNat 4 (fld w 28 4)) (.ofNat 3 (fld w 15 3)) (.ofNat 6 (fld w 9 6)) (.ofNat 9 (fld w 0 9)))
  | 55 => accept (fld w 18 3 == 0) (.cmpiLt u (.ofNat 4 (fld w 28 4)) (.ofNat 3 (fld w 15 3)) (.ofNat 6 (fld w 9 6)) (.ofNat 9 (fld w 0 9)))
  | 56 => accept (fld w 18 3 == 0) (.cmpiLtu u (.ofNat 4 (fld w 28 4)) (.ofNat 3 (fld w 15 3)) (.ofNat 6 (fld w 9 6)) (.ofNat 9 (fld w 0 9)))
  | 57 => accept (fld w 18 3 == 0) (.cmpiNe u (.ofNat 4 (fld w 28 4)) (.ofNat 3 (fld w 15 3)) (.ofNat 6 (fld w 9 6)) (.ofNat 9 (fld w 0 9)))
  | 58 => accept (fld w 0 9 == 0 && fld w 18 3 == 0) (.pand u (.ofNat 4 (fld w 28 4)) (.ofNat 3 (fld w 15 3)) (.ofNat 3 (fld w 12 3)) (.ofNat 3 (fld w 9 3)))
  | 59 => accept (fld w 0 9 == 0 && fld w 18 3 == 0) (.por u (.ofNat 4 (fld w 28 4)) (.ofNat 3 (fld w 15 3)) (.ofNat 3 (fld w 12 3)) (.ofNat 3 (fld w 9 3)))
  | 60 => accept (fld w 0 9 == 0 && fld w 18 3 == 0) (.pxor u (.ofNat 4 (fld w 28 4)) (.ofNat 3 (fld w 15 3)) (.ofNat 3 (fld w 12 3)) (.ofNat 3 (fld w 9 3)))
  | 61 => accept (fld w 0 9 == 0 && fld w 18 3 == 0) (.pandn u (.ofNat 4 (fld w 28 4)) (.ofNat 3 (fld w 15 3)) (.ofNat 3 (fld w 12 3)) (.ofNat 3 (fld w 9 3)))
  | 62 => accept (fld w 0 3 == 0 && fld w 15 6 == 0) (.cmpt u (.ofNat 4 (fld w 28 4)) (.ofNat 6 (fld w 9 6)) (.ofNat 6 (fld w 3 6)))
  | 63 => accept (fld w 15 6 == 0) (.cmpti u (.ofNat 4 (fld w 28 4)) (.ofNat 6 (fld w 9 6)) (.ofNat 9 (fld w 0 9)))
  | 64 => accept (fld w 0 9 == 0 && fld w 18 3 == 0) (.ptest u (.ofNat 4 (fld w 28 4)) (.ofNat 3 (fld w 15 3)) (.ofNat 6 (fld w 9 6)))
  | 65 => accept (fld w 0 9 == 0) (.pclr u (.ofNat 4 (fld w 28 4)) (.ofNat 6 (fld w 15 6)) (.ofNat 6 (fld w 9 6)))
  | 72 => accept (true) (.fadd u (.ofNat 4 (fld w 28 4)) (.ofNat 6 (fld w 15 6)) (.ofNat 6 (fld w 9 6)) (.ofNat 6 (fld w 3 6)) (.ofNat 3 (fld w 0 3)))
  | 73 => accept (true) (.fsub u (.ofNat 4 (fld w 28 4)) (.ofNat 6 (fld w 15 6)) (.ofNat 6 (fld w 9 6)) (.ofNat 6 (fld w 3 6)) (.ofNat 3 (fld w 0 3)))
  | 74 => accept (true) (.fmul u (.ofNat 4 (fld w 28 4)) (.ofNat 6 (fld w 15 6)) (.ofNat 6 (fld w 9 6)) (.ofNat 6 (fld w 3 6)) (.ofNat 3 (fld w 0 3)))
  | 75 => accept (true) (.ffma u (.ofNat 4 (fld w 28 4)) (.ofNat 6 (fld w 15 6)) (.ofNat 6 (fld w 9 6)) (.ofNat 6 (fld w 3 6)) (.ofNat 3 (fld w 0 3)))
  | 76 => accept (fld w 0 3 == 0) (.fmin u (.ofNat 4 (fld w 28 4)) (.ofNat 6 (fld w 15 6)) (.ofNat 6 (fld w 9 6)) (.ofNat 6 (fld w 3 6)))
  | 77 => accept (fld w 0 3 == 0) (.fmax u (.ofNat 4 (fld w 28 4)) (.ofNat 6 (fld w 15 6)) (.ofNat 6 (fld w 9 6)) (.ofNat 6 (fld w 3 6)))
  | 78 => accept (fld w 0 9 == 0) (.fabs u (.ofNat 4 (fld w 28 4)) (.ofNat 6 (fld w 15 6)) (.ofNat 6 (fld w 9 6)))
  | 79 => accept (fld w 0 9 == 0) (.fneg u (.ofNat 4 (fld w 28 4)) (.ofNat 6 (fld w 15 6)) (.ofNat 6 (fld w 9 6)))
  | 80 => accept (true) (.fcvtWF u (.ofNat 4 (fld w 28 4)) (.ofNat 6 (fld w 15 6)) (.ofNat 6 (fld w 9 6)) (.ofNat 6 (fld w 3 6)) (.ofNat 3 (fld w 0 3)))
  | 81 => accept (true) (.fcvtFW u (.ofNat 4 (fld w 28 4)) (.ofNat 6 (fld w 15 6)) (.ofNat 6 (fld w 9 6)) (.ofNat 6 (fld w 3 6)) (.ofNat 3 (fld w 0 3)))
  | 82 => accept (true) (.fcvtFWu u (.ofNat 4 (fld w 28 4)) (.ofNat 6 (fld w 15 6)) (.ofNat 6 (fld w 9 6)) (.ofNat 6 (fld w 3 6)) (.ofNat 3 (fld w 0 3)))
  | 83 => accept (true) (.fcvtWuF u (.ofNat 4 (fld w 28 4)) (.ofNat 6 (fld w 15 6)) (.ofNat 6 (fld w 9 6)) (.ofNat 6 (fld w 3 6)) (.ofNat 3 (fld w 0 3)))
  | 84 => accept (fld w 0 3 == 0 && fld w 18 3 == 0) (.fcmpEq u (.ofNat 4 (fld w 28 4)) (.ofNat 3 (fld w 15 3)) (.ofNat 6 (fld w 9 6)) (.ofNat 6 (fld w 3 6)))
  | 85 => accept (fld w 0 3 == 0 && fld w 18 3 == 0) (.fcmpLt u (.ofNat 4 (fld w 28 4)) (.ofNat 3 (fld w 15 3)) (.ofNat 6 (fld w 9 6)) (.ofNat 6 (fld w 3 6)))
  | 86 => accept (fld w 0 3 == 0 && fld w 18 3 == 0) (.fcmpLe u (.ofNat 4 (fld w 28 4)) (.ofNat 3 (fld w 15 3)) (.ofNat 6 (fld w 9 6)) (.ofNat 6 (fld w 3 6)))
  | 87 => accept (fld w 0 3 == 0 && fld w 18 3 == 0) (.fcmpUn u (.ofNat 4 (fld w 28 4)) (.ofNat 3 (fld w 15 3)) (.ofNat 6 (fld w 9 6)) (.ofNat 6 (fld w 3 6)))
  | 88 => accept (fld w 0 9 == 0) (.fclass u (.ofNat 4 (fld w 28 4)) (.ofNat 6 (fld w 15 6)) (.ofNat 6 (fld w 9 6)))
  | _ => .error .reservedOpcode

/-- The word of slot 3 (R89, R108). -/
def decodeM (k : BitVec 3) (w : Nat) : Except DecodeError Instr :=
  match fld w 21 7 with
  | 0 => accept (fld w 0 21 == 0) (.nopK k (.ofNat 4 (fld w 28 4)))
  | 1 => accept (true) (.ldb (.ofNat 4 (fld w 28 4)) (.ofNat 6 (fld w 15 6)) (.ofNat 6 (fld w 9 6)) (.ofNat 9 (fld w 0 9)))
  | 2 => accept (true) (.ldbu (.ofNat 4 (fld w 28 4)) (.ofNat 6 (fld w 15 6)) (.ofNat 6 (fld w 9 6)) (.ofNat 9 (fld w 0 9)))
  | 3 => accept (true) (.ldh (.ofNat 4 (fld w 28 4)) (.ofNat 6 (fld w 15 6)) (.ofNat 6 (fld w 9 6)) (.ofNat 9 (fld w 0 9)))
  | 4 => accept (true) (.ldhu (.ofNat 4 (fld w 28 4)) (.ofNat 6 (fld w 15 6)) (.ofNat 6 (fld w 9 6)) (.ofNat 9 (fld w 0 9)))
  | 5 => accept (true) (.ldw (.ofNat 4 (fld w 28 4)) (.ofNat 6 (fld w 15 6)) (.ofNat 6 (fld w 9 6)) (.ofNat 9 (fld w 0 9)))
  | 6 => accept (true) (.stb (.ofNat 4 (fld w 28 4)) (.ofNat 6 (fld w 15 6)) (.ofNat 6 (fld w 9 6)) (.ofNat 9 (fld w 0 9)))
  | 7 => accept (true) (.sth (.ofNat 4 (fld w 28 4)) (.ofNat 6 (fld w 15 6)) (.ofNat 6 (fld w 9 6)) (.ofNat 9 (fld w 0 9)))
  | 8 => accept (true) (.stw (.ofNat 4 (fld w 28 4)) (.ofNat 6 (fld w 15 6)) (.ofNat 6 (fld w 9 6)) (.ofNat 9 (fld w 0 9)))
  | 9 => accept (true) (.ldwS (.ofNat 4 (fld w 28 4)) (.ofNat 6 (fld w 15 6)) (.ofNat 6 (fld w 9 6)) (.ofNat 9 (fld w 0 9)))
  | 10 => accept (true) (.ldbuS (.ofNat 4 (fld w 28 4)) (.ofNat 6 (fld w 15 6)) (.ofNat 6 (fld w 9 6)) (.ofNat 9 (fld w 0 9)))
  | 11 => accept (true) (.ldhuS (.ofNat 4 (fld w 28 4)) (.ofNat 6 (fld w 15 6)) (.ofNat 6 (fld w 9 6)) (.ofNat 9 (fld w 0 9)))
  | 16 => accept (true) (.ldv (.ofNat 4 (fld w 28 4)) (.ofNat 5 (fld w 16 5)) (.ofNat 6 (fld w 10 6)) (.ofNat 7 (fld w 3 7)) (.ofNat 3 (fld w 0 3)))
  | 17 => accept (true) (.stv (.ofNat 4 (fld w 28 4)) (.ofNat 5 (fld w 16 5)) (.ofNat 6 (fld w 10 6)) (.ofNat 7 (fld w 3 7)) (.ofNat 3 (fld w 0 3)))
  | 18 => accept (true) (.ldvS (.ofNat 4 (fld w 28 4)) (.ofNat 5 (fld w 16 5)) (.ofNat 6 (fld w 10 6)) (.ofNat 7 (fld w 3 7)) (.ofNat 3 (fld w 0 3)))
  | 19 => accept (true) (.ldmx4 (.ofNat 4 (fld w 28 4)) (.ofNat 5 (fld w 16 5)) (.ofNat 6 (fld w 10 6)) (.ofNat 7 (fld w 3 7)) (.ofNat 3 (fld w 0 3)))
  | 20 => accept (true) (.ldmx8 (.ofNat 4 (fld w 28 4)) (.ofNat 5 (fld w 16 5)) (.ofNat 6 (fld w 10 6)) (.ofNat 7 (fld w 3 7)) (.ofNat 3 (fld w 0 3)))
  | 24 => accept (true) (.ldvx (.ofNat 4 (fld w 28 4)) (.ofNat 5 (fld w 16 5)) (.ofNat 5 (fld w 11 5)) (.ofNat 6 (fld w 5 6)) (.ofNat 2 (fld w 3 2)) (.ofNat 3 (fld w 0 3)))
  | 25 => accept (true) (.stvx (.ofNat 4 (fld w 28 4)) (.ofNat 5 (fld w 16 5)) (.ofNat 5 (fld w 11 5)) (.ofNat 6 (fld w 5 6)) (.ofNat 2 (fld w 3 2)) (.ofNat 3 (fld w 0 3)))
  | 26 => accept (true) (.ldvxS (.ofNat 4 (fld w 28 4)) (.ofNat 5 (fld w 16 5)) (.ofNat 5 (fld w 11 5)) (.ofNat 6 (fld w 5 6)) (.ofNat 2 (fld w 3 2)) (.ofNat 3 (fld w 0 3)))
  | 32 => accept (true) (.shn (.ofNat 4 (fld w 28 4)) (.ofNat 5 (fld w 16 5)) (.ofNat 5 (fld w 11 5)) (.ofNat 3 (fld w 8 3)) (.ofNat 5 (fld w 3 5)) (.ofNat 3 (fld w 0 3)))
  | 33 => accept (true) (.tsh (.ofNat 4 (fld w 28 4)) (.ofNat 5 (fld w 16 5)) (.ofNat 5 (fld w 11 5)) (.ofNat 3 (fld w 8 3)) (.ofNat 5 (fld w 3 5)) (.ofNat 3 (fld w 0 3)))
  | _ => .error .reservedOpcode

/-- The word of slots 4 and 5 (R88, R109). -/
def decodeVW (k : BitVec 3) (u : VUnit) (w : Nat) : Except DecodeError Instr :=
  match fld w 21 7 with
  | 0 => accept (fld w 0 21 == 0) (.nopK k (.ofNat 4 (fld w 28 4)))
  | 1 => accept (true) (.vadd u (.ofNat 4 (fld w 28 4)) (.ofNat 5 (fld w 16 5)) (.ofNat 5 (fld w 11 5)) (.ofNat 5 (fld w 6 5)) (.ofNat 3 (fld w 3 3)) (.ofNat 3 (fld w 0 3)))
  | 2 => accept (true) (.vsub u (.ofNat 4 (fld w 28 4)) (.ofNat 5 (fld w 16 5)) (.ofNat 5 (fld w 11 5)) (.ofNat 5 (fld w 6 5)) (.ofNat 3 (fld w 3 3)) (.ofNat 3 (fld w 0 3)))
  | 3 => accept (true) (.vmul u (.ofNat 4 (fld w 28 4)) (.ofNat 5 (fld w 16 5)) (.ofNat 5 (fld w 11 5)) (.ofNat 5 (fld w 6 5)) (.ofNat 3 (fld w 3 3)) (.ofNat 3 (fld w 0 3)))
  | 4 => accept (true) (.vmulh u (.ofNat 4 (fld w 28 4)) (.ofNat 5 (fld w 16 5)) (.ofNat 5 (fld w 11 5)) (.ofNat 5 (fld w 6 5)) (.ofNat 3 (fld w 3 3)) (.ofNat 3 (fld w 0 3)))
  | 5 => accept (true) (.vmad u (.ofNat 4 (fld w 28 4)) (.ofNat 5 (fld w 16 5)) (.ofNat 5 (fld w 11 5)) (.ofNat 5 (fld w 6 5)) (.ofNat 3 (fld w 3 3)) (.ofNat 3 (fld w 0 3)))
  | 6 => accept (true) (.vmin u (.ofNat 4 (fld w 28 4)) (.ofNat 5 (fld w 16 5)) (.ofNat 5 (fld w 11 5)) (.ofNat 5 (fld w 6 5)) (.ofNat 3 (fld w 3 3)) (.ofNat 3 (fld w 0 3)))
  | 7 => accept (true) (.vmax u (.ofNat 4 (fld w 28 4)) (.ofNat 5 (fld w 16 5)) (.ofNat 5 (fld w 11 5)) (.ofNat 5 (fld w 6 5)) (.ofNat 3 (fld w 3 3)) (.ofNat 3 (fld w 0 3)))
  | 8 => accept (true) (.vminu u (.ofNat 4 (fld w 28 4)) (.ofNat 5 (fld w 16 5)) (.ofNat 5 (fld w 11 5)) (.ofNat 5 (fld w 6 5)) (.ofNat 3 (fld w 3 3)) (.ofNat 3 (fld w 0 3)))
  | 9 => accept (true) (.vmaxu u (.ofNat 4 (fld w 28 4)) (.ofNat 5 (fld w 16 5)) (.ofNat 5 (fld w 11 5)) (.ofNat 5 (fld w 6 5)) (.ofNat 3 (fld w 3 3)) (.ofNat 3 (fld w 0 3)))
  | 10 => accept (fld w 6 5 == 0) (.vabs u (.ofNat 4 (fld w 28 4)) (.ofNat 5 (fld w 16 5)) (.ofNat 5 (fld w 11 5)) (.ofNat 3 (fld w 3 3)) (.ofNat 3 (fld w 0 3)))
  | 11 => accept (true) (.vand u (.ofNat 4 (fld w 28 4)) (.ofNat 5 (fld w 16 5)) (.ofNat 5 (fld w 11 5)) (.ofNat 5 (fld w 6 5)) (.ofNat 3 (fld w 3 3)) (.ofNat 3 (fld w 0 3)))
  | 12 => accept (true) (.vor u (.ofNat 4 (fld w 28 4)) (.ofNat 5 (fld w 16 5)) (.ofNat 5 (fld w 11 5)) (.ofNat 5 (fld w 6 5)) (.ofNat 3 (fld w 3 3)) (.ofNat 3 (fld w 0 3)))
  | 13 => accept (true) (.vxor u (.ofNat 4 (fld w 28 4)) (.ofNat 5 (fld w 16 5)) (.ofNat 5 (fld w 11 5)) (.ofNat 5 (fld w 6 5)) (.ofNat 3 (fld w 3 3)) (.ofNat 3 (fld w 0 3)))
  | 14 => accept (true) (.vshl u (.ofNat 4 (fld w 28 4)) (.ofNat 5 (fld w 16 5)) (.ofNat 5 (fld w 11 5)) (.ofNat 5 (fld w 6 5)) (.ofNat 3 (fld w 3 3)) (.ofNat 3 (fld w 0 3)))
  | 15 => accept (true) (.vshr u (.ofNat 4 (fld w 28 4)) (.ofNat 5 (fld w 16 5)) (.ofNat 5 (fld w 11 5)) (.ofNat 5 (fld w 6 5)) (.ofNat 3 (fld w 3 3)) (.ofNat 3 (fld w 0 3)))
  | 16 => accept (true) (.vsar u (.ofNat 4 (fld w 28 4)) (.ofNat 5 (fld w 16 5)) (.ofNat 5 (fld w 11 5)) (.ofNat 5 (fld w 6 5)) (.ofNat 3 (fld w 3 3)) (.ofNat 3 (fld w 0 3)))
  | 17 => accept (fld w 6 5 == 0) (.vclz u (.ofNat 4 (fld w 28 4)) (.ofNat 5 (fld w 16 5)) (.ofNat 5 (fld w 11 5)) (.ofNat 3 (fld w 3 3)) (.ofNat 3 (fld w 0 3)))
  | 18 => accept (fld w 6 5 == 0) (.vpopc u (.ofNat 4 (fld w 28 4)) (.ofNat 5 (fld w 16 5)) (.ofNat 5 (fld w 11 5)) (.ofNat 3 (fld w 3 3)) (.ofNat 3 (fld w 0 3)))
  | 19 => accept (true) (.vadds u (.ofNat 4 (fld w 28 4)) (.ofNat 5 (fld w 16 5)) (.ofNat 5 (fld w 11 5)) (.ofNat 5 (fld w 6 5)) (.ofNat 3 (fld w 3 3)) (.ofNat 3 (fld w 0 3)))
  | 20 => accept (true) (.vsubs u (.ofNat 4 (fld w 28 4)) (.ofNat 5 (fld w 16 5)) (.ofNat 5 (fld w 11 5)) (.ofNat 5 (fld w 6 5)) (.ofNat 3 (fld w 3 3)) (.ofNat 3 (fld w 0 3)))
  | 24 => accept (fld w 19 2 == 0) (.vcmpEq u (.ofNat 4 (fld w 28 4)) (.ofNat 3 (fld w 16 3)) (.ofNat 5 (fld w 11 5)) (.ofNat 5 (fld w 6 5)) (.ofNat 3 (fld w 3 3)) (.ofNat 3 (fld w 0 3)))
  | 25 => accept (fld w 19 2 == 0) (.vcmpNe u (.ofNat 4 (fld w 28 4)) (.ofNat 3 (fld w 16 3)) (.ofNat 5 (fld w 11 5)) (.ofNat 5 (fld w 6 5)) (.ofNat 3 (fld w 3 3)) (.ofNat 3 (fld w 0 3)))
  | 26 => accept (fld w 19 2 == 0) (.vcmpLt u (.ofNat 4 (fld w 28 4)) (.ofNat 3 (fld w 16 3)) (.ofNat 5 (fld w 11 5)) (.ofNat 5 (fld w 6 5)) (.ofNat 3 (fld w 3 3)) (.ofNat 3 (fld w 0 3)))
  | 27 => accept (fld w 19 2 == 0) (.vcmpLe u (.ofNat 4 (fld w 28 4)) (.ofNat 3 (fld w 16 3)) (.ofNat 5 (fld w 11 5)) (.ofNat 5 (fld w 6 5)) (.ofNat 3 (fld w 3 3)) (.ofNat 3 (fld w 0 3)))
  | 28 => accept (fld w 19 2 == 0) (.vcmpLtu u (.ofNat 4 (fld w 28 4)) (.ofNat 3 (fld w 16 3)) (.ofNat 5 (fld w 11 5)) (.ofNat 5 (fld w 6 5)) (.ofNat 3 (fld w 3 3)) (.ofNat 3 (fld w 0 3)))
  | 29 => accept (fld w 19 2 == 0) (.vcmpLeu u (.ofNat 4 (fld w 28 4)) (.ofNat 3 (fld w 16 3)) (.ofNat 5 (fld w 11 5)) (.ofNat 5 (fld w 6 5)) (.ofNat 3 (fld w 3 3)) (.ofNat 3 (fld w 0 3)))
  | 32 => accept (true) (.vaddX u (.ofNat 4 (fld w 28 4)) (.ofNat 5 (fld w 16 5)) (.ofNat 5 (fld w 11 5)) (.ofNat 6 (fld w 5 6)) (.ofNat 2 (fld w 3 2)) (.ofNat 3 (fld w 0 3)))
  | 33 => accept (true) (.vsubX u (.ofNat 4 (fld w 28 4)) (.ofNat 5 (fld w 16 5)) (.ofNat 5 (fld w 11 5)) (.ofNat 6 (fld w 5 6)) (.ofNat 2 (fld w 3 2)) (.ofNat 3 (fld w 0 3)))
  | 34 => accept (true) (.vmulX u (.ofNat 4 (fld w 28 4)) (.ofNat 5 (fld w 16 5)) (.ofNat 5 (fld w 11 5)) (.ofNat 6 (fld w 5 6)) (.ofNat 2 (fld w 3 2)) (.ofNat 3 (fld w 0 3)))
  | 35 => accept (true) (.vandX u (.ofNat 4 (fld w 28 4)) (.ofNat 5 (fld w 16 5)) (.ofNat 5 (fld w 11 5)) (.ofNat 6 (fld w 5 6)) (.ofNat 2 (fld w 3 2)) (.ofNat 3 (fld w 0 3)))
  | 36 => accept (true) (.vshlX u (.ofNat 4 (fld w 28 4)) (.ofNat 5 (fld w 16 5)) (.ofNat 5 (fld w 11 5)) (.ofNat 6 (fld w 5 6)) (.ofNat 2 (fld w 3 2)) (.ofNat 3 (fld w 0 3)))
  | 37 => accept (true) (.vshrX u (.ofNat 4 (fld w 28 4)) (.ofNat 5 (fld w 16 5)) (.ofNat 5 (fld w 11 5)) (.ofNat 6 (fld w 5 6)) (.ofNat 2 (fld w 3 2)) (.ofNat 3 (fld w 0 3)))
  | 38 => accept (true) (.vsarX u (.ofNat 4 (fld w 28 4)) (.ofNat 5 (fld w 16 5)) (.ofNat 5 (fld w 11 5)) (.ofNat 6 (fld w 5 6)) (.ofNat 2 (fld w 3 2)) (.ofNat 3 (fld w 0 3)))
  | 39 => accept (fld w 19 2 == 0) (.vcmpEqX u (.ofNat 4 (fld w 28 4)) (.ofNat 3 (fld w 16 3)) (.ofNat 5 (fld w 11 5)) (.ofNat 6 (fld w 5 6)) (.ofNat 2 (fld w 3 2)) (.ofNat 3 (fld w 0 3)))
  | 40 => accept (fld w 19 2 == 0) (.vcmpLtX u (.ofNat 4 (fld w 28 4)) (.ofNat 3 (fld w 16 3)) (.ofNat 5 (fld w 11 5)) (.ofNat 6 (fld w 5 6)) (.ofNat 2 (fld w 3 2)) (.ofNat 3 (fld w 0 3)))
  | 41 => accept (true) (.vdup u (.ofNat 4 (fld w 28 4)) (.ofNat 5 (fld w 16 5)) (.ofNat 5 (fld w 11 5)) (.ofNat 6 (fld w 5 6)) (.ofNat 2 (fld w 3 2)) (.ofNat 3 (fld w 0 3)))
  | 42 => accept (true) (.vins u (.ofNat 4 (fld w 28 4)) (.ofNat 5 (fld w 16 5)) (.ofNat 5 (fld w 11 5)) (.ofNat 6 (fld w 5 6)) (.ofNat 2 (fld w 3 2)) (.ofNat 3 (fld w 0 3)))
  | 43 => accept (fld w 19 2 == 0) (.vext u (.ofNat 4 (fld w 28 4)) (.ofNat 3 (fld w 16 3)) (.ofNat 5 (fld w 11 5)) (.ofNat 6 (fld w 5 6)) (.ofNat 2 (fld w 3 2)) (.ofNat 3 (fld w 0 3)))
  | 48 => accept (fld w 0 6 == 0 && fld w 9 2 == 0 && fld w 14 2 == 0 && fld w 19 2 == 0) (.mand u (.ofNat 4 (fld w 28 4)) (.ofNat 3 (fld w 16 3)) (.ofNat 3 (fld w 11 3)) (.ofNat 3 (fld w 6 3)))
  | 49 => accept (fld w 0 6 == 0 && fld w 9 2 == 0 && fld w 14 2 == 0 && fld w 19 2 == 0) (.mor u (.ofNat 4 (fld w 28 4)) (.ofNat 3 (fld w 16 3)) (.ofNat 3 (fld w 11 3)) (.ofNat 3 (fld w 6 3)))
  | 50 => accept (fld w 0 6 == 0 && fld w 9 2 == 0 && fld w 14 2 == 0 && fld w 19 2 == 0) (.mxor u (.ofNat 4 (fld w 28 4)) (.ofNat 3 (fld w 16 3)) (.ofNat 3 (fld w 11 3)) (.ofNat 3 (fld w 6 3)))
  | 51 => accept (fld w 0 6 == 0 && fld w 9 2 == 0 && fld w 14 2 == 0 && fld w 19 2 == 0) (.mandn u (.ofNat 4 (fld w 28 4)) (.ofNat 3 (fld w 16 3)) (.ofNat 3 (fld w 11 3)) (.ofNat 3 (fld w 6 3)))
  | 52 => accept (fld w 0 11 == 0 && fld w 14 2 == 0 && fld w 19 2 == 0) (.mpop u (.ofNat 4 (fld w 28 4)) (.ofNat 3 (fld w 16 3)) (.ofNat 3 (fld w 11 3)))
  | 53 => accept (fld w 0 11 == 0 && fld w 14 2 == 0 && fld w 19 2 == 0) (.mfirst u (.ofNat 4 (fld w 28 4)) (.ofNat 3 (fld w 16 3)) (.ofNat 3 (fld w 11 3)))
  | 54 => accept (fld w 0 3 == 0) (.vsel u (.ofNat 4 (fld w 28 4)) (.ofNat 5 (fld w 16 5)) (.ofNat 5 (fld w 11 5)) (.ofNat 5 (fld w 6 5)) (.ofNat 3 (fld w 3 3)))
  | 56 => accept (true) (.vperm u (.ofNat 4 (fld w 28 4)) (.ofNat 5 (fld w 16 5)) (.ofNat 5 (fld w 11 5)) (.ofNat 5 (fld w 6 5)) (.ofNat 3 (fld w 3 3)) (.ofNat 3 (fld w 0 3)))
  | 57 => accept (true) (.vrotX u (.ofNat 4 (fld w 28 4)) (.ofNat 5 (fld w 16 5)) (.ofNat 5 (fld w 11 5)) (.ofNat 6 (fld w 5 6)) (.ofNat 2 (fld w 3 2)) (.ofNat 3 (fld w 0 3)))
  | 58 => accept (true) (.vzip u (.ofNat 4 (fld w 28 4)) (.ofNat 5 (fld w 16 5)) (.ofNat 5 (fld w 11 5)) (.ofNat 5 (fld w 6 5)) (.ofNat 3 (fld w 3 3)) (.ofNat 3 (fld w 0 3)))
  | 59 => accept (true) (.vunzip u (.ofNat 4 (fld w 28 4)) (.ofNat 5 (fld w 16 5)) (.ofNat 5 (fld w 11 5)) (.ofNat 5 (fld w 6 5)) (.ofNat 3 (fld w 3 3)) (.ofNat 3 (fld w 0 3)))
  | 60 => accept (true) (.vcompress u (.ofNat 4 (fld w 28 4)) (.ofNat 5 (fld w 16 5)) (.ofNat 5 (fld w 11 5)) (.ofNat 5 (fld w 6 5)) (.ofNat 3 (fld w 3 3)) (.ofNat 3 (fld w 0 3)))
  | 61 => accept (true) (.vexpand u (.ofNat 4 (fld w 28 4)) (.ofNat 5 (fld w 16 5)) (.ofNat 5 (fld w 11 5)) (.ofNat 5 (fld w 6 5)) (.ofNat 3 (fld w 3 3)) (.ofNat 3 (fld w 0 3)))
  | 62 => accept (fld w 11 5 == 0) (.vidx u (.ofNat 4 (fld w 28 4)) (.ofNat 5 (fld w 16 5)) (.ofNat 8 (fld w 3 8)) (.ofNat 3 (fld w 0 3)))
  | 64 => accept (true) (.vredAdd u (.ofNat 4 (fld w 28 4)) (.ofNat 5 (fld w 16 5)) (.ofNat 5 (fld w 11 5)) (.ofNat 5 (fld w 6 5)) (.ofNat 3 (fld w 3 3)) (.ofNat 3 (fld w 0 3)))
  | 65 => accept (true) (.vredMax u (.ofNat 4 (fld w 28 4)) (.ofNat 5 (fld w 16 5)) (.ofNat 5 (fld w 11 5)) (.ofNat 5 (fld w 6 5)) (.ofNat 3 (fld w 3 3)) (.ofNat 3 (fld w 0 3)))
  | 66 => accept (true) (.vredMin u (.ofNat 4 (fld w 28 4)) (.ofNat 5 (fld w 16 5)) (.ofNat 5 (fld w 11 5)) (.ofNat 5 (fld w 6 5)) (.ofNat 3 (fld w 3 3)) (.ofNat 3 (fld w 0 3)))
  | 67 => accept (true) (.vscanAdd u (.ofNat 4 (fld w 28 4)) (.ofNat 5 (fld w 16 5)) (.ofNat 5 (fld w 11 5)) (.ofNat 5 (fld w 6 5)) (.ofNat 3 (fld w 3 3)) (.ofNat 3 (fld w 0 3)))
  | 68 => accept (true) (.vmredAdd u (.ofNat 4 (fld w 28 4)) (.ofNat 5 (fld w 16 5)) (.ofNat 5 (fld w 11 5)) (.ofNat 5 (fld w 6 5)) (.ofNat 3 (fld w 3 3)) (.ofNat 3 (fld w 0 3)))
  | 69 => accept (true) (.vmredMax u (.ofNat 4 (fld w 28 4)) (.ofNat 5 (fld w 16 5)) (.ofNat 5 (fld w 11 5)) (.ofNat 5 (fld w 6 5)) (.ofNat 3 (fld w 3 3)) (.ofNat 3 (fld w 0 3)))
  | 70 => accept (true) (.vmscanAdd u (.ofNat 4 (fld w 28 4)) (.ofNat 5 (fld w 16 5)) (.ofNat 5 (fld w 11 5)) (.ofNat 5 (fld w 6 5)) (.ofNat 3 (fld w 3 3)) (.ofNat 3 (fld w 0 3)))
  | 71 => accept (true) (.vmcount u (.ofNat 4 (fld w 28 4)) (.ofNat 5 (fld w 16 5)) (.ofNat 5 (fld w 11 5)) (.ofNat 5 (fld w 6 5)) (.ofNat 3 (fld w 3 3)) (.ofNat 3 (fld w 0 3)))
  | 80 => accept (true) (.vfaddF u (.ofNat 4 (fld w 28 4)) (.ofNat 5 (fld w 16 5)) (.ofNat 5 (fld w 11 5)) (.ofNat 5 (fld w 6 5)) (.ofNat 3 (fld w 3 3)) (.ofNat 3 (fld w 0 3)))
  | 81 => accept (true) (.vfsubF u (.ofNat 4 (fld w 28 4)) (.ofNat 5 (fld w 16 5)) (.ofNat 5 (fld w 11 5)) (.ofNat 5 (fld w 6 5)) (.ofNat 3 (fld w 3 3)) (.ofNat 3 (fld w 0 3)))
  | 82 => accept (true) (.vfmulF u (.ofNat 4 (fld w 28 4)) (.ofNat 5 (fld w 16 5)) (.ofNat 5 (fld w 11 5)) (.ofNat 5 (fld w 6 5)) (.ofNat 3 (fld w 3 3)) (.ofNat 3 (fld w 0 3)))
  | 83 => accept (true) (.vffmaF u (.ofNat 4 (fld w 28 4)) (.ofNat 5 (fld w 16 5)) (.ofNat 5 (fld w 11 5)) (.ofNat 5 (fld w 6 5)) (.ofNat 3 (fld w 3 3)) (.ofNat 3 (fld w 0 3)))
  | 84 => accept (fld w 0 3 == 0) (.vfminF u (.ofNat 4 (fld w 28 4)) (.ofNat 5 (fld w 16 5)) (.ofNat 5 (fld w 11 5)) (.ofNat 5 (fld w 6 5)) (.ofNat 3 (fld w 3 3)))
  | 85 => accept (fld w 0 3 == 0) (.vfmaxF u (.ofNat 4 (fld w 28 4)) (.ofNat 5 (fld w 16 5)) (.ofNat 5 (fld w 11 5)) (.ofNat 5 (fld w 6 5)) (.ofNat 3 (fld w 3 3)))
  | 86 => accept (fld w 0 3 == 0 && fld w 6 5 == 0) (.vfabsF u (.ofNat 4 (fld w 28 4)) (.ofNat 5 (fld w 16 5)) (.ofNat 5 (fld w 11 5)) (.ofNat 3 (fld w 3 3)))
  | 87 => accept (fld w 0 3 == 0 && fld w 6 5 == 0) (.vfnegF u (.ofNat 4 (fld w 28 4)) (.ofNat 5 (fld w 16 5)) (.ofNat 5 (fld w 11 5)) (.ofNat 3 (fld w 3 3)))
  | 88 => accept (fld w 0 3 == 0 && fld w 19 2 == 0) (.vfcmpEqF u (.ofNat 4 (fld w 28 4)) (.ofNat 3 (fld w 16 3)) (.ofNat 5 (fld w 11 5)) (.ofNat 5 (fld w 6 5)) (.ofNat 3 (fld w 3 3)))
  | 89 => accept (fld w 0 3 == 0 && fld w 19 2 == 0) (.vfcmpLtF u (.ofNat 4 (fld w 28 4)) (.ofNat 3 (fld w 16 3)) (.ofNat 5 (fld w 11 5)) (.ofNat 5 (fld w 6 5)) (.ofNat 3 (fld w 3 3)))
  | 90 => accept (fld w 0 3 == 0 && fld w 19 2 == 0) (.vfcmpLeF u (.ofNat 4 (fld w 28 4)) (.ofNat 3 (fld w 16 3)) (.ofNat 5 (fld w 11 5)) (.ofNat 5 (fld w 6 5)) (.ofNat 3 (fld w 3 3)))
  | 91 => accept (fld w 0 3 == 0 && fld w 19 2 == 0) (.vfcmpUnF u (.ofNat 4 (fld w 28 4)) (.ofNat 3 (fld w 16 3)) (.ofNat 5 (fld w 11 5)) (.ofNat 5 (fld w 6 5)) (.ofNat 3 (fld w 3 3)))
  | 92 => accept (true) (.vfaddBf u (.ofNat 4 (fld w 28 4)) (.ofNat 5 (fld w 16 5)) (.ofNat 5 (fld w 11 5)) (.ofNat 5 (fld w 6 5)) (.ofNat 3 (fld w 3 3)) (.ofNat 3 (fld w 0 3)))
  | 93 => accept (true) (.vfmulBf u (.ofNat 4 (fld w 28 4)) (.ofNat 5 (fld w 16 5)) (.ofNat 5 (fld w 11 5)) (.ofNat 5 (fld w 6 5)) (.ofNat 3 (fld w 3 3)) (.ofNat 3 (fld w 0 3)))
  | 94 => accept (true) (.vffmaBf u (.ofNat 4 (fld w 28 4)) (.ofNat 5 (fld w 16 5)) (.ofNat 5 (fld w 11 5)) (.ofNat 5 (fld w 6 5)) (.ofNat 3 (fld w 3 3)) (.ofNat 3 (fld w 0 3)))
  | 95 => accept (true) (.vfdotBf u (.ofNat 4 (fld w 28 4)) (.ofNat 5 (fld w 16 5)) (.ofNat 5 (fld w 11 5)) (.ofNat 5 (fld w 6 5)) (.ofNat 3 (fld w 3 3)) (.ofNat 3 (fld w 0 3)))
  | 96 => accept (true) (.vcvtBfF u (.ofNat 4 (fld w 28 4)) (.ofNat 5 (fld w 16 5)) (.ofNat 5 (fld w 11 5)) (.ofNat 5 (fld w 6 5)) (.ofNat 3 (fld w 3 3)) (.ofNat 3 (fld w 0 3)))
  | 97 => accept (true) (.vcvtF16F u (.ofNat 4 (fld w 28 4)) (.ofNat 5 (fld w 16 5)) (.ofNat 5 (fld w 11 5)) (.ofNat 5 (fld w 6 5)) (.ofNat 3 (fld w 3 3)) (.ofNat 3 (fld w 0 3)))
  | 98 => accept (true) (.vcvtE4F u (.ofNat 4 (fld w 28 4)) (.ofNat 5 (fld w 16 5)) (.ofNat 5 (fld w 11 5)) (.ofNat 5 (fld w 6 5)) (.ofNat 3 (fld w 3 3)) (.ofNat 3 (fld w 0 3)))
  | 99 => accept (true) (.vcvtE5F u (.ofNat 4 (fld w 28 4)) (.ofNat 5 (fld w 16 5)) (.ofNat 5 (fld w 11 5)) (.ofNat 5 (fld w 6 5)) (.ofNat 3 (fld w 3 3)) (.ofNat 3 (fld w 0 3)))
  | 100 => accept (true) (.vcvtE2F u (.ofNat 4 (fld w 28 4)) (.ofNat 5 (fld w 16 5)) (.ofNat 5 (fld w 11 5)) (.ofNat 5 (fld w 6 5)) (.ofNat 3 (fld w 3 3)) (.ofNat 3 (fld w 0 3)))
  | 101 => accept (true) (.vcvtFBf u (.ofNat 4 (fld w 28 4)) (.ofNat 5 (fld w 16 5)) (.ofNat 5 (fld w 11 5)) (.ofNat 5 (fld w 6 5)) (.ofNat 3 (fld w 3 3)) (.ofNat 3 (fld w 0 3)))
  | 102 => accept (true) (.vcvtFF16 u (.ofNat 4 (fld w 28 4)) (.ofNat 5 (fld w 16 5)) (.ofNat 5 (fld w 11 5)) (.ofNat 5 (fld w 6 5)) (.ofNat 3 (fld w 3 3)) (.ofNat 3 (fld w 0 3)))
  | 103 => accept (true) (.vcvtFE4 u (.ofNat 4 (fld w 28 4)) (.ofNat 5 (fld w 16 5)) (.ofNat 5 (fld w 11 5)) (.ofNat 5 (fld w 6 5)) (.ofNat 3 (fld w 3 3)) (.ofNat 3 (fld w 0 3)))
  | 104 => accept (true) (.vcvtFE5 u (.ofNat 4 (fld w 28 4)) (.ofNat 5 (fld w 16 5)) (.ofNat 5 (fld w 11 5)) (.ofNat 5 (fld w 6 5)) (.ofNat 3 (fld w 3 3)) (.ofNat 3 (fld w 0 3)))
  | 105 => accept (true) (.vcvtFE2 u (.ofNat 4 (fld w 28 4)) (.ofNat 5 (fld w 16 5)) (.ofNat 5 (fld w 11 5)) (.ofNat 5 (fld w 6 5)) (.ofNat 3 (fld w 3 3)) (.ofNat 3 (fld w 0 3)))
  | 106 => accept (true) (.vcvtWF u (.ofNat 4 (fld w 28 4)) (.ofNat 5 (fld w 16 5)) (.ofNat 5 (fld w 11 5)) (.ofNat 5 (fld w 6 5)) (.ofNat 3 (fld w 3 3)) (.ofNat 3 (fld w 0 3)))
  | 107 => accept (true) (.vcvtFW u (.ofNat 4 (fld w 28 4)) (.ofNat 5 (fld w 16 5)) (.ofNat 5 (fld w 11 5)) (.ofNat 5 (fld w 6 5)) (.ofNat 3 (fld w 3 3)) (.ofNat 3 (fld w 0 3)))
  | 108 => accept (true) (.vcvtBF u (.ofNat 4 (fld w 28 4)) (.ofNat 5 (fld w 16 5)) (.ofNat 5 (fld w 11 5)) (.ofNat 5 (fld w 6 5)) (.ofNat 3 (fld w 3 3)) (.ofNat 3 (fld w 0 3)))
  | 109 => accept (true) (.vcvtE4FSat u (.ofNat 4 (fld w 28 4)) (.ofNat 5 (fld w 16 5)) (.ofNat 5 (fld w 11 5)) (.ofNat 5 (fld w 6 5)) (.ofNat 3 (fld w 3 3)) (.ofNat 3 (fld w 0 3)))
  | 110 => accept (true) (.vcvtE5FSat u (.ofNat 4 (fld w 28 4)) (.ofNat 5 (fld w 16 5)) (.ofNat 5 (fld w 11 5)) (.ofNat 5 (fld w 6 5)) (.ofNat 3 (fld w 3 3)) (.ofNat 3 (fld w 0 3)))
  | 112 => accept (fld w 0 3 == 0) (.vpackH u (.ofNat 4 (fld w 28 4)) (.ofNat 5 (fld w 16 5)) (.ofNat 5 (fld w 11 5)) (.ofNat 5 (fld w 6 5)) (.ofNat 3 (fld w 3 3)))
  | 113 => accept (fld w 0 3 == 0) (.vpackB u (.ofNat 4 (fld w 28 4)) (.ofNat 5 (fld w 16 5)) (.ofNat 5 (fld w 11 5)) (.ofNat 5 (fld w 6 5)) (.ofNat 3 (fld w 3 3)))
  | 114 => accept (fld w 0 3 == 0) (.vpackN u (.ofNat 4 (fld w 28 4)) (.ofNat 5 (fld w 16 5)) (.ofNat 5 (fld w 11 5)) (.ofNat 5 (fld w 6 5)) (.ofNat 3 (fld w 3 3)))
  | 115 => accept (fld w 0 3 == 0) (.vunpkLo u (.ofNat 4 (fld w 28 4)) (.ofNat 5 (fld w 16 5)) (.ofNat 5 (fld w 11 5)) (.ofNat 5 (fld w 6 5)) (.ofNat 3 (fld w 3 3)))
  | 116 => accept (fld w 0 3 == 0) (.vunpkHi u (.ofNat 4 (fld w 28 4)) (.ofNat 5 (fld w 16 5)) (.ofNat 5 (fld w 11 5)) (.ofNat 5 (fld w 6 5)) (.ofNat 3 (fld w 3 3)))
  | 117 => accept (fld w 0 3 == 0 && fld w 6 5 == 0) (.vbexp u (.ofNat 4 (fld w 28 4)) (.ofNat 5 (fld w 16 5)) (.ofNat 5 (fld w 11 5)) (.ofNat 3 (fld w 3 3)))
  | 118 => accept (true) (.vscalb u (.ofNat 4 (fld w 28 4)) (.ofNat 5 (fld w 16 5)) (.ofNat 5 (fld w 11 5)) (.ofNat 8 (fld w 3 8)) (.ofNat 3 (fld w 0 3)))
  | 120 => accept (true) (.vexp2 u (.ofNat 4 (fld w 28 4)) (.ofNat 5 (fld w 16 5)) (.ofNat 5 (fld w 11 5)) (.ofNat 5 (fld w 6 5)) (.ofNat 3 (fld w 3 3)) (.ofNat 3 (fld w 0 3)))
  | 121 => accept (true) (.vlog2 u (.ofNat 4 (fld w 28 4)) (.ofNat 5 (fld w 16 5)) (.ofNat 5 (fld w 11 5)) (.ofNat 5 (fld w 6 5)) (.ofNat 3 (fld w 3 3)) (.ofNat 3 (fld w 0 3)))
  | 122 => accept (true) (.vrcp u (.ofNat 4 (fld w 28 4)) (.ofNat 5 (fld w 16 5)) (.ofNat 5 (fld w 11 5)) (.ofNat 5 (fld w 6 5)) (.ofNat 3 (fld w 3 3)) (.ofNat 3 (fld w 0 3)))
  | 123 => accept (true) (.vrsqrt u (.ofNat 4 (fld w 28 4)) (.ofNat 5 (fld w 16 5)) (.ofNat 5 (fld w 11 5)) (.ofNat 5 (fld w 6 5)) (.ofNat 3 (fld w 3 3)) (.ofNat 3 (fld w 0 3)))
  | 124 => accept (true) (.vsqrt u (.ofNat 4 (fld w 28 4)) (.ofNat 5 (fld w 16 5)) (.ofNat 5 (fld w 11 5)) (.ofNat 5 (fld w 6 5)) (.ofNat 3 (fld w 3 3)) (.ofNat 3 (fld w 0 3)))
  | _ => .error .reservedOpcode

/-- The word of slot 6 (R90, R110). -/
def decodeX (k : BitVec 3) (w : Nat) : Except DecodeError Instr :=
  match fld w 21 7 with
  | 0 => accept (fld w 0 21 == 0) (.nopK k (.ofNat 4 (fld w 28 4)))
  | 1 =>
    match fld w 11 1 with
    | 0 => accept (fld w 0 11 == 0) (.mparmLo (.ofNat 4 (fld w 28 4)) (.ofNat 3 (fld w 18 3)) (.ofNat 6 (fld w 12 6)))
    | 1 => accept (fld w 0 11 == 0) (.mparmHi (.ofNat 4 (fld w 28 4)) (.ofNat 3 (fld w 18 3)) (.ofNat 6 (fld w 12 6)))
    | _ => .error .illegalField
  | 2 => accept (fld w 1 5 == 0) (.mcall (.ofNat 4 (fld w 28 4)) (.ofNat 8 (fld w 13 8)) (.ofNat 7 (fld w 6 7)) (.ofNat 1 (fld w 0 1)))
  | 3 => accept (fld w 1 5 == 0 && fld w 13 8 == 0) (.mswap (.ofNat 4 (fld w 28 4)) (.ofNat 7 (fld w 6 7)) (.ofNat 1 (fld w 0 1)))
  | 4 => accept (fld w 0 12 == 0) (.tcfg (.ofNat 4 (fld w 28 4)) (.ofNat 3 (fld w 18 3)) (.ofNat 6 (fld w 12 6)))
  | 5 => accept (fld w 0 18 == 0) (.tzero (.ofNat 4 (fld w 28 4)) (.ofNat 3 (fld w 18 3)))
  | 6 => accept (fld w 0 3 == 0) (.trowW (.ofNat 4 (fld w 28 4)) (.ofNat 5 (fld w 16 5)) (.ofNat 3 (fld w 13 3)) (.ofNat 8 (fld w 5 8)) (.ofNat 2 (fld w 3 2)))
  | 7 => accept (fld w 0 3 == 0) (.trowR (.ofNat 4 (fld w 28 4)) (.ofNat 5 (fld w 16 5)) (.ofNat 3 (fld w 13 3)) (.ofNat 8 (fld w 5 8)) (.ofNat 2 (fld w 3 2)))
  | 8 => accept (fld w 0 3 == 0) (.tcolW (.ofNat 4 (fld w 28 4)) (.ofNat 5 (fld w 16 5)) (.ofNat 3 (fld w 13 3)) (.ofNat 8 (fld w 5 8)) (.ofNat 2 (fld w 3 2)))
  | 9 => accept (fld w 0 3 == 0) (.tcolR (.ofNat 4 (fld w 28 4)) (.ofNat 5 (fld w 16 5)) (.ofNat 3 (fld w 13 3)) (.ofNat 8 (fld w 5 8)) (.ofNat 2 (fld w 3 2)))
  | 10 => accept (fld w 0 18 == 0) (.mstat (.ofNat 4 (fld w 28 4)) (.ofNat 3 (fld w 18 3)))
  | 11 => accept (fld w 0 18 == 0) (.tdrop (.ofNat 4 (fld w 28 4)) (.ofNat 3 (fld w 18 3)))
  | _ => .error .reservedOpcode

noncomputable section

/-- The word of slot 7 (R91, R111). -/
def decodeS (k : BitVec 3) (w : Nat) : Except DecodeError Instr :=
  match fld w 21 7 with
  | 0 => accept (fld w 0 21 == 0) (.nopK k (.ofNat 4 (fld w 28 4)))
  | 1 => accept (fld w 0 10 == 0) (.spush (.ofNat 4 (fld w 28 4)) (.ofNat 5 (fld w 16 5)) (.ofNat 6 (fld w 10 6)))
  | 2 => accept (fld w 0 8 == 0) (.spushv (.ofNat 4 (fld w 28 4)) (.ofNat 5 (fld w 16 5)) (.ofNat 5 (fld w 11 5)) (.ofNat 3 (fld w 8 3)))
  | 3 => accept (fld w 0 10 == 0) (.spop (.ofNat 4 (fld w 28 4)) (.ofNat 5 (fld w 16 5)) (.ofNat 6 (fld w 10 6)))
  | 4 => accept (fld w 0 8 == 0) (.spopv (.ofNat 4 (fld w 28 4)) (.ofNat 5 (fld w 16 5)) (.ofNat 5 (fld w 11 5)) (.ofNat 3 (fld w 8 3)))
  | 5 => accept (fld w 0 10 == 0) (.scard (.ofNat 4 (fld w 28 4)) (.ofNat 5 (fld w 16 5)) (.ofNat 6 (fld w 10 6)))
  | 6 => accept (true) (.sroute (.ofNat 4 (fld w 28 4)) (.ofNat 5 (fld w 16 5)) (.ofNat 6 (fld w 10 6)) (.ofNat 10 (fld w 0 10)))
  | 7 => accept (fld w 0 10 == 0) (.sstat (.ofNat 4 (fld w 28 4)) (.ofNat 5 (fld w 16 5)) (.ofNat 6 (fld w 10 6)))
  | 8 => accept (fld w 0 3 == 0) (.sacc (.ofNat 4 (fld w 28 4)) (.ofNat 5 (fld w 16 5)) (.ofNat 5 (fld w 11 5)) (.ofNat 4 (fld w 7 4)) (.ofNat 3 (fld w 4 3)) (.ofNat 1 (fld w 3 1)))
  | 9 => accept (fld w 0 21 == 0) (.sflush (.ofNat 4 (fld w 28 4)))
  | 10 => accept (fld w 4 6 == 0) (.swsub (.ofNat 4 (fld w 28 4)) (.ofNat 5 (fld w 16 5)) (.ofNat 6 (fld w 10 6)) (.ofNat 4 (fld w 0 4)))
  | 11 => accept (fld w 4 6 == 0) (.swjoin (.ofNat 4 (fld w 28 4)) (.ofNat 5 (fld w 16 5)) (.ofNat 6 (fld w 10 6)) (.ofNat 4 (fld w 0 4)))
  | 12 => accept (fld w 0 10 == 0 && fld w 16 5 == 0) (.swpop (.ofNat 4 (fld w 28 4)) (.ofNat 6 (fld w 10 6)))
  | 13 => accept (fld w 0 10 == 0 && fld w 16 5 == 0) (.swdone (.ofNat 4 (fld w 28 4)) (.ofNat 6 (fld w 10 6)))
  | 14 => accept (fld w 0 8 == 0 && fld w 16 5 == 0) (.mgpush (.ofNat 4 (fld w 28 4)) (.ofNat 5 (fld w 11 5)) (.ofNat 3 (fld w 8 3)))
  | 15 => accept (fld w 0 8 == 0 && fld w 16 5 == 0) (.mgpop (.ofNat 4 (fld w 28 4)) (.ofNat 5 (fld w 11 5)) (.ofNat 3 (fld w 8 3)))
  | _ => .error .reservedOpcode

/-- The word w standing in slot k (R75). -/
def decodeSlot (k w : Nat) : Except DecodeError Instr :=
  match k with
  | 0 => decodeC w
  | 1 => decodeAB 1 .a w
  | 2 => decodeAB 2 .b w
  | 3 => decodeM 3 w
  | 4 => decodeVW 4 .v w
  | 5 => decodeVW 5 .w w
  | 6 => decodeX 6 w
  | 7 => decodeS 7 w
  | _ => .error .noSlot

end

/-- The slot of a scalar unit (R75). -/
def SUnit.slot : SUnit → Nat
  | .a => 1
  | .b => 2
/-- The slot of a vector unit (R75). -/
def VUnit.slot : VUnit → Nat
  | .v => 4
  | .w => 5

/-- A word of fields whose low bits are 31, 30, 26. -/
def lay31_30_26 (base x0 x1 x2 : Nat) : Nat := base + x0 * 2147483648 + x1 * 1073741824 + x2 * 67108864
/-- A word of fields whose low bits are 31, 30, 26, 0. -/
def lay31_30_26_0 (base x0 x1 x2 x3 : Nat) : Nat := base + x0 * 2147483648 + x1 * 1073741824 + x2 * 67108864 + x3
/-- A word of fields whose low bits are 31, 30, 26, 14. -/
def lay31_30_26_14 (base x0 x1 x2 x3 : Nat) : Nat := base + x0 * 2147483648 + x1 * 1073741824 + x2 * 67108864 + x3 * 16384
/-- A word of fields whose low bits are 31, 30, 26, 19, 13, 0. -/
def lay31_30_26_19_13_0 (base x0 x1 x2 x3 x4 x5 : Nat) : Nat := base + x0 * 2147483648 + x1 * 1073741824 + x2 * 67108864 + x3 * 524288 + x4 * 8192 + x5
/-- A word of fields whose low bits are 31, 30, 26, 14, 0. -/
def lay31_30_26_14_0 (base x0 x1 x2 x3 x4 : Nat) : Nat := base + x0 * 2147483648 + x1 * 1073741824 + x2 * 67108864 + x3 * 16384 + x4
/-- A word of fields whose low bits are 31, 30, 26, 15, 0. -/
def lay31_30_26_15_0 (base x0 x1 x2 x3 x4 : Nat) : Nat := base + x0 * 2147483648 + x1 * 1073741824 + x2 * 67108864 + x3 * 32768 + x4
/-- A word of fields whose low bits are 31, 30, 26, 14, 8, 0. -/
def lay31_30_26_14_8_0 (base x0 x1 x2 x3 x4 x5 : Nat) : Nat := base + x0 * 2147483648 + x1 * 1073741824 + x2 * 67108864 + x3 * 16384 + x4 * 256 + x5
/-- A word of fields whose low bits are 31, 30, 26, 13, 7. -/
def lay31_30_26_13_7 (base x0 x1 x2 x3 x4 : Nat) : Nat := base + x0 * 2147483648 + x1 * 1073741824 + x2 * 67108864 + x3 * 8192 + x4 * 128
/-- A word of fields whose low bits are 31, 30, 26, 13. -/
def lay31_30_26_13 (base x0 x1 x2 x3 : Nat) : Nat := base + x0 * 2147483648 + x1 * 1073741824 + x2 * 67108864 + x3 * 8192
/-- A word of fields whose low bits are 31, 30, 26, 13, 0. -/
def lay31_30_26_13_0 (base x0 x1 x2 x3 x4 : Nat) : Nat := base + x0 * 2147483648 + x1 * 1073741824 + x2 * 67108864 + x3 * 8192 + x4
/-- A word of fields whose low bits are 31, 30, 26, 17. -/
def lay31_30_26_17 (base x0 x1 x2 x3 : Nat) : Nat := base + x0 * 2147483648 + x1 * 1073741824 + x2 * 67108864 + x3 * 131072
/-- A word of fields whose low bits are 31, 30, 26, 8, 0. -/
def lay31_30_26_8_0 (base x0 x1 x2 x3 x4 : Nat) : Nat := base + x0 * 2147483648 + x1 * 1073741824 + x2 * 67108864 + x3 * 256 + x4
/-- A word of fields whose low bits are 28. -/
def lay28 (base x0 : Nat) : Nat := base + x0 * 268435456
/-- A word of fields whose low bits are 28, 15, 9, 3. -/
def lay28_15_9_3 (base x0 x1 x2 x3 : Nat) : Nat := base + x0 * 268435456 + x1 * 32768 + x2 * 512 + x3 * 8
/-- A word of fields whose low bits are 28, 15, 9, 3, 0. -/
def lay28_15_9_3_0 (base x0 x1 x2 x3 x4 : Nat) : Nat := base + x0 * 268435456 + x1 * 32768 + x2 * 512 + x3 * 8 + x4
/-- A word of fields whose low bits are 28, 15, 9. -/
def lay28_15_9 (base x0 x1 x2 : Nat) : Nat := base + x0 * 268435456 + x1 * 32768 + x2 * 512
/-- A word of fields whose low bits are 28, 15, 9, 0. -/
def lay28_15_9_0 (base x0 x1 x2 x3 : Nat) : Nat := base + x0 * 268435456 + x1 * 32768 + x2 * 512 + x3
/-- A word of fields whose low bits are 28, 15, 9, 4, 0. -/
def lay28_15_9_4_0 (base x0 x1 x2 x3 x4 : Nat) : Nat := base + x0 * 268435456 + x1 * 32768 + x2 * 512 + x3 * 16 + x4
/-- A word of fields whose low bits are 28, 15, 0. -/
def lay28_15_0 (base x0 x1 x2 : Nat) : Nat := base + x0 * 268435456 + x1 * 32768 + x2
/-- A word of fields whose low bits are 28, 15, 12, 9. -/
def lay28_15_12_9 (base x0 x1 x2 x3 : Nat) : Nat := base + x0 * 268435456 + x1 * 32768 + x2 * 4096 + x3 * 512
/-- A word of fields whose low bits are 28, 9, 3. -/
def lay28_9_3 (base x0 x1 x2 : Nat) : Nat := base + x0 * 268435456 + x1 * 512 + x2 * 8
/-- A word of fields whose low bits are 28, 9, 0. -/
def lay28_9_0 (base x0 x1 x2 : Nat) : Nat := base + x0 * 268435456 + x1 * 512 + x2
/-- A word of fields whose low bits are 28, 16, 10, 3, 0. -/
def lay28_16_10_3_0 (base x0 x1 x2 x3 x4 : Nat) : Nat := base + x0 * 268435456 + x1 * 65536 + x2 * 1024 + x3 * 8 + x4
/-- A word of fields whose low bits are 28, 16, 11, 5, 3, 0. -/
def lay28_16_11_5_3_0 (base x0 x1 x2 x3 x4 x5 : Nat) : Nat := base + x0 * 268435456 + x1 * 65536 + x2 * 2048 + x3 * 32 + x4 * 8 + x5
/-- A word of fields whose low bits are 28, 16, 11, 8, 3, 0. -/
def lay28_16_11_8_3_0 (base x0 x1 x2 x3 x4 x5 : Nat) : Nat := base + x0 * 268435456 + x1 * 65536 + x2 * 2048 + x3 * 256 + x4 * 8 + x5
/-- A word of fields whose low bits are 28, 16, 11, 6, 3, 0. -/
def lay28_16_11_6_3_0 (base x0 x1 x2 x3 x4 x5 : Nat) : Nat := base + x0 * 268435456 + x1 * 65536 + x2 * 2048 + x3 * 64 + x4 * 8 + x5
/-- A word of fields whose low bits are 28, 16, 11, 3, 0. -/
def lay28_16_11_3_0 (base x0 x1 x2 x3 x4 : Nat) : Nat := base + x0 * 268435456 + x1 * 65536 + x2 * 2048 + x3 * 8 + x4
/-- A word of fields whose low bits are 28, 16, 11, 6. -/
def lay28_16_11_6 (base x0 x1 x2 x3 : Nat) : Nat := base + x0 * 268435456 + x1 * 65536 + x2 * 2048 + x3 * 64
/-- A word of fields whose low bits are 28, 16, 11. -/
def lay28_16_11 (base x0 x1 x2 : Nat) : Nat := base + x0 * 268435456 + x1 * 65536 + x2 * 2048
/-- A word of fields whose low bits are 28, 16, 11, 6, 3. -/
def lay28_16_11_6_3 (base x0 x1 x2 x3 x4 : Nat) : Nat := base + x0 * 268435456 + x1 * 65536 + x2 * 2048 + x3 * 64 + x4 * 8
/-- A word of fields whose low bits are 28, 16, 3, 0. -/
def lay28_16_3_0 (base x0 x1 x2 x3 : Nat) : Nat := base + x0 * 268435456 + x1 * 65536 + x2 * 8 + x3
/-- A word of fields whose low bits are 28, 16, 11, 3. -/
def lay28_16_11_3 (base x0 x1 x2 x3 : Nat) : Nat := base + x0 * 268435456 + x1 * 65536 + x2 * 2048 + x3 * 8
/-- A word of fields whose low bits are 28, 18, 12. -/
def lay28_18_12 (base x0 x1 x2 : Nat) : Nat := base + x0 * 268435456 + x1 * 262144 + x2 * 4096
/-- A word of fields whose low bits are 28, 13, 6, 0. -/
def lay28_13_6_0 (base x0 x1 x2 x3 : Nat) : Nat := base + x0 * 268435456 + x1 * 8192 + x2 * 64 + x3
/-- A word of fields whose low bits are 28, 6, 0. -/
def lay28_6_0 (base x0 x1 x2 : Nat) : Nat := base + x0 * 268435456 + x1 * 64 + x2
/-- A word of fields whose low bits are 28, 18. -/
def lay28_18 (base x0 x1 : Nat) : Nat := base + x0 * 268435456 + x1 * 262144
/-- A word of fields whose low bits are 28, 16, 13, 5, 3. -/
def lay28_16_13_5_3 (base x0 x1 x2 x3 x4 : Nat) : Nat := base + x0 * 268435456 + x1 * 65536 + x2 * 8192 + x3 * 32 + x4 * 8
/-- A word of fields whose low bits are 28, 16, 10. -/
def lay28_16_10 (base x0 x1 x2 : Nat) : Nat := base + x0 * 268435456 + x1 * 65536 + x2 * 1024
/-- A word of fields whose low bits are 28, 16, 11, 8. -/
def lay28_16_11_8 (base x0 x1 x2 x3 : Nat) : Nat := base + x0 * 268435456 + x1 * 65536 + x2 * 2048 + x3 * 256
/-- A word of fields whose low bits are 28, 16, 10, 0. -/
def lay28_16_10_0 (base x0 x1 x2 x3 : Nat) : Nat := base + x0 * 268435456 + x1 * 65536 + x2 * 1024 + x3
/-- A word of fields whose low bits are 28, 16, 11, 7, 4, 3. -/
def lay28_16_11_7_4_3 (base x0 x1 x2 x3 x4 x5 : Nat) : Nat := base + x0 * 268435456 + x1 * 65536 + x2 * 2048 + x3 * 128 + x4 * 16 + x5 * 8
/-- A word of fields whose low bits are 28, 10. -/
def lay28_10 (base x0 x1 : Nat) : Nat := base + x0 * 268435456 + x1 * 1024
/-- A word of fields whose low bits are 28, 11, 8. -/
def lay28_11_8 (base x0 x1 x2 : Nat) : Nat := base + x0 * 268435456 + x1 * 2048 + x2 * 256

/-- The slot and the word of an instruction, from the same tables; none for a step row. -/
def encode (i : Instr) : Option (Nat × Nat) :=
  match i with
  | .nopSlot0 stop qui g => some (0, lay31_30_26 0x0 stop.toNat qui.toNat g.toNat)
  | .br stop qui g o => some (0, lay31_30_26_0 0x100000 stop.toNat qui.toNat g.toNat o.toNat)
  | .callR stop qui g o => some (0, lay31_30_26_0 0x200000 stop.toNat qui.toNat g.toNat o.toNat)
  | .jr stop qui g a => some (0, lay31_30_26_14 0x300000 stop.toNat qui.toNat g.toNat a.toNat)
  | .ret stop qui g => some (0, lay31_30_26 0x400000 stop.toNat qui.toNat g.toNat)
  | .loopR stop qui g c a l => some (0, lay31_30_26_19_13_0 0x500000 stop.toNat qui.toNat g.toNat c.toNat a.toNat l.toNat)
  | .chk stop qui g a o => some (0, lay31_30_26_14_0 0x600000 stop.toNat qui.toNat g.toNat a.toNat o.toNat)
  | .chkv stop qui g v o => some (0, lay31_30_26_15_0 0x700000 stop.toNat qui.toNat g.toNat v.toNat o.toNat)
  | .brvAll stop qui g m o => some (0, lay31_30_26_15_0 0x800000 stop.toNat qui.toNat g.toNat m.toNat o.toNat)
  | .brvNone stop qui g m o => some (0, lay31_30_26_15_0 0x840000 stop.toNat qui.toNat g.toNat m.toNat o.toNat)
  | .haltR stop qui g => some (0, lay31_30_26 0x900000 stop.toNat qui.toNat g.toNat)
  | .park stop qui g a b t => some (0, lay31_30_26_14_8_0 0xA00000 stop.toNat qui.toNat g.toNat a.toNat b.toNat t.toNat)
  | .yield stop qui g => some (0, lay31_30_26 0xB00000 stop.toNat qui.toNat g.toNat)
  | .summit stop qui g => some (0, lay31_30_26 0xC00000 stop.toNat qui.toNat g.toNat)
  | .barset stop qui g i a => some (0, lay31_30_26_13_7 0xD00000 stop.toNat qui.toNat g.toNat i.toNat a.toNat)
  | .bararr stop qui g i => some (0, lay31_30_26_13 0xE00000 stop.toNat qui.toNat g.toNat i.toNat)
  | .barwait stop qui g i => some (0, lay31_30_26_13 0xF00000 stop.toNat qui.toNat g.toNat i.toNat)
  | .bartest stop qui g i p => some (0, lay31_30_26_13_0 0x1000000 stop.toNat qui.toNat g.toNat i.toNat p.toNat)
  | .ropePair stop qui g => some (0, lay31_30_26 0x1100000 stop.toNat qui.toNat g.toNat)
  | .ropeQuad stop qui g => some (0, lay31_30_26 0x1140000 stop.toNat qui.toNat g.toNat)
  | .unrope stop qui g => some (0, lay31_30_26 0x1200000 stop.toNat qui.toNat g.toNat)
  | .drain stop qui g x => some (0, lay31_30_26_17 0x1300000 stop.toNat qui.toNat g.toNat x.toNat)
  | .trapR stop qui g c => some (0, lay31_30_26_0 0x1400000 stop.toNat qui.toNat g.toNat c.toNat)
  | .sys stop qui g c => some (0, lay31_30_26_0 0x1500000 stop.toNat qui.toNat g.toNat c.toNat)
  | .cread stop qui g d r => some (0, lay31_30_26_14_0 0x1600000 stop.toNat qui.toNat g.toNat d.toNat r.toNat)
  | .cwrite stop qui g r a => some (0, lay31_30_26_8_0 0x1700000 stop.toNat qui.toNat g.toNat r.toNat a.toNat)
  | .rfdefer stop qui g a => some (0, lay31_30_26_14 0x1800000 stop.toNat qui.toNat g.toNat a.toNat)
  | .tret stop qui g => some (0, lay31_30_26 0x1900000 stop.toNat qui.toNat g.toNat)
  | .tretAt stop qui g a => some (0, lay31_30_26_14 0x1A00000 stop.toNat qui.toNat g.toNat a.toNat)
  | .nopK k g => some (k.toNat, lay28 0x0 g.toNat)
  | .addR u g d a b => some (u.slot, lay28_15_9_3 0x200000 g.toNat d.toNat a.toNat b.toNat)
  | .subR u g d a b => some (u.slot, lay28_15_9_3 0x400000 g.toNat d.toNat a.toNat b.toNat)
  | .mulR u g d a b => some (u.slot, lay28_15_9_3 0x600000 g.toNat d.toNat a.toNat b.toNat)
  | .mulhs u g d a b => some (u.slot, lay28_15_9_3 0x800000 g.toNat d.toNat a.toNat b.toNat)
  | .mulhu u g d a b => some (u.slot, lay28_15_9_3 0xA00000 g.toNat d.toNat a.toNat b.toNat)
  | .divR u g d a b => some (u.slot, lay28_15_9_3 0xC00000 g.toNat d.toNat a.toNat b.toNat)
  | .divu u g d a b => some (u.slot, lay28_15_9_3 0xE00000 g.toNat d.toNat a.toNat b.toNat)
  | .remR u g d a b => some (u.slot, lay28_15_9_3 0x1000000 g.toNat d.toNat a.toNat b.toNat)
  | .remu u g d a b => some (u.slot, lay28_15_9_3 0x1200000 g.toNat d.toNat a.toNat b.toNat)
  | .andR u g d a b => some (u.slot, lay28_15_9_3 0x1400000 g.toNat d.toNat a.toNat b.toNat)
  | .orR u g d a b => some (u.slot, lay28_15_9_3 0x1600000 g.toNat d.toNat a.toNat b.toNat)
  | .xorR u g d a b => some (u.slot, lay28_15_9_3 0x1800000 g.toNat d.toNat a.toNat b.toNat)
  | .andn u g d a b => some (u.slot, lay28_15_9_3 0x1A00000 g.toNat d.toNat a.toNat b.toNat)
  | .shl u g d a b => some (u.slot, lay28_15_9_3 0x1C00000 g.toNat d.toNat a.toNat b.toNat)
  | .shr u g d a b => some (u.slot, lay28_15_9_3 0x1E00000 g.toNat d.toNat a.toNat b.toNat)
  | .sar u g d a b => some (u.slot, lay28_15_9_3 0x2000000 g.toNat d.toNat a.toNat b.toNat)
  | .rol u g d a b => some (u.slot, lay28_15_9_3 0x2200000 g.toNat d.toNat a.toNat b.toNat)
  | .minR u g d a b => some (u.slot, lay28_15_9_3 0x2400000 g.toNat d.toNat a.toNat b.toNat)
  | .maxR u g d a b => some (u.slot, lay28_15_9_3 0x2600000 g.toNat d.toNat a.toNat b.toNat)
  | .minu u g d a b => some (u.slot, lay28_15_9_3 0x2800000 g.toNat d.toNat a.toNat b.toNat)
  | .maxu u g d a b => some (u.slot, lay28_15_9_3 0x2A00000 g.toNat d.toNat a.toNat b.toNat)
  | .lea u g d a b x => some (u.slot, lay28_15_9_3_0 0x2C00000 g.toNat d.toNat a.toNat b.toNat x.toNat)
  | .sel u g d a b p => some (u.slot, lay28_15_9_3_0 0x2E00000 g.toNat d.toNat a.toNat b.toNat p.toNat)
  | .clz u g d a => some (u.slot, lay28_15_9 0x3000000 g.toNat d.toNat a.toNat)
  | .ctz u g d a => some (u.slot, lay28_15_9 0x3200000 g.toNat d.toNat a.toNat)
  | .popc u g d a => some (u.slot, lay28_15_9 0x3400000 g.toNat d.toNat a.toNat)
  | .rngx u g d a b => some (u.slot, lay28_15_9_3 0x3600000 g.toNat d.toNat a.toNat b.toNat)
  | .mov u g d a => some (u.slot, lay28_15_9 0x3800000 g.toNat d.toNat a.toNat)
  | .addi u g d a i => some (u.slot, lay28_15_9_0 0x4000000 g.toNat d.toNat a.toNat i.toNat)
  | .andi u g d a i => some (u.slot, lay28_15_9_0 0x4200000 g.toNat d.toNat a.toNat i.toNat)
  | .ori u g d a i => some (u.slot, lay28_15_9_0 0x4400000 g.toNat d.toNat a.toNat i.toNat)
  | .xori u g d a i => some (u.slot, lay28_15_9_0 0x4600000 g.toNat d.toNat a.toNat i.toNat)
  | .shli u g d a i => some (u.slot, lay28_15_9_0 0x4800000 g.toNat d.toNat a.toNat i.toNat)
  | .shri u g d a i => some (u.slot, lay28_15_9_0 0x4A00000 g.toNat d.toNat a.toNat i.toNat)
  | .sari u g d a i => some (u.slot, lay28_15_9_0 0x4C00000 g.toNat d.toNat a.toNat i.toNat)
  | .roli u g d a i => some (u.slot, lay28_15_9_0 0x4E00000 g.toNat d.toNat a.toNat i.toNat)
  | .muli u g d a i => some (u.slot, lay28_15_9_0 0x5000000 g.toNat d.toNat a.toNat i.toNat)
  | .bfx u g d a p n => some (u.slot, lay28_15_9_4_0 0x5200000 g.toNat d.toNat a.toNat p.toNat n.toNat)
  | .bfi u g d a p n => some (u.slot, lay28_15_9_4_0 0x5400000 g.toNat d.toNat a.toNat p.toNat n.toNat)
  | .li u g d i => some (u.slot, lay28_15_0 0x5800000 g.toNat d.toNat i.toNat)
  | .cmpEq u g p a b => some (u.slot, lay28_15_9_3 0x6000000 g.toNat p.toNat a.toNat b.toNat)
  | .cmpNe u g p a b => some (u.slot, lay28_15_9_3 0x6200000 g.toNat p.toNat a.toNat b.toNat)
  | .cmpLt u g p a b => some (u.slot, lay28_15_9_3 0x6400000 g.toNat p.toNat a.toNat b.toNat)
  | .cmpLe u g p a b => some (u.slot, lay28_15_9_3 0x6600000 g.toNat p.toNat a.toNat b.toNat)
  | .cmpLtu u g p a b => some (u.slot, lay28_15_9_3 0x6800000 g.toNat p.toNat a.toNat b.toNat)
  | .cmpLeu u g p a b => some (u.slot, lay28_15_9_3 0x6A00000 g.toNat p.toNat a.toNat b.toNat)
  | .cmpiEq u g p a i => some (u.slot, lay28_15_9_0 0x6C00000 g.toNat p.toNat a.toNat i.toNat)
  | .cmpiLt u g p a i => some (u.slot, lay28_15_9_0 0x6E00000 g.toNat p.toNat a.toNat i.toNat)
  | .cmpiLtu u g p a i => some (u.slot, lay28_15_9_0 0x7000000 g.toNat p.toNat a.toNat i.toNat)
  | .cmpiNe u g p a i => some (u.slot, lay28_15_9_0 0x7200000 g.toNat p.toNat a.toNat i.toNat)
  | .pand u g p a b => some (u.slot, lay28_15_12_9 0x7400000 g.toNat p.toNat a.toNat b.toNat)
  | .por u g p a b => some (u.slot, lay28_15_12_9 0x7600000 g.toNat p.toNat a.toNat b.toNat)
  | .pxor u g p a b => some (u.slot, lay28_15_12_9 0x7800000 g.toNat p.toNat a.toNat b.toNat)
  | .pandn u g p a b => some (u.slot, lay28_15_12_9 0x7A00000 g.toNat p.toNat a.toNat b.toNat)
  | .cmpt u g a b => some (u.slot, lay28_9_3 0x7C00000 g.toNat a.toNat b.toNat)
  | .cmpti u g a i => some (u.slot, lay28_9_0 0x7E00000 g.toNat a.toNat i.toNat)
  | .ptest u g p a => some (u.slot, lay28_15_9 0x8000000 g.toNat p.toNat a.toNat)
  | .pclr u g d a => some (u.slot, lay28_15_9 0x8200000 g.toNat d.toNat a.toNat)
  | .fadd u g d a b r => some (u.slot, lay28_15_9_3_0 0x9000000 g.toNat d.toNat a.toNat b.toNat r.toNat)
  | .fsub u g d a b r => some (u.slot, lay28_15_9_3_0 0x9200000 g.toNat d.toNat a.toNat b.toNat r.toNat)
  | .fmul u g d a b r => some (u.slot, lay28_15_9_3_0 0x9400000 g.toNat d.toNat a.toNat b.toNat r.toNat)
  | .ffma u g d a b r => some (u.slot, lay28_15_9_3_0 0x9600000 g.toNat d.toNat a.toNat b.toNat r.toNat)
  | .fmin u g d a b => some (u.slot, lay28_15_9_3 0x9800000 g.toNat d.toNat a.toNat b.toNat)
  | .fmax u g d a b => some (u.slot, lay28_15_9_3 0x9A00000 g.toNat d.toNat a.toNat b.toNat)
  | .fabs u g d a => some (u.slot, lay28_15_9 0x9C00000 g.toNat d.toNat a.toNat)
  | .fneg u g d a => some (u.slot, lay28_15_9 0x9E00000 g.toNat d.toNat a.toNat)
  | .fcvtWF u g d a b r => some (u.slot, lay28_15_9_3_0 0xA000000 g.toNat d.toNat a.toNat b.toNat r.toNat)
  | .fcvtFW u g d a b r => some (u.slot, lay28_15_9_3_0 0xA200000 g.toNat d.toNat a.toNat b.toNat r.toNat)
  | .fcvtFWu u g d a b r => some (u.slot, lay28_15_9_3_0 0xA400000 g.toNat d.toNat a.toNat b.toNat r.toNat)
  | .fcvtWuF u g d a b r => some (u.slot, lay28_15_9_3_0 0xA600000 g.toNat d.toNat a.toNat b.toNat r.toNat)
  | .fcmpEq u g p a b => some (u.slot, lay28_15_9_3 0xA800000 g.toNat p.toNat a.toNat b.toNat)
  | .fcmpLt u g p a b => some (u.slot, lay28_15_9_3 0xAA00000 g.toNat p.toNat a.toNat b.toNat)
  | .fcmpLe u g p a b => some (u.slot, lay28_15_9_3 0xAC00000 g.toNat p.toNat a.toNat b.toNat)
  | .fcmpUn u g p a b => some (u.slot, lay28_15_9_3 0xAE00000 g.toNat p.toNat a.toNat b.toNat)
  | .fclass u g d a => some (u.slot, lay28_15_9 0xB000000 g.toNat d.toNat a.toNat)
  | .ldb g d b o => some (3, lay28_15_9_0 0x200000 g.toNat d.toNat b.toNat o.toNat)
  | .ldbu g d b o => some (3, lay28_15_9_0 0x400000 g.toNat d.toNat b.toNat o.toNat)
  | .ldh g d b o => some (3, lay28_15_9_0 0x600000 g.toNat d.toNat b.toNat o.toNat)
  | .ldhu g d b o => some (3, lay28_15_9_0 0x800000 g.toNat d.toNat b.toNat o.toNat)
  | .ldw g d b o => some (3, lay28_15_9_0 0xA00000 g.toNat d.toNat b.toNat o.toNat)
  | .stb g d b o => some (3, lay28_15_9_0 0xC00000 g.toNat d.toNat b.toNat o.toNat)
  | .sth g d b o => some (3, lay28_15_9_0 0xE00000 g.toNat d.toNat b.toNat o.toNat)
  | .stw g d b o => some (3, lay28_15_9_0 0x1000000 g.toNat d.toNat b.toNat o.toNat)
  | .ldwS g d b o => some (3, lay28_15_9_0 0x1200000 g.toNat d.toNat b.toNat o.toNat)
  | .ldbuS g d b o => some (3, lay28_15_9_0 0x1400000 g.toNat d.toNat b.toNat o.toNat)
  | .ldhuS g d b o => some (3, lay28_15_9_0 0x1600000 g.toNat d.toNat b.toNat o.toNat)
  | .ldv g v b o m => some (3, lay28_16_10_3_0 0x2000000 g.toNat v.toNat b.toNat o.toNat m.toNat)
  | .stv g v b o m => some (3, lay28_16_10_3_0 0x2200000 g.toNat v.toNat b.toNat o.toNat m.toNat)
  | .ldvS g v b o m => some (3, lay28_16_10_3_0 0x2400000 g.toNat v.toNat b.toNat o.toNat m.toNat)
  | .ldmx4 g v b o m => some (3, lay28_16_10_3_0 0x2600000 g.toNat v.toNat b.toNat o.toNat m.toNat)
  | .ldmx8 g v b o m => some (3, lay28_16_10_3_0 0x2800000 g.toNat v.toNat b.toNat o.toNat m.toNat)
  | .ldvx g v i b m w => some (3, lay28_16_11_5_3_0 0x3000000 g.toNat v.toNat i.toNat b.toNat m.toNat w.toNat)
  | .stvx g v i b m w => some (3, lay28_16_11_5_3_0 0x3200000 g.toNat v.toNat i.toNat b.toNat m.toNat w.toNat)
  | .ldvxS g v i b m w => some (3, lay28_16_11_5_3_0 0x3400000 g.toNat v.toNat i.toNat b.toNat m.toNat w.toNat)
  | .shn g d a e t m => some (3, lay28_16_11_8_3_0 0x4000000 g.toNat d.toNat a.toNat e.toNat t.toNat m.toNat)
  | .tsh g d a e t m => some (3, lay28_16_11_8_3_0 0x4200000 g.toNat d.toNat a.toNat e.toNat t.toNat m.toNat)
  | .vadd u g d a b m x => some (u.slot, lay28_16_11_6_3_0 0x200000 g.toNat d.toNat a.toNat b.toNat m.toNat x.toNat)
  | .vsub u g d a b m x => some (u.slot, lay28_16_11_6_3_0 0x400000 g.toNat d.toNat a.toNat b.toNat m.toNat x.toNat)
  | .vmul u g d a b m x => some (u.slot, lay28_16_11_6_3_0 0x600000 g.toNat d.toNat a.toNat b.toNat m.toNat x.toNat)
  | .vmulh u g d a b m x => some (u.slot, lay28_16_11_6_3_0 0x800000 g.toNat d.toNat a.toNat b.toNat m.toNat x.toNat)
  | .vmad u g d a b m x => some (u.slot, lay28_16_11_6_3_0 0xA00000 g.toNat d.toNat a.toNat b.toNat m.toNat x.toNat)
  | .vmin u g d a b m x => some (u.slot, lay28_16_11_6_3_0 0xC00000 g.toNat d.toNat a.toNat b.toNat m.toNat x.toNat)
  | .vmax u g d a b m x => some (u.slot, lay28_16_11_6_3_0 0xE00000 g.toNat d.toNat a.toNat b.toNat m.toNat x.toNat)
  | .vminu u g d a b m x => some (u.slot, lay28_16_11_6_3_0 0x1000000 g.toNat d.toNat a.toNat b.toNat m.toNat x.toNat)
  | .vmaxu u g d a b m x => some (u.slot, lay28_16_11_6_3_0 0x1200000 g.toNat d.toNat a.toNat b.toNat m.toNat x.toNat)
  | .vabs u g d a m x => some (u.slot, lay28_16_11_3_0 0x1400000 g.toNat d.toNat a.toNat m.toNat x.toNat)
  | .vand u g d a b m x => some (u.slot, lay28_16_11_6_3_0 0x1600000 g.toNat d.toNat a.toNat b.toNat m.toNat x.toNat)
  | .vor u g d a b m x => some (u.slot, lay28_16_11_6_3_0 0x1800000 g.toNat d.toNat a.toNat b.toNat m.toNat x.toNat)
  | .vxor u g d a b m x => some (u.slot, lay28_16_11_6_3_0 0x1A00000 g.toNat d.toNat a.toNat b.toNat m.toNat x.toNat)
  | .vshl u g d a b m x => some (u.slot, lay28_16_11_6_3_0 0x1C00000 g.toNat d.toNat a.toNat b.toNat m.toNat x.toNat)
  | .vshr u g d a b m x => some (u.slot, lay28_16_11_6_3_0 0x1E00000 g.toNat d.toNat a.toNat b.toNat m.toNat x.toNat)
  | .vsar u g d a b m x => some (u.slot, lay28_16_11_6_3_0 0x2000000 g.toNat d.toNat a.toNat b.toNat m.toNat x.toNat)
  | .vclz u g d a m x => some (u.slot, lay28_16_11_3_0 0x2200000 g.toNat d.toNat a.toNat m.toNat x.toNat)
  | .vpopc u g d a m x => some (u.slot, lay28_16_11_3_0 0x2400000 g.toNat d.toNat a.toNat m.toNat x.toNat)
  | .vadds u g d a b m x => some (u.slot, lay28_16_11_6_3_0 0x2600000 g.toNat d.toNat a.toNat b.toNat m.toNat x.toNat)
  | .vsubs u g d a b m x => some (u.slot, lay28_16_11_6_3_0 0x2800000 g.toNat d.toNat a.toNat b.toNat m.toNat x.toNat)
  | .vcmpEq u g d a b m x => some (u.slot, lay28_16_11_6_3_0 0x3000000 g.toNat d.toNat a.toNat b.toNat m.toNat x.toNat)
  | .vcmpNe u g d a b m x => some (u.slot, lay28_16_11_6_3_0 0x3200000 g.toNat d.toNat a.toNat b.toNat m.toNat x.toNat)
  | .vcmpLt u g d a b m x => some (u.slot, lay28_16_11_6_3_0 0x3400000 g.toNat d.toNat a.toNat b.toNat m.toNat x.toNat)
  | .vcmpLe u g d a b m x => some (u.slot, lay28_16_11_6_3_0 0x3600000 g.toNat d.toNat a.toNat b.toNat m.toNat x.toNat)
  | .vcmpLtu u g d a b m x => some (u.slot, lay28_16_11_6_3_0 0x3800000 g.toNat d.toNat a.toNat b.toNat m.toNat x.toNat)
  | .vcmpLeu u g d a b m x => some (u.slot, lay28_16_11_6_3_0 0x3A00000 g.toNat d.toNat a.toNat b.toNat m.toNat x.toNat)
  | .vaddX u g d a sx m x => some (u.slot, lay28_16_11_5_3_0 0x4000000 g.toNat d.toNat a.toNat sx.toNat m.toNat x.toNat)
  | .vsubX u g d a sx m x => some (u.slot, lay28_16_11_5_3_0 0x4200000 g.toNat d.toNat a.toNat sx.toNat m.toNat x.toNat)
  | .vmulX u g d a sx m x => some (u.slot, lay28_16_11_5_3_0 0x4400000 g.toNat d.toNat a.toNat sx.toNat m.toNat x.toNat)
  | .vandX u g d a sx m x => some (u.slot, lay28_16_11_5_3_0 0x4600000 g.toNat d.toNat a.toNat sx.toNat m.toNat x.toNat)
  | .vshlX u g d a sx m x => some (u.slot, lay28_16_11_5_3_0 0x4800000 g.toNat d.toNat a.toNat sx.toNat m.toNat x.toNat)
  | .vshrX u g d a sx m x => some (u.slot, lay28_16_11_5_3_0 0x4A00000 g.toNat d.toNat a.toNat sx.toNat m.toNat x.toNat)
  | .vsarX u g d a sx m x => some (u.slot, lay28_16_11_5_3_0 0x4C00000 g.toNat d.toNat a.toNat sx.toNat m.toNat x.toNat)
  | .vcmpEqX u g d a sx m x => some (u.slot, lay28_16_11_5_3_0 0x4E00000 g.toNat d.toNat a.toNat sx.toNat m.toNat x.toNat)
  | .vcmpLtX u g d a sx m x => some (u.slot, lay28_16_11_5_3_0 0x5000000 g.toNat d.toNat a.toNat sx.toNat m.toNat x.toNat)
  | .vdup u g d a sx m x => some (u.slot, lay28_16_11_5_3_0 0x5200000 g.toNat d.toNat a.toNat sx.toNat m.toNat x.toNat)
  | .vins u g d a sx m x => some (u.slot, lay28_16_11_5_3_0 0x5400000 g.toNat d.toNat a.toNat sx.toNat m.toNat x.toNat)
  | .vext u g d a sx m x => some (u.slot, lay28_16_11_5_3_0 0x5600000 g.toNat d.toNat a.toNat sx.toNat m.toNat x.toNat)
  | .mand u g d a b => some (u.slot, lay28_16_11_6 0x6000000 g.toNat d.toNat a.toNat b.toNat)
  | .mor u g d a b => some (u.slot, lay28_16_11_6 0x6200000 g.toNat d.toNat a.toNat b.toNat)
  | .mxor u g d a b => some (u.slot, lay28_16_11_6 0x6400000 g.toNat d.toNat a.toNat b.toNat)
  | .mandn u g d a b => some (u.slot, lay28_16_11_6 0x6600000 g.toNat d.toNat a.toNat b.toNat)
  | .mpop u g d a => some (u.slot, lay28_16_11 0x6800000 g.toNat d.toNat a.toNat)
  | .mfirst u g d a => some (u.slot, lay28_16_11 0x6A00000 g.toNat d.toNat a.toNat)
  | .vsel u g d a b m => some (u.slot, lay28_16_11_6_3 0x6C00000 g.toNat d.toNat a.toNat b.toNat m.toNat)
  | .vperm u g d a b m x => some (u.slot, lay28_16_11_6_3_0 0x7000000 g.toNat d.toNat a.toNat b.toNat m.toNat x.toNat)
  | .vrotX u g d a sx m x => some (u.slot, lay28_16_11_5_3_0 0x7200000 g.toNat d.toNat a.toNat sx.toNat m.toNat x.toNat)
  | .vzip u g d a b m x => some (u.slot, lay28_16_11_6_3_0 0x7400000 g.toNat d.toNat a.toNat b.toNat m.toNat x.toNat)
  | .vunzip u g d a b m x => some (u.slot, lay28_16_11_6_3_0 0x7600000 g.toNat d.toNat a.toNat b.toNat m.toNat x.toNat)
  | .vcompress u g d a b m x => some (u.slot, lay28_16_11_6_3_0 0x7800000 g.toNat d.toNat a.toNat b.toNat m.toNat x.toNat)
  | .vexpand u g d a b m x => some (u.slot, lay28_16_11_6_3_0 0x7A00000 g.toNat d.toNat a.toNat b.toNat m.toNat x.toNat)
  | .vidx u g d i x => some (u.slot, lay28_16_3_0 0x7C00000 g.toNat d.toNat i.toNat x.toNat)
  | .vredAdd u g d a b m x => some (u.slot, lay28_16_11_6_3_0 0x8000000 g.toNat d.toNat a.toNat b.toNat m.toNat x.toNat)
  | .vredMax u g d a b m x => some (u.slot, lay28_16_11_6_3_0 0x8200000 g.toNat d.toNat a.toNat b.toNat m.toNat x.toNat)
  | .vredMin u g d a b m x => some (u.slot, lay28_16_11_6_3_0 0x8400000 g.toNat d.toNat a.toNat b.toNat m.toNat x.toNat)
  | .vscanAdd u g d a b m x => some (u.slot, lay28_16_11_6_3_0 0x8600000 g.toNat d.toNat a.toNat b.toNat m.toNat x.toNat)
  | .vmredAdd u g d a b m x => some (u.slot, lay28_16_11_6_3_0 0x8800000 g.toNat d.toNat a.toNat b.toNat m.toNat x.toNat)
  | .vmredMax u g d a b m x => some (u.slot, lay28_16_11_6_3_0 0x8A00000 g.toNat d.toNat a.toNat b.toNat m.toNat x.toNat)
  | .vmscanAdd u g d a b m x => some (u.slot, lay28_16_11_6_3_0 0x8C00000 g.toNat d.toNat a.toNat b.toNat m.toNat x.toNat)
  | .vmcount u g d a b m x => some (u.slot, lay28_16_11_6_3_0 0x8E00000 g.toNat d.toNat a.toNat b.toNat m.toNat x.toNat)
  | .vfaddF u g d a b m r => some (u.slot, lay28_16_11_6_3_0 0xA000000 g.toNat d.toNat a.toNat b.toNat m.toNat r.toNat)
  | .vfsubF u g d a b m r => some (u.slot, lay28_16_11_6_3_0 0xA200000 g.toNat d.toNat a.toNat b.toNat m.toNat r.toNat)
  | .vfmulF u g d a b m r => some (u.slot, lay28_16_11_6_3_0 0xA400000 g.toNat d.toNat a.toNat b.toNat m.toNat r.toNat)
  | .vffmaF u g d a b m r => some (u.slot, lay28_16_11_6_3_0 0xA600000 g.toNat d.toNat a.toNat b.toNat m.toNat r.toNat)
  | .vfminF u g d a b m => some (u.slot, lay28_16_11_6_3 0xA800000 g.toNat d.toNat a.toNat b.toNat m.toNat)
  | .vfmaxF u g d a b m => some (u.slot, lay28_16_11_6_3 0xAA00000 g.toNat d.toNat a.toNat b.toNat m.toNat)
  | .vfabsF u g d a m => some (u.slot, lay28_16_11_3 0xAC00000 g.toNat d.toNat a.toNat m.toNat)
  | .vfnegF u g d a m => some (u.slot, lay28_16_11_3 0xAE00000 g.toNat d.toNat a.toNat m.toNat)
  | .vfcmpEqF u g d a b m => some (u.slot, lay28_16_11_6_3 0xB000000 g.toNat d.toNat a.toNat b.toNat m.toNat)
  | .vfcmpLtF u g d a b m => some (u.slot, lay28_16_11_6_3 0xB200000 g.toNat d.toNat a.toNat b.toNat m.toNat)
  | .vfcmpLeF u g d a b m => some (u.slot, lay28_16_11_6_3 0xB400000 g.toNat d.toNat a.toNat b.toNat m.toNat)
  | .vfcmpUnF u g d a b m => some (u.slot, lay28_16_11_6_3 0xB600000 g.toNat d.toNat a.toNat b.toNat m.toNat)
  | .vfaddBf u g d a b m r => some (u.slot, lay28_16_11_6_3_0 0xB800000 g.toNat d.toNat a.toNat b.toNat m.toNat r.toNat)
  | .vfmulBf u g d a b m r => some (u.slot, lay28_16_11_6_3_0 0xBA00000 g.toNat d.toNat a.toNat b.toNat m.toNat r.toNat)
  | .vffmaBf u g d a b m r => some (u.slot, lay28_16_11_6_3_0 0xBC00000 g.toNat d.toNat a.toNat b.toNat m.toNat r.toNat)
  | .vfdotBf u g d a b m r => some (u.slot, lay28_16_11_6_3_0 0xBE00000 g.toNat d.toNat a.toNat b.toNat m.toNat r.toNat)
  | .vcvtBfF u g d a b m r => some (u.slot, lay28_16_11_6_3_0 0xC000000 g.toNat d.toNat a.toNat b.toNat m.toNat r.toNat)
  | .vcvtF16F u g d a b m r => some (u.slot, lay28_16_11_6_3_0 0xC200000 g.toNat d.toNat a.toNat b.toNat m.toNat r.toNat)
  | .vcvtE4F u g d a b m r => some (u.slot, lay28_16_11_6_3_0 0xC400000 g.toNat d.toNat a.toNat b.toNat m.toNat r.toNat)
  | .vcvtE5F u g d a b m r => some (u.slot, lay28_16_11_6_3_0 0xC600000 g.toNat d.toNat a.toNat b.toNat m.toNat r.toNat)
  | .vcvtE2F u g d a b m r => some (u.slot, lay28_16_11_6_3_0 0xC800000 g.toNat d.toNat a.toNat b.toNat m.toNat r.toNat)
  | .vcvtFBf u g d a b m r => some (u.slot, lay28_16_11_6_3_0 0xCA00000 g.toNat d.toNat a.toNat b.toNat m.toNat r.toNat)
  | .vcvtFF16 u g d a b m r => some (u.slot, lay28_16_11_6_3_0 0xCC00000 g.toNat d.toNat a.toNat b.toNat m.toNat r.toNat)
  | .vcvtFE4 u g d a b m r => some (u.slot, lay28_16_11_6_3_0 0xCE00000 g.toNat d.toNat a.toNat b.toNat m.toNat r.toNat)
  | .vcvtFE5 u g d a b m r => some (u.slot, lay28_16_11_6_3_0 0xD000000 g.toNat d.toNat a.toNat b.toNat m.toNat r.toNat)
  | .vcvtFE2 u g d a b m r => some (u.slot, lay28_16_11_6_3_0 0xD200000 g.toNat d.toNat a.toNat b.toNat m.toNat r.toNat)
  | .vcvtWF u g d a b m r => some (u.slot, lay28_16_11_6_3_0 0xD400000 g.toNat d.toNat a.toNat b.toNat m.toNat r.toNat)
  | .vcvtFW u g d a b m r => some (u.slot, lay28_16_11_6_3_0 0xD600000 g.toNat d.toNat a.toNat b.toNat m.toNat r.toNat)
  | .vcvtBF u g d a b m r => some (u.slot, lay28_16_11_6_3_0 0xD800000 g.toNat d.toNat a.toNat b.toNat m.toNat r.toNat)
  | .vcvtE4FSat u g d a b m r => some (u.slot, lay28_16_11_6_3_0 0xDA00000 g.toNat d.toNat a.toNat b.toNat m.toNat r.toNat)
  | .vcvtE5FSat u g d a b m r => some (u.slot, lay28_16_11_6_3_0 0xDC00000 g.toNat d.toNat a.toNat b.toNat m.toNat r.toNat)
  | .vpackH u g d a b m => some (u.slot, lay28_16_11_6_3 0xE000000 g.toNat d.toNat a.toNat b.toNat m.toNat)
  | .vpackB u g d a b m => some (u.slot, lay28_16_11_6_3 0xE200000 g.toNat d.toNat a.toNat b.toNat m.toNat)
  | .vpackN u g d a b m => some (u.slot, lay28_16_11_6_3 0xE400000 g.toNat d.toNat a.toNat b.toNat m.toNat)
  | .vunpkLo u g d a t m => some (u.slot, lay28_16_11_6_3 0xE600000 g.toNat d.toNat a.toNat t.toNat m.toNat)
  | .vunpkHi u g d a t m => some (u.slot, lay28_16_11_6_3 0xE800000 g.toNat d.toNat a.toNat t.toNat m.toNat)
  | .vbexp u g d a m => some (u.slot, lay28_16_11_3 0xEA00000 g.toNat d.toNat a.toNat m.toNat)
  | .vscalb u g d a i r => some (u.slot, lay28_16_11_3_0 0xEC00000 g.toNat d.toNat a.toNat i.toNat r.toNat)
  | .vexp2 u g d a b m r => some (u.slot, lay28_16_11_6_3_0 0xF000000 g.toNat d.toNat a.toNat b.toNat m.toNat r.toNat)
  | .vlog2 u g d a b m r => some (u.slot, lay28_16_11_6_3_0 0xF200000 g.toNat d.toNat a.toNat b.toNat m.toNat r.toNat)
  | .vrcp u g d a b m r => some (u.slot, lay28_16_11_6_3_0 0xF400000 g.toNat d.toNat a.toNat b.toNat m.toNat r.toNat)
  | .vrsqrt u g d a b m r => some (u.slot, lay28_16_11_6_3_0 0xF600000 g.toNat d.toNat a.toNat b.toNat m.toNat r.toNat)
  | .vsqrt u g d a b m r => some (u.slot, lay28_16_11_6_3_0 0xF800000 g.toNat d.toNat a.toNat b.toNat m.toNat r.toNat)
  | .mparmLo g p sx => some (6, lay28_18_12 0x200000 g.toNat p.toNat sx.toNat)
  | .mparmHi g p sx => some (6, lay28_18_12 0x200800 g.toNat p.toNat sx.toNat)
  | .mcall g r b n => some (6, lay28_13_6_0 0x400000 g.toNat r.toNat b.toNat n.toNat)
  | .mswap g b n => some (6, lay28_6_0 0x600000 g.toNat b.toNat n.toNat)
  | .tcfg g t sx => some (6, lay28_18_12 0x800000 g.toNat t.toNat sx.toNat)
  | .tzero g t => some (6, lay28_18 0xA00000 g.toNat t.toNat)
  | .trowW g v t i e => some (6, lay28_16_13_5_3 0xC00000 g.toNat v.toNat t.toNat i.toNat e.toNat)
  | .trowR g v t i e => some (6, lay28_16_13_5_3 0xE00000 g.toNat v.toNat t.toNat i.toNat e.toNat)
  | .tcolW g v t i e => some (6, lay28_16_13_5_3 0x1000000 g.toNat v.toNat t.toNat i.toNat e.toNat)
  | .tcolR g v t i e => some (6, lay28_16_13_5_3 0x1200000 g.toNat v.toNat t.toNat i.toNat e.toNat)
  | .mstat g k => some (6, lay28_18 0x1400000 g.toNat k.toNat)
  | .tdrop g t => some (6, lay28_18 0x1600000 g.toNat t.toNat)
  | .spush g qx sx => some (7, lay28_16_10 0x200000 g.toNat qx.toNat sx.toNat)
  | .spushv g qx v m => some (7, lay28_16_11_8 0x400000 g.toNat qx.toNat v.toNat m.toNat)
  | .spop g qx sx => some (7, lay28_16_10 0x600000 g.toNat qx.toNat sx.toNat)
  | .spopv g qx v m => some (7, lay28_16_11_8 0x800000 g.toNat qx.toNat v.toNat m.toNat)
  | .scard g qx sx => some (7, lay28_16_10 0xA00000 g.toNat qx.toNat sx.toNat)
  | .sroute g qx sx c => some (7, lay28_16_10_0 0xC00000 g.toNat qx.toNat sx.toNat c.toNat)
  | .sstat g qx sx => some (7, lay28_16_10 0xE00000 g.toNat qx.toNat sx.toNat)
  | .sacc g i v o m d => some (7, lay28_16_11_7_4_3 0x1000000 g.toNat i.toNat v.toNat o.toNat m.toNat d.toNat)
  | .sflush g => some (7, lay28 0x1200000 g.toNat)
  | .swsub g qx sx n => some (7, lay28_16_10_0 0x1400000 g.toNat qx.toNat sx.toNat n.toNat)
  | .swjoin g qx sx n => some (7, lay28_16_10_0 0x1600000 g.toNat qx.toNat sx.toNat n.toNat)
  | .swpop g sx => some (7, lay28_10 0x1800000 g.toNat sx.toNat)
  | .swdone g sx => some (7, lay28_10 0x1A00000 g.toNat sx.toNat)
  | .mgpush g v m => some (7, lay28_11_8 0x1C00000 g.toNat v.toNat m.toNat)
  | .mgpop g v m => some (7, lay28_11_8 0x1E00000 g.toNat v.toNat m.toNat)
  | .bundleIssue _ => none
  | .bundleSkip _ => none
  | .segmentExpand _ => none
  | .loopClose _ => none
  | .bivouac _ => none
  | .parkWake _ _ => none
  | .parkTimeout _ _ => none
  | .cairnPickup _ _ _ => none
  | .priorityAging _ _ => none
  | .phaseStart _ => none
  | .summitExchange _ => none
  | .ropeClose _ => none
  | .preemptGrant _ => none
  | .preemptOverrun _ => none
  | .timingEvent _ => none
  | .supplySettled _ => none
  | .marginWindowEnd _ => none
  | .quarantine _ => none
  | .softError _ => none
  | .controlRegisterUpset _ _ => none
  | .verticalWireFailure _ _ _ _ => none
  | .towerMove _ _ => none
  | .refreshPending _ _ => none
  | .refreshPassStart _ _ => none
  | .refreshPassEnd _ _ => none
  | .deferralExpiry _ => none
  | .forcedPass _ => none
  | .temperatureChange _ => none
  | .popRelease _ => none
  | .pushRoom _ => none
  | .barwaitRelease _ => none
  | .drainRelease _ => none
  | .sysRingRoom _ => none
  | .matrixQueueRoom _ => none
  | .tileHoldRelease _ => none
  | .tshSourceRelease _ => none
  | .cardRead _ _ => none
  | .copyCard _ _ => none
  | .gatherCard _ _ => none
  | .transposeCard _ _ => none
  | .multicastCard _ _ => none
  | .bankfillCard _ _ => none
  | .offloadCard _ _ => none
  | .reloadCard _ _ => none
  | .decompCard _ _ => none
  | .cardReport _ _ => none
  | .switchHop _ _ => none
  | .clusterStall _ => none
  | .mma _ => none
  | .mmo _ => none
  | .mmaMx _ => none
  | .tstore _ => none
  | .tload _ => none
  | .vendorRoutine _ => none
  | .routineStep _ => none
  | .routineComplete _ => none
  | .swapComplete _ => none
  | .matrixUnitClaim _ => none
  | .tileLazyLoad _ _ => none
  | .powerAlarmRaise => none
  | .powerAlarmClear => none
  | .accumulateArrival _ => none
  | .sflushArrival _ => none
  | .subscription _ => none
  | .pageIssue _ _ _ => none
  | .pageLanding _ _ _ => none
  | .partialCombine _ _ => none
  | .poolEntryFree _ => none
  | .qnotify _ _ _ => none
  | .queueScanTimer _ => none
  | .shadowWrite _ _ => none
  | .qridxResync _ _ => none
  | .qstatHaltClear _ _ => none
  | .launchP _ _ => none
  | .signalP _ _ => none
  | .waitP _ _ => none
  | .waitTimeout _ _ => none
  | .markerP _ _ => none
  | .nopPacket _ _ => none
  | .packetAging _ _ => none
  | .kernelCompletion _ => none
  | .partitionReset _ => none
  | .unitLoss _ => none
  | .translationWalk _ => none
  | .frespWalkAgain _ _ => none
  | .frespFail _ _ => none
  | .faultTimeout _ _ => none
  | .tictlGo _ _ => none
  | .invalidationAck _ => none
  | .backgroundFill _ _ => none
  | .flitReceive _ _ => none
  | .ridgePacketReceive _ => none
  | .linkDead _ => none
  | .pathLossTimeout _ => none
  | .ingestWrite _ _ _ _ => none
  | .wclose _ _ => none
  | .frameDescriptor _ => none
  | .wcfgEnable _ _ => none
  | .apertureAccess _ _ _ _ _ => none
  | .registerWrite _ _ _ => none
  | .powerOn => none
  | .moduleReset => none
  | .configOp _ => none
  | .routineOp _ => none
  | .attestOp _ => none
  | .unloadOp _ => none
  | .doubleBitError _ => none
  | .configurationRequest _ _ _ => none
  | .i3cManagement _ => none
  | .badOp _ _ => none

/-- The slot an instruction stands in; none for a step row. -/
def Instr.slot? (i : Instr) : Option Nat := (encode i).map (·.1)

/-! ### The literal (R86) -/

/-- The low bits of the scalar source fields that the format of a word in slot k defines (R86 to R92). -/
def scalarFields (k w : Nat) : List Nat :=
  let op := fld w 21 7
  match k with
  | 0 => match fld w 20 6 with
    | 0x03 => [14]
    | 0x05 => [13]
    | 0x06 => [14]
    | 0x0A => [14, 8]
    | 0x0D => [7]
    | 0x17 => [0]
    | 0x18 => [14]
    | 0x1A => [14]
    | _ => []
  | 1 =>
    if (0x01 ≤ op ∧ op ≤ 0x17) ∨ op = 0x1B then [9, 3]
    else if (0x18 ≤ op ∧ op ≤ 0x1C) ∨ (0x20 ≤ op ∧ op ≤ 0x2A) then [9]
    else if (0x30 ≤ op ∧ op ≤ 0x35) ∨ op = 0x3E then [9, 3]
    else if (0x36 ≤ op ∧ op ≤ 0x39) ∨ (0x3F ≤ op ∧ op ≤ 0x41) then [9]
    else if (0x48 ≤ op ∧ op ≤ 0x4D) ∨ (0x50 ≤ op ∧ op ≤ 0x57) then [9, 3]
    else if op = 0x4E ∨ op = 0x4F ∨ op = 0x58 then [9]
    else []
  | 3 =>
    if 0x06 ≤ op ∧ op ≤ 0x08 then [9, 15]
    else if 0x01 ≤ op ∧ op ≤ 0x0B then [9]
    else if 0x10 ≤ op ∧ op ≤ 0x14 then [10]
    else if 0x18 ≤ op ∧ op ≤ 0x1A then [5]
    else []
  | 4 => if (0x20 ≤ op ∧ op ≤ 0x2B) ∨ op = 0x39 then [5] else []
  | 5 => if (0x20 ≤ op ∧ op ≤ 0x2B) ∨ op = 0x39 then [5] else []
  | 6 => if op = 1 ∨ op = 4 then [12] else []
  | 7 => if op = 1 ∨ op = 5 ∨ op = 6 ∨ op = 10 ∨ op = 11 ∨ op = 13 then [10] else []
  | _ => []

/-- The word w of slot k names `lit` (R86). -/
def litNamed (k w : Nat) : Bool := (scalarFields k w).any (fun lo => fld w lo 6 == 63)

/-- Word k of the 256 bits of an expanded bundle (R75). -/
def bundleWord (bits : Nat) (k : Nat) : Nat := fld bits (32 * k) 32

/-- Slot 2 of an expanded bundle is the literal (R86). -/
def bundleLit (bits : Nat) : Bool :=
  [0, 1, 3, 4, 5, 6, 7].any (fun k => litNamed k (bundleWord bits k))

/-! ### One word on its own -/

/-- The slots whose opcode maps are tried, the ones with most fixed bits first (log 14). -/
def tableSlots : List Nat := [6, 7, 1, 4, 3, 0]

noncomputable section

/-- The first instruction that a word stands for in one of some slots, with the slot. -/
def decodeIn : List Nat → Nat → Option (Nat × Instr)
  | [], _ => none
  | k :: t, w => match decodeSlot k w with
    | .ok i => some (k, i)
    | .error _ => decodeIn t w

/-- The instruction of a table word. The word does not say in which slot it stands: the first slot of
`tableSlots` whose map assigns it is taken (log 14). -/
def decodeTableWord (nbits w : Nat) : Option Instr :=
  (decodeIn tableSlots (w % 2 ^ (if nbits < 32 then nbits else 32))).map (·.2)

end

end Sys2Proof
end

