-- ==== Sys2Proof/Machine/CoreTypes.lean ====
section
/-!
DEFINITION. What one core holds (R16, R42): register files, results in flight, sequencer, control
registers, margin, refresh, barriers, FIFOs and matrix unit. Plain data only.
-/
namespace Sys2Proof.Machine

/-- A scalar register or scalar result port: value and poison tag (R81, R85, R93). -/
structure SReg where
  val : Word
  tag : Tag
  deriving DecidableEq, Repr
/-- A vector register or vector result port: value and 64 lane tags (R83, R85, R93). -/
structure VReg where
  val : Vec
  tags : VTags
  deriving DecidableEq, Repr
/-- A predicate (R84, R93). -/
structure PReg where
  val : Bool
  tag : Tag
  deriving DecidableEq, Repr
/-- A lane mask (R84, R93). -/
structure MReg where
  bits : Mask
  tags : MTags
  deriving DecidableEq, Repr
/-- A matrix parameter register (R84, R93). -/
structure MpReg where
  val : Dword
  tag : Tag
  deriving DecidableEq, Repr
/-- A place in a kernel's code: segment offset and bundle index (R48, R99). -/
structure Pos where
  seg : Nat
  idx : Nat
  deriving DecidableEq, Repr
/-- A loop counter with START, END and its armed state (R168, R169, R460). `stop` none: the body
runs past the end of the route. -/
structure LoopCtr where
  cnt : Word
  tag : Tag
  start : Pos
  stop : Option Pos
  armed : Bool
  deriving DecidableEq, Repr

/-- The registers and ports that an operation reads or writes (R60, R81 to R85, R96). Scalar code
c is 0-55, vector code 0-27; scalar ports 0-5 are codes 56-61, vector ports 0-3 codes 28-31. -/
inductive RegId where
  | s (code : Nat)
  | v (code : Nat)
  | p (n : Nat)
  | m (n : Nat)
  | mp (n : Nat)
  | lc (n : Nat)
  | sPort (n : Nat)
  | vPort (n : Nat)
  | fpf
  | fpm
  deriving DecidableEq, Repr

/-- A value on its way to a register (R97, R217). -/
inductive WVal where
  /-- a scalar result -/
  | word (x : Word) (t : Tag)
  /-- a vector result with the byte lanes it writes -/
  | vec (x : Vec) (t : VTags) (en : Mask)
  /-- a predicate result -/
  | bit (b : Bool) (t : Tag)
  /-- a mask result with the bits it writes -/
  | mask (x : Mask) (t : MTags) (en : Mask)
  /-- one half of a matrix parameter register -/
  | half (hi : Bool) (x : Word) (t : Tag)
  /-- flags to be ORed into FPF (R157) -/
  | flags (f : BitVec 5)
  deriving DecidableEq, Repr

/-- A result in flight (R97): the position at which it becomes visible, its target and value, and
the position and reference of the bundle that issued it. -/
structure Pend where
  due : Nat
  dst : RegId
  val : WVal
  at_ : Nat
  src : Word
  deriving DecidableEq, Repr

/-- The register files and ports of a core. -/
structure Regs where
  s : Vector SReg 56
  v : Vector VReg 28
  p : Vector PReg 8
  m : Vector MReg 8
  mp : Vector MpReg 8
  lc : Vector LoopCtr 2
  /-- the loop counter armed most recently (R169) -/
  lcLast : Nat
  sPort : Vector SReg 6
  vPort : Vector VReg 4
  deriving DecidableEq, Repr

/-- A region pair with its hidden owner (R208 to R210). -/
structure Region where
  base : BitVec 20
  swz : BitVec 2
  v : Bool
  rd : Bool
  wr : Bool
  ew : Bool
  limit : BitVec 20
  own : Word
  deriving DecidableEq, Repr

/-- The control registers of a core that travel with the cairn or are set at pickup
(R155, R156, R201, R203). -/
structure Ctl where
  kid : Word
  asid : BitVec 13
  vcl : BitVec 10
  role : BitVec 4
  lead : BitVec 2
  ropeW : BitVec 2
  fpm : BitVec 3
  fpf : BitVec 5
  hm : Bool
  trc : BitVec 16
  trb : Word
  trm : BitVec 8
  tra : Word
  hndl : Word
  bvn : BitVec 8
  maxp : Word
  pent : Pos
  deriving DecidableEq, Repr

/-- The event counters of a core (R204). -/
structure Counters where
  bndl : Word
  nuls : Word
  rply : Word
  bivc : Word
  rwnd : Word
  istl : Word
  barz : Word
  lstl : Word
  pick : Word
  supp : Word
  sysq : Word
  deriving DecidableEq, Repr

/-- The margin registers of a core (R296) with the start of the running window (R295). -/
structure Margin where
  sub : Bool
  floor : BitVec 8
  gua : BitVec 8
  cur : BitVec 8
  lim : BitVec 8
  rpw : Word
  thr : BitVec 16
  win : BitVec 16
  esc : BitVec 16
  hard : BitVec 8
  strk : BitVec 4
  pend : Bool
  quar : Bool
  winStart : Nat
  deriving DecidableEq, Repr

/-- A valid entry of a physical tower's column remap table (R29): bus 0 read, 1 write, 2 command. -/
structure ColRemap where
  bus : Nat
  failed : Nat
  spare : Nat
  deriving DecidableEq, Repr

/-- A tower's refresh and sparing state (R28, R29, R218, R311). -/
structure Tower where
  /-- cycle of the end of the last pass -/
  lastPass : Nat
  /-- cycle at which a pass became pending -/
  pendSince : Option Nat
  /-- cycle at which the running pass started -/
  running : Option Nat
  /-- physical tower of the tower remap table; none: entry not valid -/
  phys : Option Nat
  /-- failed columns (bus, column) served by check bits until the move (R311) -/
  moving : List (Nat × Nat)
  /-- failed columns whose words read as uncorrectable (R311 step 4) -/
  dead : List (Nat × Nat)
  deriving DecidableEq, Repr

/-- A barrier (R176). -/
structure Barrier where
  cnt : BitVec 16
  own : Word
  deriving DecidableEq, Repr

/-- An element of a FIFO (R340): its kernel and its payload. -/
inductive Payload where
  /-- a scalar element -/
  | word (x : Word)
  /-- a vector element with its lane tags (R459) -/
  | vec (x : Vec) (t : VTags)
  /-- a card address with the card bytes' core (R346) -/
  | card (a : Word)
  /-- a scatter-accumulate command (R369): values, offsets, mask, aop, ord, and k4, k5 -/
  | acc (base : Dword) (idx val : Vec) (act : Mask) (aop : Nat) (ord : Bool)
  /-- a flush of staged updates (R375) -/
  | flush
  /-- a flush that has arrived at the homes and whose applications are not all complete (R375) -/
  | flushing
  /-- a sweep subscription: card address, slot, whether it is `swjoin` (R394) -/
  | sub (a : Word) (slot : Nat) (join : Bool)
  /-- a merge result: o, m, l, the result word, and the query whose slot it leaves (R383, R391, R396) -/
  | merged (o : Vec) (m l r : Word) (no : Nat)
  deriving DecidableEq, Repr

/-- A FIFO element (R340). `tag` is the tag that the producing engine states (R344). -/
structure Elem where
  kid : Word
  pay : Payload
  tag : Tag
  /-- the core that pushed it (R236, R237); 256 for an engine -/
  src : Nat
  deriving DecidableEq, Repr

/-- The identity of a pitch and the greatest push index accepted in it (R62). -/
structure PushSeen where
  /-- receiving agent number -/
  agent : Nat
  /-- source core -/
  core : Nat
  kid : Word
  cix : Nat
  pser : Nat
  index : Nat
  deriving DecidableEq, Repr

/-- A pop record (R345). -/
structure PopRec where
  kind : Nat
  vec : Vec
  vtag : Tag
  w0 : SReg
  w1 : SReg
  w2 : SReg
  deriving DecidableEq, Repr

/-- An expanded bundle: its 256 bits, and whether its record was malformed (R75, R118). -/
structure XBundle where
  bits : BitVec 256
  bad : Bool
  deriving DecidableEq, Repr

/-- One half of the loop buffer: a resident expanded segment (R119). -/
structure Half where
  seg : Nat
  next : Nat
  bundles : List XBundle
  deriving DecidableEq, Repr

/-- Where the next bundle stands, or why it stands nowhere: the TRA and TRB that END_OF_ROUTE
records when the place is refused (R74, R100). -/
structure Fetch where
  pos : Pos
  bad : Bool
  tra : Word
  trb : Word
  deriving DecidableEq, Repr

/-- Why a core holds issue (R65, R165, R230, R294, R311, R315, R343, R344). -/
inductive Hold where
  | barwait
  /-- `q`: the `drain` stands in a Q bundle -/
  | drain (scope : Nat) (q : Bool)
  | sys
  | pop
  | push
  | matrixQueue
  | tile (t : Nat)
  | tsh
  | rope (w : Nat)
  | supply
  | walk
  | towerMove (g : Nat)
  | claim
  | expand
  /-- the header of a segment along the chain is not readable yet (R167, R427) -/
  | chain (seg : Nat)
  /-- another member of the rope holds (R66) -/
  | partner
  /-- the `drain` of a Q bundle is over, and a grant waits for the save area (R306, R427) -/
  | grant
  deriving DecidableEq, Repr

/-- A pitch fault or TIMING_HARD that has been raised and waits for the save area (R299, R304, R427). -/
inductive Owed where
  | fault (trb : Word) (code : Nat) (tra : Word) (mask : Nat)
  /-- TIMING_HARD that core c saw -/
  | hard (c : Nat)
  deriving DecidableEq, Repr

/-- The watch of R70 over one backward branch: the branching bundle, iterations completed that qualify,
the registers as they stood at the last arrival (or at the entry, before the first), and the line and
value that the qualifying iterations loaded last. -/
structure Watch where
  branch : Option Pos
  iters : Nat
  s : Vector SReg 56
  p : Vector PReg 8
  load : Option (Nat × Nat)
  deriving DecidableEq, Repr

/-- The sequencer of a core (R57 to R62, R95, R101, R119). -/
structure Seq where
  fetch : Fetch
  /-- delay slots still to issue, the target that follows them, and the branching bundle -/
  br : Option (Nat × Fetch × Pos)
  /-- bundle position counter -/
  pos : Nat
  grpLen : Nat
  grpWrites : List RegId
  grpPorts : List RegId
  readFirst : List RegId
  written : List RegId
  dirty : Bool
  pushIdx : Nat
  /-- the greatest push index that the pitch has reached, over all its runs (R304) -/
  sent : Nat
  /-- effects below this index are suppressed by the core itself (R304, R310) -/
  pix : Nat
  recs : List PopRec
  popsDone : Nat
  popsOver : Bool
  pser : BitVec 16
  hold : Option Hold
  holdSince : Nat
  watch : Watch
  /-- line and value of the last scalar or vector load since the last backward branch (R70) -/
  lastLoad : Option (Nat × Nat)
  /-- a store, committed-late effect or matrix instruction committed since then (R70) -/
  effect : Bool
  /-- cycle at which a pre-emption request reached the core (R73, R306) -/
  preempt : Option Nat
  cych : Option Word
  replays : Nat
  /-- cycle of the first issue of a bundle that replays (R202) -/
  firstCycle : Option Nat
  /-- the results of its slots as that issue gave them: slot, then latency, register, value (R115, R290, R334,
  R347) -/
  first : Option (List (Nat × List (Nat × RegId × WVal)))
  half0 : Option Half
  half1 : Option Half
  /-- the half that executes: false half0 -/
  exec1 : Bool
  /-- a segment whose header failed its first read (R118) -/
  retry : Option Nat
  /-- a damaged saved register, to be reported at the next position (R302) -/
  upset : Option Nat
  /-- the pre-emption request has already raised PREEMPT_OVERRUN (R73, R301) -/
  overrun : Bool
  /-- a fault whose delivery waits for the save area (R299, R427) -/
  owes : Option Owed
  /-- newest write of each predicate: one more than the position at which it became visible; 0 for
  none (R103) -/
  predVis : Vector Nat 8
  deriving DecidableEq, Repr

/-- A FIFO of a core (R339, R340, R365): its elements, and the vat entries on loan to it. -/
structure Fifo where
  els : List Elem
  extra : Nat
  deriving DecidableEq, Repr

/-- Where a route leads (R348). -/
inductive Dest where
  | endpoint (pos ep : Nat)
  | copyPort (p : Nat)
  | transposePort
  deriving DecidableEq, Repr

/-- The route of an endpoint's outbound side (R348): its kernel, its destination, and how many
elements may still pass; none for no limit. -/
structure Route where
  kid : Word
  dest : Dest
  left : Option Nat
  deriving DecidableEq, Repr

/-- How far a card has come (R346, R364). -/
inductive JobStage where
  /-- read and checked; its work is to be done -/
  | checked
  /-- its work is done, with this status and count -/
  | finished (status count : Nat)
  deriving DecidableEq, Repr

/-- An accepted card (R346, R351): its bytes as read, the identity of the cairn that sent it. -/
structure Job where
  /-- its tick of acceptance -/
  no : Nat
  bytes : BitVec 512
  kid : Word
  asid : Nat
  src : Nat
  /-- whether it pushes a status element and names a barrier -/
  sts : Bool
  bar : Option Nat
  /-- bytes already moved by a card that waits for service or for its stream -/
  done : Nat
  /-- bytes written so far (R363) -/
  count : Nat
  /-- a destination word was refused (R212) -/
  refused : Bool
  /-- an uncorrectable source word was read (R459) -/
  ue : Bool
  /-- what the card has read before its first write: indices, stream or decoded bytes -/
  prep : Option (List Nat)
  /-- the status that its preparation gave, if it is not DONE -/
  verdict : Nat
  /-- bytes, by key, that later cards of its queue have written ahead of it (R236) -/
  ahead : List Nat
  stage : JobStage
  deriving DecidableEq, Repr

/-- The state of a tile (R326). -/
inductive TState where
  | uncfg
  | zero
  | dirty
  | clean
  | lazy
  deriving DecidableEq, Repr

/-- A tile register (R326, R331): state and deckle. Its elements stand in memory. -/
structure Tile where
  st : TState
  deckle : Word
  deriving DecidableEq, Repr

/-- An accepted command of the matrix unit (R315, R317, R325, R337). -/
structure Cmd where
  swap : Bool
  routine : Nat
  bar : Nat
  f : Nat
  mode : Nat
  step : Nat
  /-- a refused read has stopped it: no later step runs (R322) -/
  stopped : Bool
  mp : Vector Dword 8
  kid : Word
  cix : Nat
  deriving DecidableEq, Repr

/-- A matrix unit (R313 to R338). Bank and tile bytes stand in memory. -/
structure MatUnit where
  act : Bool
  tiles : Vector Tile 8
  /-- uncorrectable tile elements, by 16,384 × tile + element -/
  badEls : List Nat
  /-- uncorrectable bank rows, by 256 × bank + row (R314) -/
  badRows : List Nat
  queue : List Cmd
  owner : Option (Word × Nat)
  /-- `MST` bits 7:0 (R335) -/
  mst : BitVec 8
  deriving DecidableEq, Repr

/-- A partial of the merge buffer (R389): m, l, o. -/
structure Partial where
  m : Word
  l : Word
  o : Vec
  deriving DecidableEq, Repr

/-- A query slot (R383, R389 to R391): its sweep, the pages of its list in the order in which they are
combined, its join boundary, its barrier, the partials accepted and not combined (none for a damaged
page), the run accumulator, the completed runs, and the marks of its result. -/
structure QSlot where
  kid : Word
  swid : Nat
  /-- the query that holds it, by the tick of its acceptance -/
  no : Nat
  order : List Nat
  boundary : Nat
  reserved : Nat
  bar : Option Nat
  next : Nat
  waiting : List (Nat × Option Partial)
  accepted : List Nat
  acc : Option Partial
  runs : List (Nat × Option Partial)
  ue : Bool
  st : Bool
  /-- its result has entered q10 -/
  merged : Bool
  deriving DecidableEq, Repr

/-- A landing buffer's references and the sweep that holds them (R387, R394). -/
structure LandBuf where
  refs : Nat
  kid : Word
  swid : Nat
  deriving DecidableEq, Repr

/-- A core: its cairn, registers, sequencer, control state, towers, barriers (R41, R42). -/
structure Core where
  /-- the running cairn: kernel and cairn index (R54) -/
  run : Option (Word × Nat)
  regs : Regs
  pend : List Pend
  seq : Seq
  ctl : Ctl
  cnt : Counters
  regions : Vector Region 8
  margin : Margin
  towers : Vector Tower 16
  /-- cycle at which the deferral grant ends (R219) -/
  deferTo : Nat
  /-- cycle at which a pass first became pending, and LEFT at that moment (R220) -/
  leftSince : Option (Nat × Nat)
  spc : BitVec 8
  fev : BitVec 4
  spt : BitVec 2
  /-- SPR as a `cread` sees it until the next pitch entry (R222) -/
  spr : Word
  /-- spare physical towers not in use (R28) -/
  spareTowers : List Nat
  /-- the column remap tables of the 18 physical towers (R29) -/
  cols : Vector (List ColRemap) 18
  bars : Vector Barrier 112
  /-- q0 to q31 and, as number 32, the scatter-accumulate queue (R339, R368) -/
  fifos : Vector Fifo 33
  /-- routes of q16 to q31 (R348) -/
  routes : Vector (Option Route) 16
  /-- skid buffers of q16 to q31 (R349) -/
  skids : Vector (List (Dest × Elem)) 16
  /-- accepted cards of q0, q2, q4 and q6 (R346, R364) -/
  jobs : Vector (List Job) 4
  mat : MatUnit
  /-- matrix control state and slot table of the running cairn as last read or written (R337, R338) -/
  matBlk : List Byte
  /-- the running cairn's record as last read or written (R47, R54) -/
  recd : BitVec 512
  /-- sweep subscriptions without an outcome yet (R394) -/
  subs : List Elem
  /-- the card of the oldest of them as it was read once; none inside for a card that cannot be read -/
  subCard : Option (Option (BitVec 512))
  slots : Vector (Option QSlot) 16
  /-- the landing buffers (R387) -/
  lands : Vector LandBuf 8
  deriving DecidableEq, Repr

/-- A parked cairn's monitor (R50, R71, R173): the core and line watched, the cycle of parking, the
timeout code, and whether a write has touched the line since. -/
structure Monitor where
  kid : Word
  cix : Nat
  core : Nat
  line : Nat
  since : Nat
  tmo : Nat
  hit : Bool
  deriving DecidableEq, Repr

end Sys2Proof.Machine
end

