-- ==== Sys2Proof/Machine/UnitTypes.lean ====
section
/-!
DEFINITION. What the units beside the cores hold: kernels and queues of the command processor
(R43 to R56, R398 to R417), translation and fault service (R419 to R434), ridge (R435 to R438), ingest
windows (R443 to R445), partitions (R446) and the housekeeping controller (R449 to R457). Plain data only.
-/
namespace Sys2Proof.Machine

/-- Who made a request, owns an inbound write or waits for a translation (R231, R428). -/
inductive Requester where
  /-- the prefetch engine of core c -/
  | code (c : Nat)
  /-- the record and save-area traffic of core c -/
  | record (c : Nat)
  /-- the engine behind card queue fifo of core c, for the card that it accepted at tick no -/
  | card (c fifo no : Nat)
  /-- the matrix unit of core c -/
  | matrix (c : Nat)
  /-- the scatter-accumulate engine, for the queue of core c -/
  | acc (c : Nat)
  /-- the sweep card reader of core c -/
  | sweepCard (c : Nat)
  /-- a page of the sweep of a kernel and identifier; its page table counts as page 2 ^ 20 -/
  | sweep (kid : Word) (swid page : Nat)
  /-- the landing of a sweep's page on core c -/
  | landing (c : Nat) (kid : Word) (swid : Nat)
  /-- queue qn of partition pn -/
  | queue (pn qn : Nat)
  /-- a kernel's phase start or completion -/
  | kernel (kid : Word)
  /-- the service ring or the fault ring of a partition -/
  | ring (pn : Nat)
  /-- an ingest window -/
  | ingest (w : Nat)
  /-- a module at the other end of the ridge -/
  | ridge (src : Nat)
  /-- a translation on its own -/
  | walk (va asid access : Nat)
  deriving DecidableEq, Repr

/-- A write of an engine or of a module to one word, accepted and not complete (R216, R237, R243): the word's
key / 16, the writer, the kernel that it writes for, the first byte and the bytes that it writes, whether it
leaves the word uncorrectable (R459), the mirror copy's key / 16 on a belayed page (R434), the core and scratchpad
address whose monitors it reaches (R71), the tick of its acceptance, and whether it has taken its place in the
coherence order (R232). A mirror copy that has not been accepted stands as an entry of its own without bytes. -/
structure Inbound where
  key : Nat
  who : Requester
  kid : Word
  off : Nat
  data : List Byte
  bad : Bool
  mirror : Option Nat
  pad : Option (Nat × Nat)
  since : Nat
  done : Bool
  deriving DecidableEq, Repr

/-- The states of a cairn (R51). -/
inductive CState where
  | ready
  | running
  | parked
  | trapped
  | done
  | lost
  deriving DecidableEq, Repr

/-- What the device keeps of a cairn between writes of its record (R47 to R56, R65, R71). -/
structure Cairn where
  ix : Nat
  st : CState
  pri : Nat
  pin : Nat
  vcl : Nat
  role : Nat
  ropew : Nat
  sum : Bool
  /-- the core on which alone a woken cairn becomes READY (R56) -/
  only : Option Nat
  /-- cycle at which it became READY (R72) -/
  since : Nat
  /-- levels by which its effective priority has risen (R72) -/
  level : Nat
  /-- the `rope` width it waits with (R65) -/
  ropeWait : Option Nat
  /-- the virtual address of its save area (R67, R313) -/
  save : Nat
  /-- the loop counter armed most recently, while it does not run (R169, log 51) -/
  lcLast : Nat
  deriving DecidableEq, Repr

/-- A live kernel (R43 to R45, R406 to R413). -/
structure Kernel where
  kid : Word
  pn : Nat
  qn : Nat
  serial : Word
  code : Nat
  stab : Nat
  carr : Nat
  sig : Nat
  sts : Nat
  plst : Nat
  nphase : Nat
  nsched : Nat
  clen : Nat
  nmax : Nat
  rcl : Bool
  asid : Nat
  pri : Nat
  /-- routine images accepted before the launch (R453) -/
  images : List Nat
  /-- order of launch (R414) -/
  order : Nat
  phase : Nat
  /-- the phase has been bound and its cairns linked -/
  started : Bool
  /-- cycle at which the phase began to wait for clusters (R414) -/
  since : Nat
  /-- the phase waits for clusters (R45, R414) -/
  waits : Bool
  handler : Word
  v : Nat
  bind : List Nat
  /-- clusters that it has taken by pre-emption, with the cycle of taking (R414) -/
  took : List (Nat × Nat)
  cairns : List Cairn
  /-- outcome raised; none while it runs (R411) -/
  outcome : Option Word
  orderLost : Bool
  accFault : Bool
  /-- the homes of the memory that it wrote: 0-7 a stack, 256 + c the towers of core c, 1024 + m module m (R417) -/
  wrote : List Nat
  /-- cairns that a recovery resumes and whose records are still to be written, each with the core on which alone it
  becomes READY (R417) -/
  again : List (Nat × Option Nat)
  deriving DecidableEq, Repr

/-- The state of an accepted packet (R417). -/
inductive WorkState where
  | accepted
  | running (kid : Word)
  | complete
  deriving DecidableEq, Repr

/-- An entry of a queue's work list (R401). -/
structure Work where
  count : Word
  pkt : BitVec 512
  /-- the queue's address space and priority at acceptance -/
  asid : Nat
  pri : Nat
  st : WorkState
  /-- cycle of acceptance, and levels by which its effective priority has risen (R414) -/
  since : Nat
  level : Nat
  deriving DecidableEq, Repr

/-- A queue's registers and belayed state (R398 to R404). -/
structure Queue where
  qbase : Nat
  en : Bool
  asid : Nat
  pri : Nat
  log : Nat
  qshd : Nat
  ridx : Word
  err : Nat
  wait : Bool
  halt : Bool
  kcopy : Word
  rcnt : Word
  work : List Work
  /-- cycle at which the head WAIT was first read (R408) -/
  waitSince : Option Nat
  /-- V = 0 writes that are not complete: address of the slot, address space, bytes 0 to 15 (R401, R402) -/
  unreleased : List (Nat × Nat × List Byte)
  deriving DecidableEq, Repr

/-- An unanswered entry of a fault ring with the requests that wait for it (R427). -/
structure FaultEnt where
  ent : Word
  page : Nat
  asid : Nat
  access : Nat
  since : Nat
  joined : List Requester
  deriving DecidableEq, Repr

/-- A posted write that arrives at a partition's function (R440): to a window with its poisoned mark, to a
32-bit register of BAR0, or to BAR4. -/
inductive Arrival where
  | ingest (w off : Nat) (data : List Byte) (poisoned : Bool)
  | reg (off v : Nat)
  | aperture (off : Nat) (data : List Byte) (poisoned : Bool)
  deriving DecidableEq, Repr

/-- The registers of a partition and what belongs to it (R415, R423, R427, R429, R440, R441, R446). -/
structure Part where
  groups : BitVec 8
  stackSet : BitVec 8
  asidBase : Nat
  asidCount : Nat
  windows : BitVec 16
  queues : Vector Queue 64
  srbase : Nat
  srEn : Bool
  srLog : Nat
  srprod : Word
  srcons : Word
  frbase : Nat
  frEn : Bool
  frTmo : Nat
  frLog : Nat
  frprod : Word
  frcons : Word
  faults : List FaultEnt
  /-- requests that wait without an entry, each with its page, since when (R427) -/
  waiting : List ((Requester × Nat) × Nat)
  /-- pulls that failed and whose cause 5 entries are still to be written (R427, R433) -/
  pulls : List WalkRequest
  trdbStk : Nat
  trdbAddr : Nat
  tiva : Nat
  tilen : Nat
  evict : Bool
  tiAsid : Nat
  /-- TIVA, TILEN and ASID of the invalidation that runs (R430) -/
  tiRange : Nat × Nat × Nat
  tiBusy : Bool
  tiPinned : Bool
  tiBad : Bool
  aps : Nat
  /-- interrupts raised on MSI-X vectors 0 to 3 (R441) -/
  msix : Vector Nat 4
  /-- a re-mirror of R416 is outstanding -/
  remirror : Bool
  /-- inbound posted writes of the function that are not performed yet, in order of arrival (R440) -/
  arrivals : List Arrival
  /-- a partition reset of it lasts (R448) -/
  resetting : Bool
  deriving DecidableEq, Repr

/-- A cached leaf (R426). Home 0-7: a stack; 256 + c: core c; 512: the host port. -/
structure TlbEntry where
  home : Nat
  asid : Nat
  page : Nat
  big : Bool
  leaf : Nat
  deriving DecidableEq, Repr

/-- A pinned page (R431): its home, address space, page and the request that holds it. -/
structure Pin where
  home : Nat
  asid : Nat
  page : Nat
  who : Requester
  deriving DecidableEq, Repr

/-- An ingest window (R443 to R445). -/
structure Window where
  en : Bool
  asid : Nat
  kid : Word
  tgt : Nat
  size : Nat
  core : Nat
  psn : Nat
  drop : Nat
  serial : Word
  ovr : Bool
  rf : Bool
  tf : Bool
  fpsn : Nat
  bytes : Nat
  lost : Bool
  /-- closed frames whose descriptors are not delivered -/
  held : List Vec
  deriving DecidableEq, Repr

/-- A ridge port as its receiver sees it (R435, R437). -/
structure RidgePort where
  up : Bool
  expect : Nat
  retries : Nat
  deriving DecidableEq, Repr

/-- The virtual channels of a ridge port (R435). -/
inductive Channel where
  | request
  | response
  | belay
  | management
  deriving DecidableEq, Repr

/-- A packet that this module has sent and whose acknowledgement has not come (R435 to R437, R447): destination
module, per-destination sequence number, the port over which it went, its channel and its partition. -/
structure Sent where
  dst : Nat
  seq : Nat
  port : Nat
  vc : Channel
  pn : Nat
  deriving DecidableEq, Repr

/-- The ridge state of the module (R436, R437). -/
structure Ridge where
  ports : Vector RidgePort 16
  paths : List (Nat × List Nat)
  /-- next sequence number per source module -/
  next : List (Nat × Nat)
  /-- packets that arrived ahead of their turn -/
  early : List RidgePacket
  /-- packets in their turn that wait for service, in order -/
  held : List RidgePacket
  /-- next sequence number per destination module -/
  sendNext : List (Nat × Nat)
  /-- packets not acknowledged, oldest first: the retry buffers -/
  sent : List Sent
  /-- destinations that no path reaches: since which cycle, and whether the 10 ms are over (R437) -/
  cut : List (Nat × Nat × Bool)
  /-- reads answered to other modules: source, sequence, bytes; none for a failure -/
  replies : List (Nat × Nat × Option (List Byte))
  deriving DecidableEq, Repr

/-- The housekeeping controller (R449 to R456). MBBUF and TLOG stand in memory. -/
structure House where
  stage : Nat
  /-- the tick at which this run of R449 began (log 6) -/
  bootTick : Nat
  alarm : Bool
  /-- cycle at which the cause of the power alarm was last seen (R456) -/
  alarmSince : Nat
  /-- the accepted MBCMD that is not complete: operation and argument (R452) -/
  cmd : Option (Nat × List Byte)
  res : Nat
  rlen : Nat
  logCnt : Nat
  /-- virtual functions enabled by configuration requests (R451, R454) -/
  vfs : List Nat
  /-- the CONFIG argument applied; none before the first (R454) -/
  config : Option (BitVec 1088)
  /-- accepted routine images: index and SHA-384 (R453, R455) -/
  images : List (Nat × BitVec 384)
  /-- the held report and its nonce (R455) -/
  report : Option (BitVec 256 × List Byte)
  temp : TempBand
  deriving DecidableEq, Repr

/-- A staged ordered update (R373): kernel, place (virtual address and memory key), source, operation,
value; the home's capacity class. -/
structure Staged where
  kid : Word
  va : Nat
  key : Nat
  asid : Nat
  srcMod : Nat
  srcCore : Nat
  /-- the core of this module, or the partition, that the update's access is made for (R438, R446) -/
  agent : Nat
  aop : Nat
  val : Word
  home : Nat
  /-- the cores whose flush arrived after it was staged and has not applied it yet (R375) -/
  due : List Nat
  deriving DecidableEq, Repr

/-- The states of a sweep (R380). -/
inductive SweepState where
  | opened
  | main
  | catchup
  deriving DecidableEq, Repr

/-- A page that lands on a core (R387): its buffer, and the UE and RF of its descriptors. -/
structure Landing where
  core : Nat
  buf : Nat
  ue : Bool
  rf : Bool
  deriving DecidableEq, Repr

/-- A page read and still to land on some cores (R385, R387): its pass, bytes, uncorrectable words, the cores
that it has not landed on, and those among them on which it is landing. -/
structure Flying where
  page : Nat
  catchup : Bool
  bytes : List Byte
  badWords : List Nat
  targets : List Nat
  landing : List Landing
  deriving DecidableEq, Repr

/-- An accepted query of a sweep (R381 to R384): core, slot, the tick of its acceptance, page list, join boundary,
and whether its result has entered q10 (R380). -/
structure SweepQuery where
  core : Nat
  slot : Nat
  no : Nat
  order : List Nat
  boundary : Nat
  ended : Bool
  deriving DecidableEq, Repr

/-- A sweep (R379 to R388). -/
structure Sweep where
  kid : Word
  swid : Nat
  pn : Nat
  asid : Nat
  st : SweepState
  fmt : Nat
  pb : Nat
  npage : Nat
  nsub : Nat
  ptab : Nat
  /-- `swsub` subscriptions accepted -/
  counted : Nat
  /-- accepted queries -/
  members : List SweepQuery
  /-- landing areas by core -/
  lands : List (Nat × Nat)
  /-- the page table as read at the transition to MAIN (R382) -/
  pages : List Nat
  issued : List Nat
  again : List Nat
  flying : List Flying
  deriving DecidableEq, Repr

end Sys2Proof.Machine
end

