-- ==== Sys2Proof/Machine/State.lean ====
section
/-!
DEFINITION. The state of one module, its accessors, the state after reset, and the reasons to stop.
-/
namespace Sys2Proof.Machine

/-- Why a step stops the machine. -/
inductive Fault where
  /-- A step row names a core, FIFO, queue or other unit that the module does not have (R20, R398).
  Raised by every step row. Safe: the hardware has no such step. -/
  | noSuchUnit
  deriving DecidableEq, Repr

/-- Why an instruction has no meaning here. -/
inductive Refusal where
  /-- The row has no meaning. Raised by no arm of `exec`: every row has its meaning. Safe. -/
  | notModelled (mnemonic : String)
  deriving DecidableEq, Repr

/-- A cluster (R42). -/
structure Cluster where
  age : Word
  bars : Vector Barrier 16
  /-- READY cairns in first-in order (R56) -/
  runq : List (Word × Nat)
  /-- the byte streams of the copy ports and, as number 4, of the transpose port, in order of arrival: each
  run of bytes with the kernel that pushed it (R350) -/
  streams : Vector (List (Word × List Byte)) 5
  /-- enlargements and exhaustions of the vat (R367) -/
  grow : Nat
  exh : Nat
  /-- cycle at which an engine last moved a byte or delivered an element (R365) -/
  moved : Nat
  deriving DecidableEq, Repr

/-- The module. -/
structure State where
  /-- MODEL's own: the counter that free values are applied to (log 4) -/
  tick : Nat
  /-- MODEL's own: the steps to be taken next; when it is empty the free schedule names one (log 4) -/
  agenda : List Instr
  /-- MODEL's own: the core whose bundle an encoded instruction stands in -/
  focus : Nat
  /-- MODEL's own: the literal of that bundle (R86) -/
  lit : Word
  /-- cycles since power-on (R202) -/
  cycle : Nat
  modNum : BitVec 10
  cores : Vector Core 256
  clusters : Vector Cluster 64
  /-- the 4 physical clusters that self-test mapped out (R18); none before the boot -/
  mappedOut : List Nat
  /-- the physical cluster of each logical one, by cluster number (R19); none before the boot -/
  sites : List Nat
  /-- every byte of towers, HBM, mirror copies and buses, by key; 0 where nothing is listed -/
  mem : List Host.Cell
  /-- keys of 16-byte words that fail correction (R215) -/
  bad : List Nat
  /-- HBM stacks lost since power-on, all of whose words fail correction (R416) -/
  lostStacks : List Nat
  /-- writes of engines and modules accepted and not complete, oldest first (R216, R237, R243) -/
  flight : List Inbound
  /-- monitors of parked cairns (R71) -/
  monitors : List Monitor
  parts : Vector Part 8
  kernels : List Kernel
  /-- records of live kernels as the device last read or wrote them: kernel, index, record (R54) -/
  records : List ((Word × Nat) × BitVec 512)
  /-- kernels launched so far (R414) -/
  launches : Nat
  tlb : List TlbEntry
  pins : List Pin
  /-- requests whose fault was answered FAIL or ran out, each with the page that failed (R428) -/
  failed : List (Requester × Nat)
  /-- the paired module's HBM can be reached (R434) -/
  mirrorUp : Bool
  wins : Vector Window 16
  ridge : Ridge
  house : House
  /-- identities and greatest push indices accepted (R62) -/
  seen : List PushSeen
  /-- staged ordered updates (R373) -/
  staged : List Staged
  sweeps : List Sweep
  deriving DecidableEq, Repr

abbrev Out := Host.Outcome State Fault Refusal

def SReg.zero : SReg := ⟨0, 0⟩
def VReg.zero : VReg := ⟨0, 0⟩

/-- The register files before a first pickup: zero and clean (log 1). -/
def Regs.zero : Regs where
  s := .replicate 56 .zero
  v := .replicate 28 .zero
  p := .replicate 8 ⟨false, 0⟩
  m := .replicate 8 ⟨0, 0⟩
  mp := .replicate 8 ⟨0, 0⟩
  lc := .replicate 2 ⟨0, 0, ⟨0, 0⟩, none, false⟩
  lcLast := 0
  sPort := .replicate 6 .zero
  vPort := .replicate 4 .zero

/-- The control registers of R203 at launch values, with identities zero (log 1). -/
def Ctl.zero : Ctl where
  kid := 0
  asid := 0
  vcl := 0
  role := 0
  lead := 0
  ropeW := 0
  fpm := 0
  fpf := 0
  hm := false
  trc := 0
  trb := 0
  trm := 0
  tra := 0
  hndl := 0xFFFFFFFF
  bvn := 8
  maxp := 65536
  pent := ⟨0, 0⟩

def Seq.zero : Seq where
  fetch := ⟨⟨0, 0⟩, false, 0, 0⟩
  br := none
  pos := 0
  grpLen := 0
  grpWrites := []
  grpPorts := []
  readFirst := []
  written := []
  dirty := false
  pushIdx := 0
  sent := 0
  pix := 0
  recs := []
  popsDone := 0
  popsOver := false
  pser := 0
  hold := none
  holdSince := 0
  watch := ⟨none, 0, .replicate 56 .zero, .replicate 8 ⟨false, 0⟩, none⟩
  lastLoad := none
  effect := false
  preempt := none
  cych := none
  replays := 0
  firstCycle := none
  first := none
  half0 := none
  half1 := none
  exec1 := false
  retry := none
  upset := none
  overrun := false
  owes := none
  predVis := .replicate 8 0

def Counters.zero : Counters := ⟨0, 0, 0, 0, 0, 0, 0, 0, 0, 0, 0⟩
def Region.zero : Region := ⟨0, 0, false, false, false, false, 0, 0⟩
def Barrier.zero : Barrier := ⟨0, 0⟩

/-- The margin registers after power-on or partition reset (R296). -/
def Margin.reset (gua : BitVec 8) (now : Nat) : Margin :=
  ⟨true, 0, gua, gua, 3, 1048576, 64, 0, 0, 0, 0, false, false, now⟩

/-- A logical tower after power-on: its entry of the tower remap table is not valid until self-test writes it
(R29, R449). -/
def Tower.reset : Tower := ⟨0, none, none, none, [], []⟩

/-- The column remap table of a physical tower as self-test, or a repair at tick t, writes it (R29). -/
def remapTable (t c phys : Nat) : List ColRemap :=
  (List.range 3).flatMap (fun bus => (List.range (Config.usedColumns t c phys bus)).map (fun i =>
    ⟨bus, Config.failedColumn t c phys bus i, i⟩))
/-- Spare via columns left on a bus by a remap table (R28, R29). -/
def columnsLeft (l : List ColRemap) (bus : Nat) : Nat :=
  Config.busColumns bus - (l.filter (fun e => e.bus == bus)).length
/-- Spare via columns that the self-test of tick t leaves on the 16 towers in use, 0 to 160 (R222). -/
def spareColumns (t c : Nat) : Nat :=
  (List.range 16).foldl (fun a g => (List.range 3).foldl (fun a bus =>
    a + columnsLeft (remapTable t c (Config.towerMap t c g)) bus) a) 0

/-- A matrix unit after power-on: ACT 0, no owner; tiles unconfigured (R313, R335; log 1). -/
def MatUnit.reset : MatUnit := ⟨false, .replicate 8 ⟨.uncfg, 0⟩, [], [], [], none, 0⟩

/-- A core after power-on. Its remap tables, GUA and SPR are blank until stage 4 writes them (R29, R222, R296,
R449; log 1). -/
def Core.reset : Core where
  run := none
  regs := .zero
  pend := []
  seq := .zero
  ctl := .zero
  cnt := .zero
  regions := .replicate 8 .zero
  margin := .reset 0 0
  towers := .replicate 16 .reset
  deferTo := 0
  leftSince := none
  spc := 0
  fev := 0
  spt := 0
  spr := 0
  spareTowers := []
  cols := .replicate 18 []
  bars := .replicate 112 .zero
  fifos := .replicate 33 ⟨[], 0⟩
  routes := .replicate 16 none
  skids := .replicate 16 []
  jobs := .replicate 4 []
  mat := .reset
  matBlk := []
  recd := 0
  subs := []
  subCard := none
  slots := .replicate 16 none
  lands := .replicate 8 ⟨0, 0, 0⟩

/-- The remap tables of core c as the self-test, or the repair flow, of tick t writes them; what the core knows of
failed columns goes with the old ones (R29, R449, R457, log 55). -/
def Core.repaired (k : Core) (t c : Nat) : Core :=
  { k with
    towers := k.towers.mapIdx (fun g x => { x with phys := some (Config.towerMap t c g), moving := [], dead := [] })
    spareTowers := Config.spares t c
    cols := .ofFn (fun p => remapTable t c p.val) }

/-- Core c as stage 4 of the boot of tick t leaves it: remap tables, GUA and with it CUR, and SPR (R29, R222, R296,
R449). -/
def Core.tested (k : Core) (t c : Nat) : Core :=
  { k.repaired t c with
    margin := { k.margin with gua := Config.gua t c, cur := Config.gua t c }
    spc := .ofNat 8 (spareColumns t c)
    spt := .ofNat 2 (Config.spares t c).length
    spr := .ofNat 32 (spareColumns t c * 256 + k.fev.toNat * 16 + (Config.spares t c).length) }

def Cluster.reset : Cluster := ⟨65536, .replicate 16 .zero, [], .replicate 5 [], 0, 0, 0⟩
/-- A queue after partition reset (R398). -/
def Queue.reset : Queue := ⟨0, false, 0, 0, 4, 0, 0, 0, false, false, 0, 0, [], none, []⟩
/-- A partition's registers after power-on (R415, R423, R427, R429, R440). -/
def Part.reset : Part where
  groups := 0
  stackSet := 0
  asidBase := 0
  asidCount := 0
  windows := 0
  queues := .replicate 64 .reset
  srbase := 0
  srEn := false
  srLog := 4
  srprod := 0
  srcons := 0
  frbase := 0
  frEn := false
  frTmo := 100
  frLog := 4
  frprod := 0
  frcons := 0
  faults := []
  waiting := []
  pulls := []
  trdbStk := 0
  trdbAddr := 0
  tiva := 0
  tilen := 0
  evict := false
  tiAsid := 0
  tiRange := (0, 0, 0)
  tiBusy := false
  tiPinned := false
  tiBad := false
  aps := 0
  msix := .replicate 4 0
  remirror := false
  arrivals := []
  resetting := false
/-- A window after power-on (R443). -/
def Window.reset : Window := ⟨false, 0, 0, 0, 0, 0, 0, 0, 0, false, false, false, 0, 0, false, []⟩
/-- The ridge before bring-up (log 8). -/
def Ridge.reset : Ridge := ⟨.replicate 16 ⟨false, 0, 0⟩, [], [], [], [], [], [], [], []⟩
/-- The housekeeping controller at the start of stage 0 (R449, R452). -/
def House.reset : House := ⟨0, 0, false, 0, none, 0, 0, 0, [], none, [], none, .cool⟩

/-- Core c of the module. -/
def State.core (s : State) (c : Nat) : Core := (s.cores[c]?).getD .reset
/-- The module with core c replaced. -/
def State.setCore (s : State) (c : Nat) (k : Core) : State :=
  { s with cores := s.cores.setIfInBounds c k }
/-- The module with core c changed by f. -/
def State.updCore (s : State) (c : Nat) (f : Core → Core) : State := s.setCore c (f (s.core c))

/-- Cluster cl of the module. -/
def State.cluster (s : State) (cl : Nat) : Cluster := (s.clusters[cl]?).getD .reset
def State.updCluster (s : State) (cl : Nat) (f : Cluster → Cluster) : State :=
  { s with clusters := s.clusters.setIfInBounds cl (f (s.cluster cl)) }
/-- Partition pn of the module. -/
def State.part (s : State) (pn : Nat) : Part := (s.parts[pn]?).getD .reset
def State.updPart (s : State) (pn : Nat) (f : Part → Part) : State :=
  { s with parts := s.parts.setIfInBounds pn (f (s.part pn)) }
def Part.queue (p : Part) (qn : Nat) : Queue := (p.queues[qn]?).getD .reset
def State.updQueue (s : State) (pn qn : Nat) (f : Queue → Queue) : State :=
  s.updPart pn (fun p => { p with queues := p.queues.setIfInBounds qn (f (p.queue qn)) })
/-- Ingest window w of the module. -/
def State.win (s : State) (w : Nat) : Window := (s.wins[w]?).getD .reset
def State.updWin (s : State) (w : Nat) (f : Window → Window) : State :=
  { s with wins := s.wins.setIfInBounds w (f (s.win w)) }
def State.kernel (s : State) (kid : Word) : Option Kernel := s.kernels.find? (fun k => k.kid == kid)
def State.updKernel (s : State) (kid : Word) (f : Kernel → Kernel) : State :=
  { s with kernels := s.kernels.map (fun k => if k.kid == kid then f k else k) }

/-- The module at the start of stage 0: the next step is the controller's (R449). -/
def State.reset : State where
  tick := 0
  agenda := [.powerOn]
  focus := 0
  lit := 0
  cycle := 0
  modNum := Config.modNum
  cores := .replicate 256 .reset
  clusters := .replicate 64 .reset
  mappedOut := []
  sites := []
  mem := []
  bad := []
  lostStacks := []
  flight := []
  monitors := []
  parts := .replicate 8 .reset
  kernels := []
  records := []
  launches := 0
  tlb := []
  pins := []
  failed := []
  mirrorUp := false
  wins := .replicate 16 .reset
  ridge := .reset
  house := .reset
  seen := []
  staged := []
  sweeps := []

end Sys2Proof.Machine
end

