-- ==== Sys2Proof/Machine/Ops.lean ====
section
/-!
DEFINITION. The named operations over registers and memory: landing of results (R97, R217), bytes,
words and their soundness (R215, R232), regions and swizzle (R207 to R213), word tags (R216), and
monitored lines (R71).
-/
namespace Sys2Proof.Machine

/-! ### Memory -/

/-- The byte at key a; 0 where nothing is listed (log 2). -/
def memGet : List Host.Cell → Nat → Byte
  | [], _ => 0
  | (k, v) :: t, a => if a < k then 0 else if a = k then v else memGet t a

/-- Memory with byte b at key a, in canonical form. -/
def memPut : List Host.Cell → Nat → Byte → List Host.Cell
  | [], a, b => if b = 0 then [] else [(a, b)]
  | (k, v) :: t, a, b =>
    if a < k then (if b = 0 then (k, v) :: t else (a, b) :: (k, v) :: t)
    else if a = k then (if b = 0 then t else (a, b) :: t)
    else (k, v) :: memPut t a b

/-- The canonical form: keys strictly rising from lo on, no byte 0. -/
def memWf : Nat → List Host.Cell → Bool
  | _, [] => true
  | lo, (k, v) :: t => decide (lo ≤ k) && v != 0 && memWf (k + 1) t

/-- Canonical memory. -/
def Memory.wf (m : List Host.Cell) : Bool := memWf 0 m

/-- Key of byte pa of core c's towers (R206). -/
def towerKey (c pa : Nat) : Nat := c * 2 ^ 26 + pa
/-- Key of byte pa of HBM stack k (R420). -/
def hbmKey (k pa : Nat) : Nat := 2 ^ 40 + k * 2 ^ 36 + pa
/-- Key of the mirror copy of that byte (R434). -/
def mirrorKey (k pa : Nat) : Nat := 2 ^ 41 + k * 2 ^ 36 + pa
/-- Key of byte a of PCI Express bus addresses (R420). -/
def busKey (a : Nat) : Nat := 2 ^ 65 + a % 2 ^ 64
/-- Key of byte va of the other modules of the domain (R419, log 8). -/
def remoteKey (va : Nat) : Nat := 2 ^ 64 + va
/-- Key of byte b of tile t of core c, in the order of its save slot (R326, R338). -/
def tileKey (c t b : Nat) : Nat := 2 ^ 58 + (c * 8 + t) * 65536 + b
/-- Key of byte b of bank k of core c (R313, R314). -/
def bankKey (c k b : Nat) : Nat := 2 ^ 59 + (c * 2 + k) * 65536 + b
/-- Key of byte b of MBBUF and of TLOG (R452). -/
def mbKey (b : Nat) : Nat := 2 ^ 60 + b
def tlogKey (b : Nat) : Nat := 2 ^ 60 + 65536 + b

def State.byte (s : State) (key : Nat) : Byte := memGet s.mem key
def State.poke (s : State) (key : Nat) (b : Byte) : State := { s with mem := memPut s.mem key b }
/-- n bytes from key on. -/
def State.peek (s : State) (key n : Nat) : List Byte := (List.range n).map (fun i => s.byte (key + i))
/-- The little-endian number of n bytes (R7). -/
def State.peekN (s : State) (key n : Nat) : Nat := ofBytesLE (s.peek key n)
/-- Bytes written from key on, one by one. -/
def State.pokes (s : State) : Nat → List Byte → State
  | _, [] => s
  | key, b :: bs => (s.poke key b).pokes (key + 1) bs

/-- Memory with 0 in n bytes from key on. -/
def State.wipe (s : State) (key n : Nat) : State :=
  { s with mem := s.mem.filter (fun e => decide (e.1 < key ∨ key + n ≤ e.1)) }

/-- A word is uncorrectable (R215). -/
def State.isBad (s : State) (key : Nat) : Bool :=
  s.bad.contains (key / 16) || s.lostStacks.any (fun k => decide (hbmKey k 0 ≤ key ∧ key < hbmKey (k + 1) 0))
def State.markBad (s : State) (key : Nat) : State :=
  { s with bad := insertSorted (key / 16) s.bad }
def State.heal (s : State) (key : Nat) : State := { s with bad := s.bad.filter (· ≠ key / 16) }

/-- One write operation of n bytes at key: the words it replaces whole become sound (R215). -/
def State.write (s : State) (key : Nat) (l : List Byte) : State :=
  let s1 := s.pokes key l
  let first := (key + 15) / 16
  let last := (key + l.length) / 16
  (List.range (last - first)).foldl (fun s i => s.heal ((first + i) * 16)) s1

/-- Some word of the span fails correction. -/
def State.spanBad (s : State) (key n : Nat) : Bool :=
  (List.range ((key + n + 15) / 16 - key / 16)).any (fun i => s.isBad ((key / 16 + i) * 16))

/-! ### Regions (R208 to R213) -/

def Region.covers (r : Region) (a : Nat) : Bool :=
  decide (r.base.toNat ≤ a / 64) && decide (a / 64 ≤ r.limit.toNat)

/-- The governing region of the word at a for a kernel (R211); identifier 0 matches none (R438). -/
def Core.governs (k : Core) (kid : Word) (a : Nat) : Option Region :=
  if 2 ^ 26 ≤ a then none
  else k.regions.toList.find? (fun r => kid != 0 && r.v && r.own == kid && r.covers a)

/-- The physical place of a under a swizzle mode (R213). -/
def swizzle (mode : BitVec 2) (a : Nat) : Nat :=
  let bank := nbits a 8 4
  let b' := match mode.toNat with
    | 1 => bank ^^^ nbits a 12 4
    | 2 => bank ^^^ nbits a 12 4 ^^^ nbits a 16 4 ^^^ nbits a 20 4
    | _ => bank
  a - bank * 256 + b' * 256

def Core.readable (k : Core) (kid : Word) (a : Nat) : Bool :=
  match k.governs kid a with
  | some r => r.rd
  | none => false
def Core.writable (k : Core) (kid : Word) (a : Nat) : Bool :=
  match k.governs kid a with
  | some r => r.wr
  | none => false
def Core.engineWritable (k : Core) (kid : Word) (a : Nat) : Bool :=
  match k.governs kid a with
  | some r => r.ew
  | none => false

/-- The memory key of scratchpad byte a of core c as a kernel's regions place it (R213). -/
def State.padKey (s : State) (c : Nat) (kid : Word) (a : Nat) : Nat :=
  match (s.core c).governs kid a with
  | some r => towerKey c (swizzle r.swz a)
  | none => towerKey c a

/-- The word at physical address a passes through a failed column of any bus that nothing replaces (R311 step 4), or
through two failed columns whose bits the check bits would have to supply until the tower moves (R311 step 3). -/
def Core.deadWord (k : Core) (a : Nat) : Bool :=
  match k.towers[nbits a 4 4]? with
  | some t =>
    let serves (d : Nat × Nat) : Bool := Config.columnServes d.1 d.2 (a / 16)
    t.phys.isNone || t.dead.any serves || decide (2 ≤ (t.moving.filter (fun d => d.1 != 2 && serves d)).length)
  | none => false

/-- The word tag of a load of scratchpad address a (R216, R311). -/
def State.wordTag (s : State) (c : Nat) (kid : Word) (a : Nat) : Tag :=
  let key := s.padKey c kid a
  if s.isBad key || (s.core c).deadWord (key - towerKey c 0) then 3
  else if s.flight.any (fun f => f.key == key / 16) then 2
  else 0

/-- The byte that a load of scratchpad address a delivers: 0 from an uncorrectable word (R216), else the point of
the coherence order that memory holds, whatever is still in flight (R232, R233, R243). -/
def State.padByte (s : State) (c : Nat) (kid : Word) (a : Nat) : Byte :=
  if s.wordTag c kid a = 3 then 0 else s.byte (s.padKey c kid a)

/-- n bytes of the scratchpad, little-endian; n does not cross a word (R13 spad). -/
def State.padRead (s : State) (c : Nat) (kid : Word) (a n : Nat) : Nat :=
  ofBytesLE ((List.range n).map (fun i => s.padByte c kid (a + i)))

/-- A store of bytes inside one word of the core's own scratchpad (R215, R224). -/
def State.padWrite (s : State) (c : Nat) (kid : Word) (a : Nat) (l : List Byte) : State :=
  s.write (s.padKey c kid a) l

/-- A store of the enabled bytes of one 16-byte word, sound when all are enabled (R226). -/
def State.padWriteWord (s : State) (c : Nat) (kid : Word) (a : Nat) (en : Nat → Bool)
    (f : Nat → Byte) : State :=
  if (List.range 16).all en then s.padWrite c kid a ((List.range 16).map f)
  else (List.range 16).foldl (fun s i =>
    if en i then s.poke (s.padKey c kid (a + i)) (f i) else s) s

/-- A write by an engine or a systolic shift reaches a line of core c (R71). -/
def State.touchLine (s : State) (c a : Nat) : State :=
  { s with monitors := s.monitors.map (fun m =>
      if m.core == c && m.line == a / 64 then { m with hit := true } else m) }
/-- An engine's write of n bytes from a on reaches every line that holds one of them (R71). -/
def State.touchLines (s : State) (c a n : Nat) : State :=
  (List.range ((a + n + 63) / 64 - a / 64)).foldl (fun s i => s.touchLine c ((a / 64 + i) * 64)) s

/-! ### Writes in flight (R231 to R246) -/

/-- The pieces of n bytes from a on, each inside one block of g bytes. -/
def splitBy (g a n : Nat) : List (Nat × Nat) :=
  if n = 0 then []
  else (List.range ((a + n + g - 1) / g - a / g)).map (fun i =>
    let lo := Nat.max a ((a / g + i) * g)
    let hi := Nat.min (a + n) ((a / g + i + 1) * g)
    (lo, hi - lo))

/-- The agent whose writes of one word keep the order of their acceptance: a card queue, whichever of its cards
writes (R236). -/
def Requester.source : Requester → Requester
  | .card c fifo _ => .card c fifo 0
  | w => w

/-- A word of a mirror copy (R434). -/
def Inbound.mirrored (f : Inbound) : Bool := decide (2 ^ 41 ≤ 16 * f.key ∧ 16 * f.key < 2 ^ 42)
/-- A word of the other modules, and of the bus (R237, R419, R420). -/
def Inbound.remote (f : Inbound) : Bool := decide (2 ^ 64 ≤ 16 * f.key ∧ 16 * f.key < 2 ^ 65)
def Inbound.bus (f : Inbound) : Bool := decide (2 ^ 65 ≤ 16 * f.key)
/-- Two entries of one source for one word. -/
def Inbound.ordered (f g : Inbound) : Bool := f.key == g.key && f.who.source == g.who.source

/-- The bytes of an entry reach the word of number w: a word that it replaces whole becomes sound (R215). -/
def State.strike (s : State) (f : Inbound) (w : Nat) : State :=
  let s1 := s.write (16 * w + f.off) f.data
  if f.bad then s1.markBad (16 * w) else s1

/-- A write takes its place in the coherence order of its word, what it does not write staying as it is (R232); a
reachable mirror copy follows (R434), and monitors see it (R71). -/
def State.perform (s : State) (f : Inbound) : State :=
  let s1 := s.strike f f.key
  let s2 := match f.mirror with
    | some w => if s.mirrorUp then s1.strike f w else s1
    | none => s1
  match f.pad with
  | some (c, a) => s2.touchLine c a
  | none => s2

/-- The entries that p chooses perform, after those of their source for the same word that came before (R236). -/
def State.performEach (p : Inbound → Bool) : List Inbound → State → State × List Inbound
  | [], s => (s, [])
  | f :: t, s =>
    let now := !f.done && (p f || t.any (fun g => p g && f.ordered g))
    let r := State.performEach p t (if now then s.perform f else s)
    (r.1, (if now then { f with done := true } else f) :: r.2)
def State.performs (s : State) (p : Inbound → Bool) : State :=
  let r := State.performEach p s.flight s
  { r.1 with flight := r.2 }

/-- Where a write of some bytes stands, beside its key: the scratchpad address and the mirror key of its first
byte, if it has them (R71, R434). -/
structure Beside where
  pad : Option (Nat × Nat)
  mirror : Option Nat

/-- The pieces of n bytes from key on, each inside one word, without the bytes to be skipped. -/
def pieces (skip : List Nat) (key n : Nat) : List (Nat × Nat) :=
  (splitBy 16 key n).flatMap (fun g =>
    if skip.isEmpty then [g] else ((List.range g.2).filter (fun i => !skip.contains (g.1 + i))).map (fun i => (g.1 + i, 1)))

/-- An entry joins those in flight: with `now` it performs as it is accepted, after those of its source for the
same word (R236, R246). -/
def State.enter (s : State) (now : Bool) (f : Inbound) : State :=
  let s1 := if now then (s.performs f.ordered).perform f else s
  { s1 with flight := s1.flight ++ [{ f with done := now }] }

/-- A write of some bytes from key on, word by word, is accepted (R237, R243); a word of a belayed page is complete
at belay scope when its mirror copy is accepted too (R434). -/
def State.enlist (s : State) (who : Requester) (kid : Word) (now : Bool) (skip : List Nat) (key : Nat) (at_ : Beside)
    (l : List Byte) (bad : List Bool) : State :=
  (pieces skip key l.length).foldl (fun s g =>
    let i := g.1 - key
    let mirror := at_.mirror.map (fun m => (m + i) / 16)
    let f : Inbound := ⟨g.1 / 16, who, kid, g.1 % 16, (l.drop i).take g.2, ((bad.drop i).take g.2).any id, mirror,
      at_.pad.map (fun p => (p.1, p.2 + i)), s.tick, false⟩
    let s1 := s.enter now f
    match mirror with
    | some w => s1.enter false { f with key := w, data := [], bad := false, mirror := none, pad := none }
    | none => s1) s

/-- The place that an entry writes can be reached: a mirror copy while the paired module is (R434). -/
def State.reaches (s : State) (f : Inbound) : Bool := s.mirrorUp || !f.mirrored

/-- The entries that p chooses are complete, as far as their places can be reached (R237, R243). -/
def State.complete (s : State) (p : Inbound → Bool) : State :=
  let q (f : Inbound) : Bool := p f && s.reaches f
  let s1 := s.performs q
  { s1 with flight := s1.flight.filter (fun f => !q f) }

/-- The words that a requester has in flight are complete, and its pages unpinned (R240, R243, R431). -/
def State.landed (s : State) (who : Requester) : State :=
  let s1 := s.complete (fun f => f.who == who)
  { s1 with pins := s1.pins.filter (fun p => p.who != who) }

/-- No report tells when the writes of this requester are complete (R371, R435). -/
def Requester.silent : Requester → Bool
  | .acc _ => true
  | .ridge _ => true
  | _ => false

/-- Words in flight perform and complete as time passes, each at a moment of its own (R232, R243, log 7); the
pages of a requester that reports nothing are unpinned with its last word (R431), acknowledgements of sent
packets come in (R437, log 8), and a partition reset ends (R441, R448, log 42). -/
def State.settle (s : State) : State :=
  let s1 := s.performs (fun f => Config.performs s.tick f.since f.key && s.reaches f)
  let s2 := s1.complete (fun f => Config.settled s.tick f.since f.key)
  { s2 with
    parts := s2.parts.mapIdx (fun pn p => { p with resetting := p.resetting && Config.resetLasts s.tick pn })
    pins := s2.pins.filter (fun p => !p.who.silent || s2.flight.any (fun f => f.who == p.who))
    ridge := { s2.ridge with sent := s2.ridge.sent.filter (fun x => !Config.acked s.tick x.dst x.seq) } }

/-! ### Registers -/

/-- A byte mask widened to bits. -/
def maskBits (en : Mask) : Vec :=
  .ofNat 2048 ((List.range 256).foldr
    (fun i acc => (if en.getLsbD i then 255 else 0) + 256 * acc) 0)

/-- The merge of R217 under the byte lanes en. -/
def VReg.merge (old : VReg) (x : Vec) (t : VTags) (en : Mask) : VReg :=
  if en = BitVec.allOnes 256 then ⟨x, t⟩
  else
    let w := maskBits en
    ⟨(x &&& w) ||| (old.val &&& ~~~w),
     packTags (fun i =>
       let e := en.extractLsb' (4 * i) 4
       if e = 15 then ltag t i
       else if e = 0 then ltag old.tags i
       else Tag.max (ltag old.tags i) (ltag t i))⟩

/-- The bits of a mask register that en names are replaced (R254). -/
def MReg.merge (old : MReg) (x : Mask) (t : MTags) (en : Mask) : MReg :=
  ⟨(x &&& en) ||| (old.bits &&& ~~~en),
   packMTags (fun j => if en.getLsbD j then mtag t j else mtag old.tags j)⟩

/-- One half of a matrix parameter register is replaced (R330). -/
def MpReg.setHalf (old : MpReg) (hi : Bool) (x : Word) (t : Tag) : MpReg :=
  let v := old.val
  if hi then ⟨x ++ v.extractLsb' 0 32, Tag.max old.tag t⟩
  else ⟨v.extractLsb' 32 32 ++ x, t⟩

/-- R60 tracks this register. -/
def RegId.tracked : RegId → Bool
  | .s _ => true
  | .v _ => true
  | .p n => n != 0
  | .m n => n != 0
  | .mp _ => true
  | .lc _ => true
  | _ => false

/-- A read in the pitch (R60). -/
def Seq.noteRead (q : Seq) (r : RegId) : Seq :=
  if r.tracked && !q.written.contains r && !q.readFirst.contains r
  then { q with readFirst := r :: q.readFirst } else q

/-- A write in the pitch (R60). -/
def Seq.noteWrite (q : Seq) (r : RegId) : Seq :=
  if r.tracked then
    { q with
      dirty := q.dirty || q.readFirst.contains r
      written := if q.written.contains r then q.written else r :: q.written }
  else q

/-- Handler mode switches the tracking off (R300). -/
def Core.noteRead (k : Core) (r : RegId) : Core :=
  if k.ctl.hm then k else { k with seq := k.seq.noteRead r }
def Core.noteWrite (k : Core) (r : RegId) : Core :=
  if k.ctl.hm then k else { k with seq := k.seq.noteWrite r }

/-- A scalar port takes a result; A and B move q0 to q1 (R85). -/
def Regs.landPort (r : Regs) (n : Nat) (x : SReg) : Regs :=
  let old := (r.sPort[n]?).getD .zero
  let p := if n = 0 ∨ n = 2 then r.sPort.setIfInBounds (n + 1) old else r.sPort
  { r with sPort := p.setIfInBounds n x }

/-- A value reaches its register (R97, R217); writes of p0 and m0 are discarded (R84). -/
def Core.putReg (k : Core) (dst : RegId) (val : WVal) (at_ : Nat) : Core :=
  let r := k.regs
  match dst, val with
  | .s n, .word x t => { k with regs := { r with s := r.s.setIfInBounds n ⟨x, t⟩ } }
  | .sPort n, .word x t => { k with regs := r.landPort n ⟨x, t⟩ }
  | .v n, .vec x t en =>
    { k with regs := { r with
        v := r.v.setIfInBounds n (((r.v[n]?).getD .zero).merge x t en) } }
  | .vPort n, .vec x t en =>
    { k with regs := { r with
        vPort := r.vPort.setIfInBounds n (((r.vPort[n]?).getD .zero).merge x t en) } }
  | .p n, .bit b t =>
    if n = 0 then k
    else { k with
      regs := { r with p := r.p.setIfInBounds n ⟨b, t⟩ }
      seq := { k.seq with predVis := k.seq.predVis.setIfInBounds n (at_ + 1) } }
  | .m n, .mask x t en =>
    if n = 0 then k
    else { k with regs := { r with
      m := r.m.setIfInBounds n (((r.m[n]?).getD ⟨0, 0⟩).merge x t en) } }
  | .mp n, .half hi x t =>
    { k with regs := { r with
        mp := r.mp.setIfInBounds n (((r.mp[n]?).getD ⟨0, 0⟩).setHalf hi x t) } }
  | .lc n, .word x t =>
    { k with regs := { r with
        lc := r.lc.setIfInBounds n { (r.lc[n]?).getD ⟨0, 0, ⟨0, 0⟩, none, false⟩ with
          cnt := x, tag := t } } }
  | .fpf, .flags f => { k with ctl := { k.ctl with fpf := k.ctl.fpf ||| f } }
  | .fpf, .word x _ => { k with ctl := { k.ctl with fpf := x.extractLsb' 0 5 } }
  | .fpm, .word x _ => { k with ctl := { k.ctl with fpm := x.extractLsb' 0 3 } }
  | _, _ => k

/-- One result lands and counts as a write under R60. -/
def Core.land (k : Core) (p : Pend) : Core := (k.putReg p.dst p.val p.due).noteWrite p.dst

/-- A result that ORs flags into FPF. -/
def Pend.flagged (p : Pend) : Bool :=
  match p.val with
  | .flags _ => true
  | _ => false

/-- Results in the order in which they land: by position, then by issue (R85, R97); flags are ORed in
after the writes of their position, so that they are visible at it (R157). -/
def pendInsert (p : Pend) : List Pend → List Pend
  | [] => [p]
  | q :: t =>
    if p.due < q.due ∨ (p.due = q.due ∧ q.flagged ∧ ¬ p.flagged) then p :: q :: t else q :: pendInsert p t

/-- Every result due at position n or earlier lands. -/
def Core.landDue (k : Core) (n : Nat) : Core :=
  let k1 := (k.pend.filter (fun p => p.due ≤ n)).foldl Core.land k
  { k1 with pend := k.pend.filter (fun p => ¬ p.due ≤ n) }

/-- Results that become visible at one position n: those issued later land later (R58, R97). -/
def fenced (n : Nat) (l : List Pend) : List Pend :=
  l.foldl (fun a p => pendInsert { p with due := p.at_ } a) [] |>.map (fun p => { p with due := n })

/-- Every result in flight lands, at one position (R58, R299). -/
def Core.landAll (k : Core) : Core :=
  let k1 := (fenced k.seq.pos (k.pend.filter (fun p => ¬ p.flagged)) ++ k.pend.filter (·.flagged)).foldl Core.land k
  { k1 with pend := [] }

/-- A hold ends: its cycles are counted (R204). -/
def Core.release (k : Core) (now : Nat) : Core :=
  let n : Word := .ofNat 32 (now - k.seq.holdSince)
  let cnt := match k.seq.hold with
    | some .pop => { k.cnt with istl := k.cnt.istl + n }
    | some .barwait => { k.cnt with istl := k.cnt.istl + n }
    | some (.drain _ _) => { k.cnt with istl := k.cnt.istl + n }
    | some .sys => { k.cnt with sysq := k.cnt.sysq + n }
    | some .expand => { k.cnt with lstl := k.cnt.lstl + n }
    | _ => k.cnt
  { k with cnt := cnt, seq := { k.seq with hold := none } }

/-- The core holds issue: the cycles of another hold are counted first (R165, R204). -/
def Core.toHold (k : Core) (now : Nat) (h : Hold) : Core :=
  if k.seq.hold = some h then k
  else
    let k1 := k.release now
    { k1 with seq := { k1.seq with hold := some h, holdSince := now } }

/-- Every result port reads 0, clean (R58, R300). -/
def Core.clearPorts (k : Core) : Core :=
  { k with regs := { k.regs with sPort := .replicate 6 .zero, vPort := .replicate 4 .zero } }

end Sys2Proof.Machine
end

