-- ==== Sys2Proof/Machine/Translate.lean ====
section
/-!
DEFINITION. Virtual addresses and homes (R419 to R422), page walks and TLBs (R423 to R426), faults and
their service (R427, R428), pages in migration (R432, R433), belay (R434), and reads and writes of
virtual memory by the units outside the cores.
-/
namespace Sys2Proof.Machine

/-- The group of cluster cl (R446). -/
def clusterGroup (cl : Nat) : Nat := cl % 8 / 4 * 4 + cl / 8 / 2

/-- The partition that holds HBM stack k (R423). -/
def State.stackPart (s : State) (k : Nat) : Option Nat :=
  (List.range 8).find? (fun p => (s.part p).stackSet.getLsbD k)
/-- The partition that holds cluster cl. -/
def State.clusterPart (s : State) (cl : Nat) : Option Nat :=
  (List.range 8).find? (fun p => (s.part p).groups.getLsbD (clusterGroup cl))
/-- The partition whose range holds an ASID. -/
def State.asidPart (s : State) (a : Nat) : Option Nat :=
  (List.range 8).find? (fun p => decide ((s.part p).asidBase ≤ a ∧ a < (s.part p).asidBase + (s.part p).asidCount))
/-- Core c lies in the east half (R20). -/
def eastCore (c : Nat) : Bool := c / 4 % 8 ≥ 4

/-- Where a translated byte stands (R420, R432). -/
inductive Place where
  | hbm (k pa : Nat) (bly : Bool)
  /-- byte off of a migrating page: its record, its new frame, its old address, its leaf's key -/
  | moving (k rec frame off old leafKey : Nat) (bly : Bool)
  /-- a virtual scratchpad byte of a core -/
  | tower (c a : Nat)
  | bus (a : Nat)
  | remote (va : Nat)
  deriving DecidableEq, Repr

/-- How a translation ends (R419, R425, R437). -/
inductive Tr where
  | at (p : Place)
  /-- fails at once, without an entry -/
  | never
  /-- waits for a path (R437) -/
  | blocked
  | fault (pn cause : Nat)
  deriving DecidableEq, Repr

/-- Table entry bits that must be zero in every entry (R424). -/
def entryMbz (e : Nat) : Bool := nbits e 48 14 == 0 && nbits e 6 5 == 0 && !nbit e 2

/-- The table that a directory or table entry names, as stack and address (R424). -/
def entryTable (e : Nat) : Nat × Nat := (nbits e 36 3, nbits e 11 25 * 2048)

/-- A walk's answer: leaf entry, whether it maps 512 MiB, its key; or the cause (R425). -/
abbrev WalkEnd := Except Nat (Nat × Bool × Nat)

/-- A table entry names a table of the partition, aligned to size n (R424). -/
def Part.goodTable (p : Part) (e n : Nat) : Bool :=
  entryMbz e && !nbit e 1 && nbits e 39 9 == 0 &&
    p.stackSet.getLsbD (entryTable e).1 && (entryTable e).2 % n == 0

/-- A leaf obeys R424 and its frame lies inside its unit (R420, R421, R425, R432). -/
def goodLeaf (unit : Nat) (big : Bool) (e : Nat) : Bool :=
  entryMbz e && nbit e 1 && nbits e 11 5 == 0 &&
    (!big || nbits e 16 13 == 0) &&
    (if unit < 8 then nbits e 36 12 == 0
     else if unit < 10 then !big && nbits e 26 22 == 0
     else true) &&
    !(nbit e 62 && (big || unit ≥ 8))

/-- The table walk of R424 and R425. -/
def State.tableWalk (s : State) (p : Part) (asid unit off : Nat) : WalkEnd :=
  if ¬ p.stackSet.getLsbD p.trdbStk then .error 1
  else
    let e3 := s.peekN (hbmKey p.trdbStk (p.trdbAddr * 2 ^ 20 + 8 * (16 * asid + unit))) 8
    if ¬ nbit e3 0 then .error 1
    else if ¬ p.goodTable e3 2048 then .error 4
    else
      let t2 := entryTable e3
      let e2 := s.peekN (hbmKey t2.1 (t2.2 + 8 * nbits off 42 8)) 8
      if ¬ nbit e2 0 then .error 2
      else if ¬ p.goodTable e2 65536 then .error 4
      else
        let t1 := entryTable e2
        let k1 := hbmKey t1.1 (t1.2 + 8 * nbits off 29 13)
        let e1 := s.peekN k1 8
        if ¬ nbit e1 0 then .error 2
        else if nbit e1 1 then (if goodLeaf unit true e1 then .ok (e1, true, k1) else .error 4)
        else if ¬ p.goodTable e1 65536 then .error 4
        else
          let t0 := entryTable e1
          let k0 := hbmKey t0.1 (t0.2 + 8 * nbits off 16 13)
          let e0 := s.peekN k0 8
          if ¬ nbit e0 0 then .error 2
          else if goodLeaf unit false e0 then .ok (e0, false, k0) else .error 4

/-- The TLB that serves a unit: 0-7 a stack, 256 + c core c, 512 the host port (R420). -/
def homeOf (unit off : Nat) : Nat :=
  if unit < 8 then unit else if unit < 10 then 256 + nbits off 26 8 else 512

/-- The page number of an offset as its TLB tags it. -/
def pageOf (off : Nat) (big : Bool) : Nat := if big then off / 2 ^ 29 else off / 65536

/-- A cached leaf of the page, if any (R426). -/
def State.tlbHit (s : State) (home asid off : Nat) : Option TlbEntry :=
  s.tlb.find? (fun t => t.home == home && t.asid == asid && t.page == pageOf off t.big)

/-- The access that a leaf permits (R425): 1 read, 2 write, 3 accumulate, 4 fetch. -/
def permits (e access : Nat) : Bool :=
  match access with
  | 1 => nbit e 3
  | 2 => nbit e 4
  | 3 => nbit e 3 && nbit e 4
  | _ => nbit e 5

/-- The place that a leaf gives an offset (R420, R421, R432). -/
def State.leafPlace (s : State) (unit off e : Nat) (big : Bool) (leafKey : Nat) : Place :=
  let low := if big then off % 2 ^ 29 else off % 65536
  if unit < 8 then
    if nbit e 62 then
      let rec_ := hbmKey unit (nbits e 11 25 * 2048)
      .moving unit rec_ (nbits (s.peekN (rec_ + 8) 8) 16 20 * 65536) low (s.peekN rec_ 8) leafKey (nbit e 63)
    else .hbm unit (nbits e 16 20 * 65536 + low) (nbit e 63)
  else if unit < 10 then .tower (nbits off 26 8) (nbits e 16 10 * 65536 + low)
  else .bus (nbits e 16 32 * 65536 + low)

/-- The number that stands for the core of a request that partition pn makes without one: of a queue, a kernel, a
ring, an ingest window or a ridge packet (R438, R446). -/
def noCore (pn : Nat) : Nat := 4096 + pn

/-- The partition of a requester, if it has one (R423, R446). -/
def State.requesterPart (s : State) (r : WalkRequest) : Option Nat :=
  if r.core < 256 then s.clusterPart (r.core / 4)
  else if 4096 ≤ r.core ∧ r.core < 4104 then some (r.core - 4096) else none

/-- The partition whose tables translate a request: that of the stack or tower, for unit 10 the requester's
(R423). -/
def State.ownerOf (s : State) (r : WalkRequest) (unit off : Nat) : Option Nat :=
  if unit < 8 then s.stackPart unit
  else if unit < 10 then s.clusterPart (nbits off 26 8 / 4)
  else match s.requesterPart r with
    | some pn => some pn
    | none => s.asidPart r.asid

/-- An address of units 8 and 9 that no core has (R421). -/
def noCoreAt (unit off : Nat) : Bool :=
  decide (8 ≤ unit ∧ unit < 10) && (nbits off 34 16 != 0 || eastCore (nbits off 26 8) != (unit == 8))

/-- The translation of a request at its home unit, alias units aside (R420, R421, R425, R426). A request of one
partition that names an ASID of another is a NO_ROOT fault of its own, and fails at once while the other is reset
(R446, R448, log 67). -/
def State.locateUnit (s : State) (r : WalkRequest) (unit off : Nat) : Tr :=
  if noCoreAt unit off then .never
  else match s.ownerOf r unit off with
    | none => .never
    | some pn =>
      let p := s.part pn
      if ¬ (p.asidBase ≤ r.asid ∧ r.asid < p.asidBase + p.asidCount) then .fault pn 1
      else match (s.requesterPart r).filter (· ≠ pn) with
        | some other => if p.resetting then .never else .fault other 1
        | none =>
          let e : WalkEnd := match s.tlbHit (homeOf unit off) r.asid off with
            | some t => .ok (t.leaf, t.big, 0)
            | none => s.tableWalk p r.asid unit off
          match e with
          | .error c => .fault pn c
          | .ok (leaf, big, key) =>
            if permits leaf r.access then .at (s.leafPlace unit off leaf big key) else .fault pn 3

/-- A destination module: reached over a path, cut off for less than 10 ms, or not reached (R419, R436, R437). -/
def State.route (s : State) (md : Nat) : Option Bool :=
  let cut := (assocGet s.ridge.cut md).map (·.2)
  if ¬ Config.inDomain md ∨ cut = some true then none
  else if cut = some false then some false
  else if ((assocGet s.ridge.paths md).getD []).isEmpty then none else some true

/-- The translation of a request (R419 to R425). Of another module's units, 10 and above accept no request that
arrives over a ridge link (R420, R422); the rest is translated there. -/
def State.locate (s : State) (r : WalkRequest) : Tr :=
  let md := nbits r.va 54 10
  let unit := nbits r.va 50 4
  let off := nbits r.va 0 50
  if md ≠ s.modNum.toNat then
    if 10 ≤ unit ∨ noCoreAt unit off = true then .never
    else match s.route md with
      | none => .never
      | some false => .blocked
      | some true => .at (.remote r.va)
  else if unit ≤ 10 then s.locateUnit r unit off
  else if unit = 11 then
    let w := s.win (nbits off 28 4)
    let va := w.tgt + nbits off 0 28
    if nbits off 32 18 ≠ 0 ∨ w.size ≤ nbits off 0 28 ∨ nbits va 54 10 ≠ md ∨ nbits va 50 4 > 9 then .never
    else s.locateUnit { r with va := va } (nbits va 50 4) (nbits va 0 50)
  else .never

/-! ### Bytes of a place -/

/-- The memory key of a place's first byte, as the regions of a kernel place it. -/
def State.placeKey (s : State) (kid : Word) : Place → Nat
  | .hbm k pa _ => hbmKey k pa
  | .moving k _ frame off _ _ _ => hbmKey k (frame + off)
  | .tower c a => s.padKey c kid a
  | .bus a => busKey a
  | .remote va => remoteKey va

/-- The spans of memory that n bytes of a place take: key, offset from the place's first byte, length. In a
tower each 64-byte granule stands where its own governing region places it (R208, R213). -/
def State.placeSpans (s : State) (kid : Word) (p : Place) (n : Nat) : List (Nat × Nat × Nat) :=
  match p with
  | .tower c a => (splitBy 64 a n).map (fun g => (s.padKey c kid g.1, g.1 - a, g.2))
  | p => [(s.placeKey kid p, 0, n)]

/-- Stack and physical address of the mirror copy of a place on a belayed page (R434). -/
def Place.mirror : Place → Option (Nat × Nat)
  | .hbm k pa true => some (k, pa)
  | .moving k _ frame off _ _ true => some (k, frame + off)
  | _ => none

/-- n bytes of a place; n stays inside a 256-byte line. -/
def State.placeRead (s : State) (kid : Word) (p : Place) (n : Nat) : List Byte :=
  (s.placeSpans kid p n).flatMap (fun g => s.peek g.1 g.2.2)

/-- Some word of the place is uncorrectable (R215, R311). -/
def State.placeBad (s : State) (kid : Word) (p : Place) (n : Nat) : Bool :=
  (s.placeSpans kid p n).any (fun g => s.spanBad g.1 g.2.2) ||
    (match p with
     | .tower c a => (splitBy 16 a n).any (fun w => (s.core c).deadWord (s.padKey c kid w.1 - towerKey c 0))
     | _ => false)

/-- One write at a place, mirrored where the page is belayed (R434), seen by monitors (R71). -/
def State.placeWrite (s : State) (kid : Word) (p : Place) (l : List Byte) : State :=
  let s1 := (s.placeSpans kid p l.length).foldl (fun s g => s.write g.1 ((l.drop g.2.1).take g.2.2)) s
  let s2 := match p.mirror with
    | some (k, pa) => if s.mirrorUp then s1.write (mirrorKey k pa) l else s1
    | none => s1
  match p with
  | .tower c a => s2.touchLines c a l.length
  | _ => s2

/-- The words that n bytes from key on touch become uncorrectable. -/
def State.spoilSpan (s : State) (key n : Nat) : State :=
  (List.range ((key + n + 15) / 16 - key / 16)).foldl (fun s i => s.markBad ((key / 16 + i) * 16)) s

/-- The words of a write become uncorrectable, in the mirror copy too (R434, R442, R459). -/
def State.placeSpoil (s : State) (kid : Word) (p : Place) (n : Nat) : State :=
  let s1 := (s.placeSpans kid p n).foldl (fun s g => s.spoilSpan g.1 g.2.2) s
  match p.mirror with
  | some (k, pa) => if s.mirrorUp then s1.spoilSpan (mirrorKey k pa) n else s1
  | none => s1

/-- An uncorrectable word of a belayed page is rewritten from its mirror (R434). -/
def State.repair (s : State) (k pa n : Nat) : State :=
  (List.range ((pa + n + 15) / 16 - pa / 16)).foldl (fun s i =>
    let a := (pa / 16 + i) * 16
    if s.isBad (hbmKey k a) ∧ s.mirrorUp ∧ ¬ s.isBad (mirrorKey k a)
    then s.write (hbmKey k a) (s.peek (mirrorKey k a) 16) else s) s

/-! ### Invalidation and migration -/

/-- A TLB entry covers a page of the range: pages 0 means every page (R429). -/
def TlbEntry.covered (t : TlbEntry) (home asid first pages : Nat) : Bool :=
  t.home == home && t.asid == asid &&
    (pages == 0 ||
      (if t.big then decide (t.page * 8192 < first + pages ∧ first < (t.page + 1) * 8192)
       else decide (first ≤ t.page ∧ t.page < first + pages)))

/-- Bit i of a migration record's line-valid bits (R432). -/
def State.lineValid (s : State) (rec_ i : Nat) : Bool := nbit (s.byte (rec_ + 16 + i / 8)).toNat (i % 8)
def State.setLine (s : State) (rec_ i : Nat) : State :=
  s.poke (rec_ + 16 + i / 8) (s.byte (rec_ + 16 + i / 8) ||| .ofNat 8 (2 ^ (i % 8)))

/-- MIGRATION_COMPLETE: with every line present the leaf takes the new frame, and the page that the request names
is invalidated (R430, R433). -/
def State.finishMigration (s : State) (p : Place) (r : WalkRequest) : State :=
  match p with
  | .moving k rec_ frame _ _ leafKey _ =>
    if (List.range 256).all (s.lineValid rec_) then
      let leaf := s.peekN leafKey 8
      let new := nbits leaf 63 1 * 2 ^ 63 + frame + nbits leaf 0 11
      let s1 := s.write leafKey (bytesLE 8 new)
      { s1 with tlb := s1.tlb.filter (fun t => !t.covered k r.asid (nbits r.va 0 50 / 65536) 1) }
    else s
  | _ => s

/-! ### Faults and spans -/

/-- What opening a span answers (R428): ready, waiting for service, failed, or refused by a region. -/
inductive Span where
  | ready (s : State)
  | wait (s : State)
  | fail (s : State)
  | refused (s : State)

/-- The entry that reports a fault (R427). -/
def faultEntry (n : Word) (cause page : Nat) (r : WalkRequest) : List Byte :=
  bytesLE 8 page ++ bytesLE 2 r.asid ++ [.ofNat 8 cause, .ofNat 8 r.access] ++ bytesLE 4 r.kid ++
    bytesLE 4 n.toNat ++ bytesLE 4 (if r.core < 256 then r.core else 0xFFFFFFFF) ++ bytesLE 8 0

/-- Entry n of a ring at a host-window address, if its page translates (R415, R427). -/
def State.ringPlace (s : State) (pn base log entry : Nat) (n : Word) : Option Place :=
  match s.locate ⟨base + entry * (n.toNat % 2 ^ log), (s.part pn).asidBase, 2, 0, noCore pn⟩ with
  | .at p => some p
  | _ => none

/-- Write a fault entry, if the ring has room (R427). -/
def State.writeFault (s : State) (pn cause : Nat) (r : WalkRequest) (joined : List Requester) : Option State :=
  let p := s.part pn
  if (p.frprod - p.frcons).toNat ≥ 2 ^ p.frLog then none
  else match s.ringPlace pn p.frbase p.frLog 32 p.frprod with
    | none => none
    | some place =>
      let page := r.va / 65536 * 65536
      let s1 := s.placeWrite 0 place (faultEntry p.frprod cause page r)
      some (s1.updPart pn (fun q => { q with
        frprod := q.frprod + 1
        faults := if cause = 5 then q.faults
          else q.faults ++ [⟨q.frprod, page, r.asid, r.access, s.cycle, joined⟩]
        msix := q.msix.setIfInBounds 2 ((q.msix[2]?).getD 0 + 1) }))

/-- The KID that a fault entry reports: none of the host's and the ridge links' (R427). -/
def Requester.entryKid (who : Requester) (kid : Nat) : Nat :=
  match who with
  | .ingest _ => 0
  | .ridge _ => 0
  | _ => kid

/-- A faulting translation is reported, joins an entry, waits, or fails (R427, R428). -/
def State.raiseFault (s : State) (pn cause : Nat) (r : WalkRequest) (who : Requester) : Span :=
  let p := s.part pn
  let page := r.va / 65536 * 65536
  if ¬ p.frEn then .fail s
  else if p.faults.any (fun f => f.joined.contains who && f.page == page && f.access == r.access) ∨
      p.waiting.any (fun f => f.1 == (who, page)) ∧ (p.frprod - p.frcons).toNat ≥ 2 ^ p.frLog then .wait s
  else if p.faults.any (fun f => f.page == page && f.asid == r.asid && f.access == r.access) then
    .wait (s.updPart pn (fun q => { q with faults := q.faults.map (fun f =>
      if f.page == page && f.asid == r.asid && f.access == r.access
      then { f with joined := f.joined ++ [who] } else f) }))
  else match s.writeFault pn cause { r with kid := who.entryKid r.kid } [who] with
    | some s1 => .wait (s1.updPart pn (fun q => { q with waiting := q.waiting.filter (fun f => f.1 != (who, page)) }))
    | none => .wait (s.updPart pn (fun q => { q with
        waiting := if q.waiting.any (fun f => f.1 == (who, page)) then q.waiting
          else q.waiting ++ [((who, page), s.cycle)] }))

/-- The cause 5 entries of failed pulls are written, as far as the ring takes them (R427, R433). -/
def State.flushPulls (pn : Nat) : List WalkRequest → State → State
  | [], s => s.updPart pn (fun q => { q with pulls := [] })
  | r :: t, s => match s.writeFault pn 5 r [] with
    | some s1 => State.flushPulls pn t s1
    | none => s.updPart pn (fun q => { q with pulls := r :: t })
/-- A pull has failed: with faults in service its entry is written, behind those that wait (R427, R433). -/
def State.reportPull (s : State) (pn : Nat) (r : WalkRequest) : State :=
  let p := s.part pn
  if p.frEn then s.flushPulls pn (p.pulls ++ [r]) else s

/-- The cause 5 entries that still wait are written as the ring takes them. -/
def State.retryPulls (s : State) (pn : Nat) : State :=
  let p := s.part pn
  if p.frEn ∧ ¬ p.pulls.isEmpty then s.flushPulls pn p.pulls else s

/-- LINE_PULL (R433): an absent line of a migrating page is read from the old address; none while the old page's
module has no path (R437). -/
def State.pullLine (s : State) (p : Place) (r : WalkRequest) : Option State :=
  match p with
  | .moving k rec_ frame off old _ bly =>
    let i := off / 256
    let new : Place := .hbm k (frame + i * 256) bly
    let q : WalkRequest := { r with va := old + i * 256, access := 1 }
    let ends (s : State) : Option State := some ((s.setLine rec_ i).finishMigration p r)
    match s.locate q with
    | .blocked => none
    | .at o =>
      let s1 := s.placeWrite 0 new (s.placeRead 0 o 256)
      ends ((List.range 16).foldl (fun (s1 : State) g =>
        if s.isBad (s.placeKey 0 o + 16 * g) then s1.placeSpoil 0 (.hbm k (frame + i * 256 + 16 * g) bly) 16 else s1) s1)
    | _ =>
      let s1 := s.placeSpoil 0 new 256
      ends (match s.stackPart k with
        | some pn => s1.reportPull pn q
        | none => s1)
  | _ => some s

/-- Requests that p chooses wait no longer, and what their faults were answered is forgotten (R427, R428). -/
def State.dropWaits (s : State) (p : Requester → Bool) : State :=
  { s with
    failed := s.failed.filter (fun e => !p e.1)
    parts := s.parts.map (fun q => { q with
      faults := q.faults.map (fun f => { f with joined := f.joined.filter (fun w => !p w) })
      waiting := q.waiting.filter (fun w => !p w.1.1) }) }

/-! ### Ridge packets that this module sends (R435 to R438, R447; log 8) -/

/-- The credits of a channel and partition towards a destination allow one more packet (R435, R447). -/
def State.hasCredit (s : State) (dst : Nat) (vc : Channel) (pn : Nat) : Bool :=
  decide ((s.ridge.sent.filter (fun x => x.dst == dst && x.vc == vc && x.pn == pn)).length ≤ Config.ridgeCredits)

/-- A packet with the destination's next sequence number goes over one of the destination's paths (R436). -/
def State.send (s : State) (dst : Nat) (vc : Channel) (pn : Nat) : State :=
  let r := s.ridge
  let n := (assocGet r.sendNext dst).getD 0
  let paths := (assocGet r.paths dst).getD []
  { s with ridge := { r with
      sendNext := assocSet r.sendNext dst (n + 1)
      sent := r.sent ++ [⟨dst, n, paths.getD (Config.spray s.tick n % paths.length) 0, vc, pn⟩] } }

/-- Open one piece of a line for an access of len bytes (R212, R427, R433 to R435). A request whose fault was
answered FAIL, or ran out, fails (R428). -/
def State.openLine (s : State) (r : WalkRequest) (len : Nat) (who : Requester) : Span :=
  let mark := (who, r.va / 65536 * 65536)
  if s.failed.contains mark then .fail { s with failed := s.failed.erase mark }
  else match s.locate r with
  | .never => .fail s
  | .blocked => .wait s
  | .fault pn cause => s.raiseFault pn cause r who
  | .at p =>
    let mended (s : State) : State := match p.mirror with
      | some (k, pa) => s.repair k pa len
      | none => s
    match p with
    | .moving _ rec_ _ off _ _ _ =>
      if s.lineValid rec_ (off / 256) then .ready (mended s)
      else if r.access = 2 ∧ len = 256 then .ready ((s.setLine rec_ (off / 256)).finishMigration p r)
      else match s.pullLine p r with
        | some s1 => .ready (mended s1)
        | none => .wait s
    | .hbm _ _ _ => .ready (mended s)
    | .tower c a =>
      let kid : Word := .ofNat 32 r.kid
      let k := s.core c
      let words := (List.range ((a + len + 15) / 16 - a / 16)).map (fun i => (a / 16 + i) * 16)
      let ok (w : Nat) : Bool := match r.access with
        | 2 => k.engineWritable kid w
        | 3 => k.engineWritable kid w && k.readable kid w
        | _ => k.readable kid w
      if words.all ok then .ready s else .refused s
    | .bus _ => .ready s
    | .remote va =>
      let dst := nbits va 54 10
      let pn := (s.requesterPart r).getD 0
      if s.hasCredit dst .request pn then .ready (s.send dst .request pn) else .wait s

/-- The pieces of a span, each inside one 256-byte line. -/
def splitLines (va n : Nat) : List (Nat × Nat) := splitBy 256 va n

/-- Open pieces one after another; the first that is not ready decides. -/
def State.openLines (r : WalkRequest) (who : Requester) : List (Nat × Nat) → State → Span
  | [], s => .ready s
  | (va, n) :: t, s => match s.openLine { r with va := va } n who with
    | .ready s1 => s1.openLines r who t
    | o => o

/-- Open n bytes from r.va on. -/
def State.openSpan (s : State) (r : WalkRequest) (n : Nat) (who : Requester) : Span :=
  s.openLines r who (splitLines r.va n)

/-- n bytes of virtual memory; a piece that does not translate reads 0. -/
def State.vread (s : State) (r : WalkRequest) (n : Nat) : List Byte :=
  (splitLines r.va n).flatMap (fun l => match s.locate { r with va := l.1 } with
    | .at p => s.placeRead (.ofNat 32 r.kid) p l.2
    | _ => List.replicate l.2 0)

/-- Some word of the span is uncorrectable. -/
def State.vbad (s : State) (r : WalkRequest) (n : Nat) : Bool :=
  (splitLines r.va n).any (fun l => match s.locate { r with va := l.1 } with
    | .at p => s.placeBad (.ofNat 32 r.kid) p l.2
    | _ => false)

/-- Bytes written to virtual memory; a piece that does not translate is dropped. -/
def State.vwrite (s : State) (r : WalkRequest) (l : List Byte) : State :=
  (splitLines r.va l.length).foldl (fun s1 p => match s1.locate { r with va := p.1 } with
    | .at q => s1.placeWrite (.ofNat 32 r.kid) q ((l.drop (p.1 - r.va)).take p.2)
    | _ => s1) s

/-- Stack and physical address of the mirror copy of the page that a request names (R434). -/
def State.mirrorOf (s : State) (r : WalkRequest) : Option (Nat × Nat) :=
  match s.locate r with
  | .at p => p.mirror
  | _ => none

/-- The page of a place or span carries BLY (R434). -/
def State.belayed (s : State) (r : WalkRequest) : Bool := (s.mirrorOf r).isSome

/-- The mirror copy's bytes of a belayed span (R434). -/
def State.mirrorRead (s : State) (r : WalkRequest) (n : Nat) : List Byte :=
  (splitLines r.va n).flatMap (fun l => match s.mirrorOf { r with va := l.1 } with
    | some (k, pa) => s.peek (mirrorKey k pa) l.2
    | none => List.replicate l.2 0)
/-- The mirror copy can be read and every word of it is sound. -/
def State.mirrorSound (s : State) (r : WalkRequest) (n : Nat) : Bool :=
  s.mirrorUp && (splitLines r.va n).all (fun l => match s.mirrorOf { r with va := l.1 } with
    | some (k, pa) => !s.spanBad (mirrorKey k pa) l.2
    | none => false)

/-- Some word of the primary copy of a belayed span is uncorrectable, whatever its mirror holds: a saved
copy is used whole or not at all (R310). -/
def State.primaryBad (s : State) (r : WalkRequest) (n : Nat) : Bool :=
  (splitLines r.va n).any (fun l => match s.mirrorOf { r with va := l.1 } with
    | some (k, pa) => s.spanBad (hbmKey k pa) l.2
    | none => false)

/-! ### Writes of the engines (R212, R243, R431) -/

/-- The address that an alias of unit 11 stands for (R422). -/
def State.homeVa (s : State) (va : Nat) : Nat :=
  if nbits va 50 4 = 11 then (s.win (nbits va 28 4)).tgt + nbits va 0 28 else va

/-- The page of a request is pinned for its requester (R431). -/
def State.pin (s : State) (r : WalkRequest) (who : Requester) : State :=
  let va := s.homeVa r.va
  let off := nbits va 0 50
  let pin : Pin := ⟨homeOf (nbits va 50 4) off, r.asid, off / 65536, who⟩
  if nbits va 54 10 ≠ s.modNum.toNat ∨ s.pins.contains pin = true then s else { s with pins := pin :: s.pins }
/-- The pages of n bytes are pinned. -/
def State.pinSpan (s : State) (r : WalkRequest) (n : Nat) (who : Requester) : State :=
  (splitBy 65536 r.va n).foldl (fun s g => s.pin { r with va := g.1 } who) s

/-- The home of a place (R417, R420): 0-7 a stack, 256 + c the towers of core c, 1024 + m module m; host and peer
memory has none. -/
def Place.home : Place → Option Nat
  | .hbm k _ _ => some k
  | .moving k _ _ _ _ _ _ => some k
  | .tower c _ => some (256 + c)
  | .remote va => some (1024 + nbits va 54 10)
  | .bus _ => none
/-- A kernel has written memory of a home (R417). -/
def State.noteWrote (s : State) (kid : Word) (h : Option Nat) : State :=
  match h with
  | some n => s.updKernel kid (fun k => { k with wrote := insertSorted n k.wrote })
  | none => s

/-- Bytes written by an engine are accepted at their places and in flight until they are complete (R237, R243); a
page of this module is pinned until then (R431), unless the write is the host's; a piece that does not translate is dropped. With
`now` the write performs as it is accepted (R246); bytes at keys of `skip` are left out (R236). -/
def State.engineWrite (s : State) (r : WalkRequest) (who : Requester) (now : Bool) (skip : List Nat) (l : List Byte)
    (bad : List Bool) : State :=
  let kid : Word := .ofNat 32 r.kid
  (splitLines r.va l.length).foldl (fun (s1 : State) p =>
    let q : WalkRequest := { r with va := p.1 }
    let i := p.1 - r.va
    match s1.locate q with
    | .at o =>
      let s2 := (s1.placeSpans kid o p.2).foldl (fun (s : State) g =>
        let pad : Option (Nat × Nat) := match o with
          | .tower c a => some (c, a + g.2.1)
          | _ => none
        s.enlist who kid now skip g.1 ⟨pad, o.mirror.map (fun m => mirrorKey m.1 m.2)⟩
          (((l.drop i).drop g.2.1).take g.2.2) (((bad.drop i).drop g.2.1).take g.2.2)) s1
      (match who with
       | .ingest _ => s2
       | _ => s2.pin q who).noteWrote kid o.home
    | _ => s1) s

/-- The keys of n bytes, as far as they translate. -/
def State.byteKeys (s : State) (r : WalkRequest) (n : Nat) : List (Option Nat) :=
  (splitLines r.va n).flatMap (fun l => match s.locate { r with va := l.1 } with
    | .at p => (s.placeSpans (.ofNat 32 r.kid) p l.2).flatMap (fun g => (List.range g.2.2).map (fun i => some (g.1 + i)))
    | _ => List.replicate l.2 none)

/-- What an agent has written itself is in place before it reads it again. -/
def State.ownFirst (s : State) (r : WalkRequest) (n : Nat) (who : Requester) : State :=
  let words := (s.byteKeys r n).filterMap (fun k => k.map (· / 16))
  s.performs (fun f => f.who == who && words.contains f.key)

/-- Open several spans; each is an address, an access and a length. -/
def State.openAll (asid kid core : Nat) (who : Requester) : List (Nat × Nat × Nat) → State → Span
  | [], s => .ready s
  | (va, access, n) :: t, s => match s.openSpan ⟨va, asid, access, kid, core⟩ n who with
    | .ready s1 => s1.openAll asid kid core who t
    | o => o

end Sys2Proof.Machine
end

