-- ==== Sys2Proof/Machine/Cairns.lean ====
section
/-!
DEFINITION. Cairn records (R47 to R55), run queues (R56), save areas (R307 to R310), the failing of a
kernel (R411, R412), and the parts of suspension and pickup that several instructions share.
-/
namespace Sys2Proof.Machine

/-! ### References and record fields -/

/-- The bundle reference of a place (R99). -/
def posRef (p : Pos) : Word := .ofNat 32 (p.seg / 16 % 2 ^ 23 * 512 + p.idx % 512)
/-- The place that a bundle reference names (R99, R100). -/
def refPos (w : Word) : Pos := ⟨w.toNat / 512 * 16, w.toNat % 512⟩
/-- The bundle address of a place and back (R48). The place past the last bundle of a segment of 512 carries
into SEG<3:0>, which are zero in every other address (log 52). -/
def posAddr (p : Pos) : Nat := p.seg * 512 + p.idx
def addrPos (a : Nat) : Pos := ⟨nbits a 13 44 * 16, nbits a 0 13⟩

/-- x with bits lo+n-1:lo replaced by v. -/
def putBits (x lo n v : Nat) : Nat := x - nbits x lo n * 2 ^ lo + v % 2 ^ n * 2 ^ lo

/-- A field of a record (R47). -/
def recField (r : BitVec 512) (lo n : Nat) : Nat := bits r lo n
def recPut (r : BitVec 512) (lo n v : Nat) : BitVec 512 := .ofNat 512 (putBits r.toNat lo n v)

/-- A record with its integrity tag (R53). -/
def recSeal (r : BitVec 512) : BitVec 512 :=
  recPut r 480 32 (crc32c (bytesLE 60 r.toNat)).toNat
/-- The tag of a record matches (R53). -/
def recTagOk (r : BitVec 512) : Bool := recField r 480 32 == (crc32c (bytesLE 60 r.toNat)).toNat

def CState.code : CState → Nat
  | .ready => 0
  | .running => 1
  | .parked => 2
  | .trapped => 3
  | .done => 4
  | .lost => 5

/-- Where record ix of a kernel stands. -/
def Kernel.recVa (k : Kernel) (ix : Nat) : Nat := k.carr + 64 * ix
def Kernel.req (k : Kernel) (va access core : Nat) : WalkRequest := ⟨va, k.asid, access, k.kid.toNat, core⟩

/-- A record as memory holds it (R54). -/
def State.recRead (s : State) (k : Kernel) (ix : Nat) : BitVec 512 :=
  .ofNat 512 (ofBytesLE (s.vread (k.req (k.recVa ix) 1 (noCore k.pn)) 64))
/-- The device's own copy of a record takes a value (R54). -/
def State.hold (s : State) (kid : Word) (ix : Nat) (r : BitVec 512) : State :=
  { s with records := assocSet s.records (kid, ix) r }
/-- A record written whole, sealed (R54). -/
def State.recWrite (s : State) (k : Kernel) (ix : Nat) (r : BitVec 512) : State :=
  (s.vwrite (k.req (k.recVa ix) 2 (noCore k.pn)) (bytesLE 64 (recSeal r).toNat)).hold k.kid ix (recSeal r)
/-- A record as the device last read or wrote it: what it writes next replaces any value stored in between
(R54). -/
def State.recHeld (s : State) (k : Kernel) (ix : Nat) : BitVec 512 :=
  (assocGet s.records (k.kid, ix)).getD (s.recRead k ix)
/-- The device has no copy of a kernel's records any more. -/
def State.unhold (s : State) (kid : Word) : State := { s with records := s.records.filter (fun e => e.1.1 != kid) }

/-! ### Cairns of a kernel -/

def Kernel.cairn (k : Kernel) (ix : Nat) : Option Cairn := k.cairns.find? (fun c => c.ix == ix)
def Kernel.updCairn (k : Kernel) (ix : Nat) (f : Cairn → Cairn) : Kernel :=
  { k with cairns := k.cairns.map (fun c => if c.ix == ix then f c else c) }
def State.updCairn (s : State) (kid : Word) (ix : Nat) (f : Cairn → Cairn) : State :=
  s.updKernel kid (fun k => k.updCairn ix f)
/-- The cluster to which a virtual cluster is bound (R45). -/
def Kernel.home (k : Kernel) (vcl : Nat) : Nat := (k.bind[vcl]?).getD 0

/-- The kernel and cairn that run on core c. -/
def State.running (s : State) (c : Nat) : Option (Kernel × Cairn) :=
  match (s.core c).run with
  | none => none
  | some (kid, ix) => match s.kernel kid with
    | none => none
    | some k => (k.cairn ix).map (fun q => (k, q))

/-- The cairns roped with a cairn, itself among them (R64): of its virtual cluster, pinned to the
member positions. -/
def Kernel.ropeOf (k : Kernel) (q : Cairn) : List Cairn :=
  if q.ropew = 0 then [q]
  else k.cairns.filter (fun x => x.vcl == q.vcl && x.pin ≥ 4 &&
    (q.ropew == 2 || x.pin / 2 == q.pin / 2))

/-! ### Run queues (R56) -/

/-- Write the LINK word of a record (R52). -/
def State.setLink (s : State) (k : Kernel) (ix link : Nat) : State :=
  s.recWrite k ix (recPut (s.recHeld k ix) 416 32 link)

/-- The cairn joins the tail of its cluster's queue; the kernel's previous entry links to it, whatever its
priority (log 53). -/
def State.enqueue (s : State) (k : Kernel) (ix vcl : Nat) : State :=
  let cl := k.home vcl
  let mine := (s.cluster cl).runq.filter (fun e => e.1 == k.kid)
  let s1 := match mine.getLast? with
    | some e => s.setLink k e.2 ix
    | none => s
  s1.updCluster cl (fun q => { q with runq := q.runq ++ [(k.kid, ix)] })

/-- The cairn leaves its queue; the entry before it links to the entry after it. -/
def State.dequeue (s : State) (k : Kernel) (ix vcl : Nat) : State :=
  let cl := k.home vcl
  let mine := ((s.cluster cl).runq.filter (fun e => e.1 == k.kid)).map (·.2)
  let before := (mine.takeWhile (· ≠ ix)).getLast?
  let after := ((mine.dropWhile (· ≠ ix)).drop 1).head?
  let s1 := match before with
    | some b => s.setLink k b (after.getD 0xFFFFFFFF)
    | none => s
  s1.updCluster cl (fun q => { q with runq := q.runq.erase (k.kid, ix) })

/-- A cairn whose record is written becomes READY (R55, R72). -/
def State.makeReady (s : State) (k : Kernel) (ix : Nat) (only : Option Nat) : State :=
  match k.cairn ix with
  | none => s
  | some q =>
    let s1 := s.updCairn k.kid ix (fun q => { q with st := .ready, only := only, since := s.cycle, level := 0, sum := false })
    s1.enqueue k ix q.vcl

/-- The effective priority of a READY cairn (R72). -/
def Cairn.effective (q : Cairn) : Nat := Nat.min 3 (q.pri + q.level)

/-- The stamp of the kernel's own taking of cluster cl; 0 for none. -/
def Kernel.tookAt (k : Kernel) (cl : Nat) : Nat := (assocGet k.took cl).getD 0
/-- The clusters that the kernel has taken are its own until its phase ends (R45, R414). -/
def Kernel.keepsTaken (k : Kernel) : Bool := k.outcome.isNone && !(k.started && k.cairns.all (fun q => q.st == .done))
/-- Another kernel has taken cluster cl from this one, and its phase has not ended (R45, R414). -/
def State.takenFrom (s : State) (k : Kernel) (cl : Nat) : Bool :=
  s.kernels.any (fun t => t.kid != k.kid && t.keepsTaken && decide (k.tookAt cl < t.tookAt cl))

/-- May core c pick this cairn alone? (R54, R56) -/
def State.mayPick (s : State) (c : Nat) (k : Kernel) (q : Cairn) : Bool :=
  k.outcome == none && q.st == .ready && (s.cluster (c / 4)).runq.contains (k.kid, q.ix) &&
    !s.takenFrom k (c / 4) && !(s.part k.pn).resetting && !(s.core c).margin.quar && (s.core c).run == none &&
    (if q.ropew = 0 then q.only == some c || (q.only == none && (q.pin < 4 || q.pin == 4 + c % 4))
     else q.pin == 4 + c % 4)

/-- The core of a roped cairn's pinned position. -/
def Kernel.pinnedCore (k : Kernel) (q : Cairn) : Nat := k.home q.vcl * 4 + (q.pin - 4)

/-- May core c pick this cairn? Roped cairns only all together, each at its position (R67). -/
def State.canPick (s : State) (c : Nat) (k : Kernel) (q : Cairn) : Bool :=
  s.mayPick c k q && (k.ropeOf q).all (fun x => x.ix == q.ix || s.mayPick (k.pinnedCore x) k x)

/-- Core c is idle and the run queue holds a cairn that it may pick. -/
def State.somePick (s : State) (c : Nat) : Bool :=
  (s.cluster (c / 4)).runq.any (fun e => match s.kernel e.1 with
    | some k => match k.cairn e.2 with
      | some q => s.canPick c k q
      | none => false
    | none => false)

/-! ### Save areas (R307) -/

def wordsLE (l : List Nat) : List Byte := l.flatMap (bytesLE 4)
def zeros (n : Nat) : List Byte := List.replicate n 0

/-- The TRC register as read (R203). -/
def Ctl.trcWord (x : Ctl) : Word := .ofNat 32 ((if x.hm then 2 ^ 31 else 0) + x.trc.toNat)

/-- A pop record's 272 bytes (R345). -/
def PopRec.bytes (r : PopRec) : List Byte :=
  bytesLE 256 r.vec.toNat ++
  wordsLE [r.kind + 256 * r.vtag.toNat + 1024 * r.w0.tag.toNat + 4096 * r.w1.tag.toNat + 16384 * r.w2.tag.toNat,
    r.w0.val.toNat, r.w1.val.toNat, r.w2.val.toNat]
def PopRec.ofBytes (l : List Byte) : PopRec :=
  let w (i : Nat) : Nat := ofBytesLE ((l.drop (256 + 4 * i)).take 4)
  ⟨nbits (w 0) 0 3, .ofNat 2048 (ofBytesLE (l.take 256)), .ofNat 2 (nbits (w 0) 8 2),
   ⟨.ofNat 32 (w 1), .ofNat 2 (nbits (w 0) 10 2)⟩, ⟨.ofNat 32 (w 2), .ofNat 2 (nbits (w 0) 12 2)⟩,
   ⟨.ofNat 32 (w 3), .ofNat 2 (nbits (w 0) 14 2)⟩⟩

/-- The matrix control state and slot table that a save writes (R337). -/
def Core.matSave (k : Core) (c : Nat) : List Byte :=
  let old := if k.matBlk.length = 320 then k.matBlk else zeros 320
  if k.mat.owner = k.run ∧ k.run ≠ none then
    let tv := nbits (ofBytesLE (old.take 4)) 30 1
    wordsLE [2 ^ 31 + tv * 2 ^ 30 + c] ++ zeros 252 ++ old.drop 256
  else old

/-- Bytes 0x0000 to 0x354F of the save area (R307 to R309). The END of a loop counter that has none, never armed or
with a body past the end of the route, is written as 0xFFFFFFFF (log 69). -/
def Core.saveBytes (k : Core) (c cix pix : Nat) : List Byte :=
  let r := k.regs
  let x := k.ctl
  let recs := if k.seq.recs.length ≤ 16 then k.seq.recs else []
  let head := wordsLE [1, cix, k.seq.pser.toNat, pix, x.fpm.toNat, x.fpf.toNat, x.trcWord.toNat,
    x.trb.toNat, x.trm.toNat, x.tra.toNat, x.hndl.toNat, x.bvn.toNat, x.maxp.toNat,
    (if (r.lc[0]).armed then 1 else 0) + (if (r.lc[1]).armed then 2 else 0), 0]
  let endRef (l : LoopCtr) : Nat := match l.stop with
    | some p => (posRef p).toNat
    | none => 0xFFFFFFFF
  let body :=
    wordsLE [(posRef (r.lc[0]).start).toNat, endRef r.lc[0], (posRef (r.lc[1]).start).toNat, endRef r.lc[1]] ++
    zeros 48 ++
    (r.s.toList.flatMap (fun e => bytesLE 4 e.val.toNat)) ++
    bytesLE 16 (r.s.toList.foldr (fun e acc => e.tag.toNat + 4 * acc) 0) ++
    bytesLE 16 (r.p.toList.foldr (fun e acc => e.tag.toNat + 4 * acc) 0) ++
    (r.mp.toList.flatMap (fun e => bytesLE 8 e.val.toNat)) ++
    wordsLE [r.mp.toList.foldr (fun e acc => e.tag.toNat + 4 * acc) 0 +
      2 ^ 16 * (r.lc[0]).tag.toNat + 2 ^ 18 * (r.lc[1]).tag.toNat] ++ zeros 60 ++
    ((r.m.toList.drop 1).flatMap (fun e => bytesLE 32 e.bits.toNat)) ++ zeros 32 ++
    ((r.m.toList.drop 1).flatMap (fun e => bytesLE 64 e.tags.toNat)) ++ zeros 64 ++
    (r.v.toList.flatMap (fun e => bytesLE 16 e.tags.toNat)) ++ zeros 64 ++
    (r.v.toList.flatMap (fun e => bytesLE 256 e.val.toNat)) ++
    k.matSave c ++
    wordsLE [recs.length, 0, 0, 0] ++
    (recs.flatMap PopRec.bytes) ++ zeros (272 * (16 - recs.length))
  head ++ wordsLE [(crc32c (head ++ body)).toNat] ++ body

/-- Does a copy of a save area hold the cairn's state? (R308, R310) -/
def saveOk (l : List Byte) (cix pser : Nat) : Bool :=
  let w (o : Nat) : Nat := ofBytesLE ((l.drop o).take 4)
  w 0 == 1 && w 4 == cix && w 8 % 65536 == pser &&
    w 0x3C == (crc32c (l.take 0x3C ++ l.drop 0x40)).toNat

/-- The core with the registers that a save area holds (R307, R310); predicates, loop-counter values
and the pitch entry come from the record (R55). -/
def Core.restore (k : Core) (l : List Byte) : Core :=
  let w (o : Nat) : Nat := ofBytesLE ((l.drop o).take 4)
  let n (o len : Nat) : Nat := ofBytesLE ((l.drop o).take len)
  let stags := n 0x160 16
  let ptags := n 0x170 16
  let mtags := w 0x1C0
  let stop (o : Nat) : Option Pos := if w o = 0xFFFFFFFF then none else some (refPos (.ofNat 32 (w o)))
  let r := k.regs
  let regs : Regs := { r with
    s := .ofFn (fun i => ⟨.ofNat 32 (w (0x80 + 4 * i.val)), .ofNat 2 (nbits stags (2 * i.val) 2)⟩)
    v := .ofFn (fun i => ⟨.ofNat 2048 (n (0x700 + 256 * i.val) 256), .ofNat 128 (n (0x500 + 16 * i.val) 16)⟩)
    p := .ofFn (fun i => ⟨(r.p[i]).val, .ofNat 2 (nbits ptags (2 * i.val) 2)⟩)
    m := .ofFn (fun i => if i.val = 0 then ⟨0, 0⟩
      else ⟨.ofNat 256 (n (0x200 + 32 * (i.val - 1)) 32), .ofNat 512 (n (0x300 + 64 * (i.val - 1)) 64)⟩)
    mp := .ofFn (fun i => ⟨.ofNat 64 (n (0x180 + 8 * i.val) 8), .ofNat 2 (nbits mtags (2 * i.val) 2)⟩)
    lc := .ofFn (fun i =>
      { (r.lc[i]) with
        tag := .ofNat 2 (nbits mtags (16 + 2 * i.val) 2)
        start := refPos (.ofNat 32 (w (0x40 + 8 * i.val)))
        stop := stop (0x44 + 8 * i.val)
        armed := nbit (w 0x34) i.val }) }
  let ctl : Ctl := { k.ctl with
    fpm := .ofNat 3 (w 0x10)
    fpf := .ofNat 5 (w 0x14)
    hm := nbit (w 0x18) 31
    trc := .ofNat 16 (w 0x18)
    trb := .ofNat 32 (w 0x1C)
    trm := .ofNat 8 (w 0x20)
    tra := .ofNat 32 (w 0x24)
    hndl := .ofNat 32 (w 0x28)
    bvn := .ofNat 8 (w 0x2C)
    maxp := .ofNat 32 (w 0x30) }
  { k with
    regs := regs
    ctl := ctl
    seq := { k.seq with
      pix := nbits (w 0xC) 0 17
      recs := (List.range (Nat.min 16 (w 0x2440))).map (fun e => PopRec.ofBytes ((l.drop (0x2450 + 272 * e)).take 272)) }
    matBlk := (l.drop 0x2300).take 320 }

/-- The spans that a suspension writes: save area, then record (R309). -/
def Kernel.saveSpans (k : Kernel) (q : Cairn) : List (Nat × Nat × Nat) :=
  [(q.save, 2, 0x3550), (k.recVa q.ix, 2, 64)]

/-- The record of the running cairn as its core would write it now (R51, R52, R55). -/
def Core.recordNow (k : Core) (st : CState) : BitVec 512 :=
  let preds := (List.range 8).foldl (fun a i => a + (if (i = 0 ∨ (k.regs.p[i]?.getD ⟨false, 0⟩).val) then 2 ^ i else 0)) 0
  let r := recPut k.recd 0 64 (posAddr k.ctl.pent)
  let r := recPut r 64 64 (posAddr k.ctl.pent)
  let r := recPut r 256 3 st.code
  let r := recPut r 261 2 0
  let r := recPut r (288 + 27) 2 k.ctl.ropeW.toNat
  let r := recPut r 320 32 (preds + 65536 * k.seq.pser.toNat)
  let r := recPut r 352 32 (k.regs.lc[0]).cnt.toNat
  let r := recPut r 384 32 (k.regs.lc[1]).cnt.toNat
  recPut r 416 32 0xFFFFFFFF

/-- A core without a cairn from this cycle on: nothing in flight, nothing held (R54), the cycles of a hold counted
(R204); a quarantine that was requested takes effect (R297). -/
def Core.idle (now : Nat) (k : Core) : Core :=
  { k.release now with
    run := none
    pend := []
    margin := { k.margin with quar := k.margin.quar || k.margin.pend, pend := false }
    seq := { Seq.zero with half0 := k.seq.half0, half1 := k.seq.half1, pos := k.seq.pos, holdSince := now } }

/-- The running cairn of core c is written back in state st, its record changed by f, and the core is
freed (R54, R55, R309). The spans have been opened. -/
def State.writeBack (s : State) (c : Nat) (st : CState) (pix : Nat) (f : BitVec 512 → BitVec 512) : State :=
  match s.running c with
  | none => s.updCore c (Core.idle s.cycle)
  | some (k, q) =>
    let core := s.core c
    let s1 := s.vwrite (k.req q.save 2 c) (core.saveBytes c q.ix pix)
    let r := f (core.recordNow st)
    let s2 := s1.recWrite k q.ix r
    (s2.updCairn k.kid q.ix (fun q => { q with
      st := st, ropew := core.ctl.ropeW.toNat, lcLast := core.regs.lcLast })).updCore c (Core.idle s.cycle)

/-! ### Failing kernels (R411, R412) -/

/-- Base capacity of a FIFO (R339, R368, R388, R391). -/
def fifoBase (q : Nat) : Nat :=
  if q < 8 then 8 else if q = 8 then 4 else if q = 9 then 128 else if q = 10 then 16
  else if q < 32 then 4 else 8

/-- A FIFO with other elements: when its occupancy falls to base its loans return to the vat (R365). -/
def Fifo.set (f : Fifo) (q : Nat) (els : List Elem) : Fifo :=
  if els.length ≤ fifoBase q ∧ els.length < f.els.length then ⟨els, 0⟩ else { f with els := els }

/-- Requests that a kernel's end leaves without what they were made for: of its cairns' cores, of elements that are
discarded, of its sweeps and of the command processor for it (R340, R412, R428). -/
def State.waitsFor (s : State) (kid : Word) (w : Requester) : Bool :=
  let runs (c : Nat) : Bool := (s.core c).run.any (fun e => e.1 == kid)
  match w with
  | .code c => runs c
  | .record c => runs c
  | .acc c => ((s.core c).fifos[32]).els.head?.any (fun e => e.kid == kid)
  | .sweepCard c => (s.core c).subs.head?.any (fun e => e.kid == kid)
  | .sweep k _ _ => k == kid
  | .landing _ k _ => k == kid
  | .kernel k => k == kid
  | _ => false

/-- What a completing or failing kernel takes with it (R62, R340, R380, R412). -/
def State.discard (s0 : State) (kid : Word) : State :=
  let s := s0.dropWaits (s0.waitsFor kid)
  let keep (l : List Elem) : List Elem := l.filter (fun e => e.kid != kid)
  let cores := s.cores.map (fun k => { k with
    fifos := k.fifos.mapIdx (fun q f => f.set q (keep f.els))
    routes := k.routes.map (fun r => match r with
      | some q => if q.kid == kid then none else some q
      | none => none)
    skids := k.skids.map (fun l => l.filter (fun e => e.2.kid != kid))
    subs := keep k.subs
    subCard := if k.subs.head?.any (fun e => e.kid == kid) then none else k.subCard
    lands := k.lands.map (fun b => if b.kid == kid then ⟨0, 0, 0⟩ else b)
    slots := k.slots.map (fun q => match q with
      | some x => if x.kid == kid then none else some x
      | none => none) })
  { s with
    cores := cores
    clusters := s.clusters.map (fun cl => { cl with streams := cl.streams.map (fun l => l.filter (fun e => e.1 != kid)) })
    seen := s.seen.filter (fun e => e.kid != kid)
    sweeps := s.sweeps.filter (fun e => e.kid != kid) }

/-- KERNEL_FAILURE (R411, R412): the first outcome stands; READY and PARKED cairns leave the queues,
running ones stop, and the kernel's sweeps, elements and routes are discarded. -/
def State.failKernel (s : State) (kid : Word) (outcome : Word) : State :=
  match s.kernel kid with
  | none => s
  | some k =>
    if k.outcome ≠ none then s
    else
      let s1 := (s.dropWaits (s.waitsFor kid)).updKernel kid (fun k => { k with outcome := some outcome })
      let s2 : State := { s1 with
        clusters := s1.clusters.map (fun cl => { cl with runq := cl.runq.filter (fun e => e.1 != kid) })
        monitors := s1.monitors.filter (fun m => m.kid != kid)
        cores := s1.cores.map (fun (k : Core) => match k.run with
          | some e => if e.1 == kid then k.idle s.cycle else k
          | none => k) }
      s2.discard kid

/-- The status of a trap code without handler (R411). -/
def trapStatus (code : Nat) : Word := .ofNat 32 (0x10000 + code)

def outNoSchedule : Word := 1
def outBadCairn : Word := 2
def outCodeFault : Word := 3
def outContextLost : Word := 4
def outDoubleFault : Word := 5
def outAborted : Word := 6
def outBadLaunch : Word := 7

/-- The cairn becomes LOST and its kernel completes with CONTEXT_LOST (R54, R309, R310). -/
def State.loseCairn (s : State) (kid : Word) (ix : Nat) : State :=
  match s.kernel kid with
  | none => s
  | some k =>
    let s1 := s.recWrite k ix (recPut (s.recHeld k ix) 256 3 5)
    (s1.updCairn kid ix (fun q => { q with st := .lost })).failKernel kid outContextLost

end Sys2Proof.Machine
end

