-- ==== Sys2Proof/Machine/Float.lean ====
section
/-!
DEFINITION. Number formats, the one rounding function, flags, comparisons, conversions and the
special functions (R137 to R163, R281 to R288). Values are exact: a sign, a natural mantissa and an
integer exponent.
-/
namespace Sys2Proof.Machine

/-- A floating-point value (R138): NaN, an infinity, or (-1)^neg * m * 2^e. -/
inductive Fp where
  | nan
  | inf (neg : Bool)
  | fin (neg : Bool) (m : Nat) (e : Int)
  deriving DecidableEq, Repr

/-- The three ways a format uses its top codes (R138). -/
inductive TopCodes where
  | ieee
  | e4m3
  | none
  deriving DecidableEq, Repr

/-- A format: exponent bits, fraction bits, bias and top codes (R138). -/
structure Fmt where
  ebits : Nat
  fbits : Nat
  bias : Nat
  top : TopCodes
  deriving DecidableEq, Repr

def fp32 : Fmt := ⟨8, 23, 127, .ieee⟩
def fp16 : Fmt := ⟨5, 10, 15, .ieee⟩
def bf16 : Fmt := ⟨8, 7, 127, .ieee⟩
def e4m3 : Fmt := ⟨4, 3, 7, .e4m3⟩
def e5m2 : Fmt := ⟨5, 2, 15, .ieee⟩
def e2m1 : Fmt := ⟨2, 1, 1, .none⟩

/-- The smallest normal exponent. -/
def Fmt.emin (f : Fmt) : Int := 1 - f.bias
/-- The exponent of the last place of subnormals. -/
def Fmt.qmin (f : Fmt) : Int := f.emin - f.fbits
/-- The encoding of the largest finite value (R138). -/
def Fmt.maxBits (f : Fmt) : Nat :=
  match f.top with
  | .ieee => (2 ^ f.ebits - 1) * 2 ^ f.fbits - 1
  | .e4m3 => 2 ^ (f.ebits + f.fbits) - 2
  | .none => 2 ^ (f.ebits + f.fbits) - 1
/-- The canonical NaN (R138); E2M1 has none and delivers +0 (R151). -/
def Fmt.nanBits (f : Fmt) : Nat :=
  match f.top with
  | .ieee => (2 ^ f.ebits - 1) * 2 ^ f.fbits + 2 ^ (f.fbits - 1)
  | .e4m3 => 2 ^ (f.ebits + f.fbits) - 1
  | .none => 0
/-- The infinity code of a format that has one. -/
def Fmt.infBits (f : Fmt) : Nat := (2 ^ f.ebits - 1) * 2 ^ f.fbits
/-- The sign bit in place. -/
def Fmt.signed (f : Fmt) (neg : Bool) (mag : Nat) : Nat :=
  if neg then 2 ^ (f.ebits + f.fbits) + mag else mag

/-- The value of a code (R138). -/
def Fmt.decode (f : Fmt) (x : Nat) : Fp :=
  let neg := nbit x (f.ebits + f.fbits)
  let ex := nbits x f.fbits f.ebits
  let m := nbits x 0 f.fbits
  if f.top = .ieee ∧ ex = 2 ^ f.ebits - 1 then (if m = 0 then .inf neg else .nan)
  else if f.top = .e4m3 ∧ ex = 15 ∧ m = 7 then .nan
  else if ex = 0 then .fin neg m f.qmin
  else .fin neg (2 ^ f.fbits + m) (ex - f.bias - f.fbits)

/-- A result and the flags NV DZ OF UF NX it raises, as in FPF (R156). -/
structure FRes where
  bits : Nat
  flags : BitVec 5
  deriving DecidableEq, Repr

def flagNV : BitVec 5 := 16
def flagDZ : BitVec 5 := 8
def flagOF : BitVec 5 := 4
def flagUF : BitVec 5 := 2
def flagNX : BitVec 5 := 1

/-- Rounding modes by code (R104, R146): 0 RNE 1 RTZ 2 RDN 3 RUP 4 RNA 5 RTO 6 SR. `rem` of `2^d`
is dropped below the integer `t`; `r` is the random word of R147. -/
def roundUp (mode : Nat) (neg : Bool) (t rem d r : Nat) : Bool :=
  if rem = 0 then false else
  match mode with
  | 0 => decide (2 ^ d < 2 * rem) || (decide (2 * rem = 2 ^ d) && decide (t % 2 = 1))
  | 1 => false
  | 2 => neg
  | 3 => !neg
  | 4 => decide (2 ^ d ≤ 2 * rem)
  | 5 => decide (t % 2 = 0)
  | 6 => decide (2 ^ 16 ≤ rem * 2 ^ 16 / 2 ^ d + r % 2 ^ 16)
  | _ => decide (2 ^ d < 2 * rem) || (decide (2 * rem = 2 ^ d) && decide (t % 2 = 1))

/-- m * 2^e in units of 2^q: the rounded count and whether anything was dropped (R146). -/
def roundAt (mode : Nat) (neg : Bool) (m : Nat) (e q : Int) (r : Nat) : Nat × Bool :=
  if q ≤ e then (m * 2 ^ (e - q).toNat, false)
  else
    let d := (q - e).toNat
    let t := m / 2 ^ d
    let rem := m % 2 ^ d
    (if roundUp mode neg t rem d r then t + 1 else t, decide (rem ≠ 0))

/-- The result of an overflow (R149). -/
def overflowBits (f : Fmt) (sat : Bool) (mode : Nat) (neg : Bool) : Nat :=
  let big := match f.top with
    | .ieee => f.signed neg f.infBits
    | .e4m3 => f.nanBits
    | .none => f.signed neg f.maxBits
  let max := f.signed neg f.maxBits
  if sat || f.top == .none then max
  else if mode = 1 || mode = 5 then max
  else if mode = 2 then (if neg then big else max)
  else if mode = 3 then (if neg then max else big)
  else big

/-- `rnd` on an exact finite value (R13, R146 to R150). -/
def roundFin (f : Fmt) (sat : Bool) (mode : Nat) (r : Nat) (neg : Bool) (m : Nat) (e : Int) : FRes :=
  if m = 0 then ⟨f.signed neg 0, 0⟩
  else
    let ex : Int := e + Nat.log2 m
    let q := max (ex - f.fbits) f.qmin
    let (mag, inexact) := roundAt mode neg m e q r
    let code := (q - f.qmin).toNat * 2 ^ f.fbits + mag
    if f.maxBits < code then ⟨overflowBits f sat mode neg, flagOF ||| flagNX⟩
    else
      let (mag', _) := roundAt mode neg m e (ex - f.fbits) r
      -- tiny after rounding with the exponent unbounded below (R150)
      let tiny := decide (ex + 1 < f.emin ∨ (ex < f.emin ∧ mag' < 2 ^ (f.fbits + 1)))
      ⟨f.signed neg code,
        if inexact then (if tiny then flagUF ||| flagNX else flagNX) else 0⟩

/-- `rnd` on any exact value; `nv` when the operation that formed a NaN was invalid
(R141, R149, R151, R154). -/
def deliver (f : Fmt) (sat : Bool) (mode r : Nat) (nv : Bool) : Fp → FRes
  | .nan => ⟨f.nanBits, if nv || f.top == .none then flagNV else 0⟩
  | .inf neg =>
    match f.top with
    | .ieee => if sat then ⟨f.signed neg f.maxBits, flagNV⟩ else ⟨f.signed neg f.infBits, 0⟩
    | .e4m3 => if sat then ⟨f.signed neg f.maxBits, flagNV⟩ else ⟨f.nanBits, flagNV⟩
    | .none => ⟨f.signed neg f.maxBits, flagNV⟩
  | .fin neg m e => roundFin f sat mode r neg m e

/-- The exact negation. -/
def Fp.neg : Fp → Fp
  | .nan => .nan
  | .inf s => .inf (!s)
  | .fin s m e => .fin (!s) m e

def Fp.isNaN : Fp → Bool
  | .nan => true
  | _ => false
def Fp.isInf : Fp → Bool
  | .inf _ => true
  | _ => false
def Fp.isZero : Fp → Bool
  | .fin _ 0 _ => true
  | _ => false
def Fp.sign : Fp → Bool
  | .nan => false
  | .inf s => s
  | .fin s _ _ => s
/-- The integer mantissa in units of 2^q, for q at most the exponent. -/
def Fp.scaled (q : Int) : Fp → Int
  | .fin s m e => (if s then -1 else 1) * (m : Int) * 2 ^ (e - q).toNat
  | _ => 0
def Fp.expo : Fp → Int
  | .fin _ _ e => e
  | _ => 0

/-- The exact product, and whether it is 0 * inf (R154). -/
def Fp.mul : Fp → Fp → Fp × Bool
  | .nan, _ => (.nan, false)
  | _, .nan => (.nan, false)
  | .inf s, .inf t => (.inf (s ^^ t), false)
  | .inf s, .fin t m _ => if m = 0 then (.nan, true) else (.inf (s ^^ t), false)
  | .fin s m _, .inf t => if m = 0 then (.nan, true) else (.inf (s ^^ t), false)
  | .fin s m e, .fin t n k => (.fin (s ^^ t) (m * n) (e + k), false)

/-- The exact sum of terms, and whether it is inf - inf; an exact zero takes the terms' common sign,
else +0, else -0 under RDN (R148, R154). -/
def Fp.sum (mode : Nat) (l : List Fp) : Fp × Bool :=
  if l.any Fp.isNaN then (.nan, false)
  else if l.any Fp.isInf then
    let infs := l.filter Fp.isInf
    if infs.any Fp.sign && infs.any (fun x => !x.sign) then (.nan, true)
    else (.inf (infs.any Fp.sign), false)
  else
    let q := l.foldl (fun q x => if x.expo < q then x.expo else q) ((l.map Fp.expo).headD 0)
    let t : Int := l.foldl (fun t x => t + x.scaled q) 0
    if t = 0 then
      let neg := if l.all Fp.sign then true else if l.all (fun x => !x.sign) then false else mode == 2
      (.fin neg 0 0, false)
    else (.fin (decide (t < 0)) t.natAbs q, false)

/-- a + b under a mode (R148). -/
def fpAdd (f : Fmt) (mode r a b : Nat) : FRes :=
  let (x, nv) := Fp.sum mode [f.decode a, f.decode b]
  deliver f false mode r nv x
/-- a - b. -/
def fpSub (f : Fmt) (mode r a b : Nat) : FRes :=
  let (x, nv) := Fp.sum mode [f.decode a, (f.decode b).neg]
  deliver f false mode r nv x
/-- a * b. -/
def fpMul (f : Fmt) (mode r a b : Nat) : FRes :=
  let (x, nv) := (f.decode a).mul (f.decode b)
  deliver f false mode r nv x

/-- The exact sum of products and an addend; invalid only when no operand is NaN (R141, R148). -/
def Fp.dot (mode : Nat) (ps : List (Fp × Fp)) (d : Fp) : Fp × Bool :=
  if d.isNaN || ps.any (fun p => p.1.isNaN || p.2.isNaN) then (.nan, false)
  else
    let prods := ps.map (fun p => p.1.mul p.2)
    if prods.any (·.2) then (.nan, true) else Fp.sum mode (prods.map (·.1) ++ [d])

/-- a * b + d rounded once (R148). -/
def fpFma (f : Fmt) (mode r a b d : Nat) : FRes :=
  let (x, nv) := Fp.dot mode [(f.decode a, f.decode b)] (f.decode d)
  deliver f false mode r nv x

/-- Order of two values that are not NaN, -0 and +0 equal (R153). -/
def Fp.lt (a b : Fp) : Bool :=
  match a, b with
  | .nan, _ => false
  | _, .nan => false
  | .inf s, .inf t => s && !t
  | .inf s, .fin _ _ _ => s
  | .fin _ _ _, .inf t => !t
  | .fin _ _ e, .fin _ _ k => let q := min e k; decide (a.scaled q < b.scaled q)
def Fp.eq (a b : Fp) : Bool := !a.isNaN && !b.isNaN && !a.lt b && !b.lt a

/-- Comparisons 0 eq, 1 lt, 2 le, 3 un, with their flag (R153). -/
def fpCmp (op : Nat) (a b : Nat) : Bool × BitVec 5 :=
  let x := fp32.decode a
  let y := fp32.decode b
  let un := x.isNaN || y.isNaN
  match op with
  | 0 => (x.eq y, 0)
  | 1 => (x.lt y, if un then flagNV else 0)
  | 2 => (x.lt y || x.eq y, if un then flagNV else 0)
  | _ => (un, 0)

/-- Minimum and maximum (R153): -0 below +0, a single NaN gives the other operand. -/
def fpMinMax (isMax : Bool) (a b : Nat) : Nat :=
  let x := fp32.decode a
  let y := fp32.decode b
  if x.isNaN && y.isNaN then fp32.nanBits
  else if x.isNaN then b
  else if y.isNaN then a
  else
    let below := x.lt y || (x.eq y && x.sign && !y.sign)
    if below == isMax then b else a

/-- Clearing (`abs`) or inverting the sign bit; a NaN gives the canonical NaN (R196, R271). -/
def fpAbs (a : Nat) : Nat := if (fp32.decode a).isNaN then fp32.nanBits else a % 2 ^ 31
def fpNeg (a : Nat) : Nat :=
  if (fp32.decode a).isNaN then fp32.nanBits else if nbit a 31 then a - 2 ^ 31 else a + 2 ^ 31

/-- FP32 to an integer of the given limits (R152); the integer result. -/
def fpToInt (lo hi : Int) (mode r a : Nat) : Int × BitVec 5 :=
  match fp32.decode a with
  | .nan => (0, flagNV)
  | .inf s => (if s then lo else hi, flagNV)
  | .fin s m e =>
    let (mag, inexact) := roundAt mode s m e 0 r
    let v : Int := if s then -(mag : Int) else mag
    if v < lo then (lo, flagNV) else if hi < v then (hi, flagNV)
    else (v, if inexact then flagNX else 0)

/-- An integer to FP32 (R152). -/
def intToFp (mode r : Nat) (v : Int) : FRes := roundFin fp32 false mode r (decide (v < 0)) v.natAbs 0

/-- A conversion between formats (R146, R149, R151). -/
def fpCvt (src dst : Fmt) (sat : Bool) (mode r a : Nat) : FRes :=
  deliver dst sat mode r false (src.decode a)

/-- FP32 class word (R198). -/
def fpClass (a : Nat) : Nat :=
  match fp32.decode a with
  | .nan => if nbit a 22 then 512 else 256
  | .inf s => if s then 1 else 128
  | .fin s m _ =>
    if m = 0 then (if s then 8 else 16)
    else if m < 2 ^ 23 then (if s then 4 else 32)
    else if s then 2 else 64

/-- x * 2^k rounded (R280). -/
def fpScalb (mode r a : Nat) (k : Int) : FRes :=
  match fp32.decode a with
  | .fin s m e => roundFin fp32 false mode r s m (e + k)
  | x => deliver fp32 false mode r false x

/-- The widening of an MX element with scale X (R143, R145). -/
def mxWiden (elt dst : Fmt) (scale x : Nat) : Nat :=
  if scale = 255 then dst.nanBits
  else match elt.decode x with
    | .fin s m e => (roundFin dst false 0 0 s m (e + scale - 127)).bits
    | _ => dst.nanBits

/-- rne(2^(j/64) * 2^31) (R283). -/
def tabT : List Nat :=
  [0x80000000, 0x8164D1F4, 0x82CD8699, 0x843A28C4, 0x85AAC368, 0x871F6197, 0x88980E81, 0x8A14D575] ++
  [0x8B95C1E4, 0x8D1ADF5B, 0x8EA4398B, 0x9031DC43, 0x91C3D374, 0x935A2B2F, 0x94F4EFA9, 0x96942D37] ++
  [0x9837F052, 0x99E04593, 0x9B8D39BA, 0x9D3ED9A7, 0x9EF53261, 0xA0B05110, 0xA2704303, 0xA43515AE] ++
  [0xA5FED6AA, 0xA7CD93B5, 0xA9A15AB5, 0xAB7A39B6, 0xAD583EEA, 0xAF3B78AD, 0xB123F582, 0xB311C413] ++
  [0xB504F334, 0xB6FD91E3, 0xB8FBAF47, 0xBAFF5AB2, 0xBD08A39F, 0xBF1799B6, 0xC12C4CCA, 0xC346CCDA] ++
  [0xC5672A11, 0xC78D74C9, 0xC9B9BD86, 0xCBEC14FF, 0xCE248C15, 0xD06333DB, 0xD2A81D92, 0xD4F35AAC] ++
  [0xD744FCCB, 0xD99D15C2, 0xDBFBB798, 0xDE60F482, 0xE0CCDEEC, 0xE33F8973, 0xE5B906E7, 0xE8396A50] ++
  [0xEAC0C6E8, 0xED4F301F, 0xEFE4B99C, 0xF281773C, 0xF5257D15, 0xF7D0DF73, 0xFA83B2DB, 0xFD3E0C0D]

/-- rne(log2(1 + j/64) * 2^32) (R283). -/
def tabL : List Nat :=
  [0x0, 0x5B9E5A1, 0xB5D69BB, 0x10EB38A0, 0x1663F6FB, 0x1BC84241, 0x2118B11A, 0x2655D3C5] ++
  [0x2B803474, 0x309857A0, 0x359EBC5B, 0x3A93DC98, 0x3F782D72, 0x444C1F6B, 0x49101EAC, 0x4DC4933B] ++
  [0x5269E12F, 0x570068E8, 0x5B888736, 0x6002958C, 0x646EEA24, 0x68CDD82A, 0x6D1FAFDD, 0x7164BEB5] ++
  [0x759D4F81, 0x79C9AA88, 0x7DEA15A3, 0x81FED45D, 0x86082807, 0x8A064FD5, 0x8DF988F5, 0x91E20EA1] ++
  [0x95C01A3A, 0x9993E356, 0x9D5D9FD5, 0xA11D83F5, 0xA4D3C25E, 0xA8808C38, 0xAC241135, 0xAFBE7FA1] ++
  [0xB3500472, 0xB6D8CB54, 0xBA58FEB2, 0xBDD0C7CA, 0xC1404EAE, 0xC4A7BA58, 0xC80730B0, 0xCB5ED695] ++
  [0xCEAECFEB, 0xD1F73F9C, 0xD53847AC, 0xD8720936, 0xDBA4A47B, 0xDED038E6, 0xE1F4E517, 0xE512C6E5] ++
  [0xE829FB69, 0xEB3A9F02, 0xEE44CD5A, 0xF148A170, 0xF446359B, 0xF73DA38E, 0xFA2F045E, 0xFD1A708C]

/-- rne(2^31 / sqrt c_j) (R283). -/
def tabQ : List Nat :=
  [0x80000000, 0x7E0BB221, 0x7C2DA123, 0x7A64336B, 0x78ADF778, 0x77099EFB, 0x7575FAA4, 0x73F1F68D] ++
  [0x727C9717, 0x7114F644, 0x6FBA415C, 0x6E6BB6E9, 0x6D28A4F0, 0x6BF06762, 0x6AC266BA, 0x699E16D0] ++
  [0x6882F5C0, 0x67708AF9, 0x66666666, 0x65641FAE, 0x64695585, 0x6375AD16, 0x6288D173, 0x61A27320] ++
  [0x60C2479B, 0x5FE808FC, 0x5F137599, 0x5E444FAF, 0x5D7A5D1B, 0x5CB56711, 0x5BF539E5, 0x5B39A4C7] ++
  [0x5A82799A, 0x5920B4DF, 0x57CEA99D, 0x568B3632, 0x55555555, 0x542C1AA4, 0x530EAFA5, 0x51FC5140] ++
  [0x50F44D89, 0x4FF601E0, 0x4F00D944, 0x4E144AE9, 0x4D2FD8F4, 0x4C530F65, 0x4B7D8317, 0x4AAED0F0] ++
  [0x49E69D16, 0x49249249, 0x48686148, 0x47B1C049, 0x47006A81, 0x46541FB4, 0x45ACA3D5, 0x4509BEB0] ++
  [0x446B3B96, 0x43D0E917, 0x433A98C6, 0x42A81EF6, 0x4219528B, 0x418E0CC8, 0x41062920, 0x40818512]

/-- rne(2^31 / (1 + j/64)) (R283). -/
def tabR (j : Nat) : Nat := (2 * (2 ^ 37) + (64 + j)) / (2 * (64 + j))
/-- C1 to C3, times 2^32 (R283). -/
def constC : List Int := [2977044472, 1031764991, 238388332]
/-- D1 to D4, times 2^32 (R283). -/
def constD : List Int := [6196328019, -3098164009, 2065442673, -1549082005]

/-- n / 2^k rounded to the nearest multiple of 2^-48, ties to even, in units of 2^-48 (R281). -/
def grid (n : Int) (k : Nat) : Int :=
  if k ≤ 48 then n * 2 ^ (48 - k)
  else
    let d := k - 48
    let t := n / 2 ^ d
    let rem := n % 2 ^ d
    if 2 ^ d < 2 * rem ∨ (2 * rem = 2 ^ d ∧ t % 2 = 1) then t + 1 else t

/-- `vexp2` on a finite value (R284): sign, mantissa and exponent of the exact y. -/
def exp2Exact (s : Bool) (m : Nat) (e : Int) : Nat × Int :=
  let k := (-e).toNat
  let x : Int := (if s then -1 else 1) * (m : Int) * 2 ^ e.toNat
  if (128 : Int) * 2 ^ k ≤ x then (1, 128)
  else if x < (-152 : Int) * 2 ^ k then (1, -153)
  else
    let n := (128 * x + 2 ^ k) / 2 ^ (k + 1)
    let j := (n % 64).toNat
    let ex := (n - j) / 64
    let rho := 64 * x - n * 2 ^ k
    let c (i : Nat) : Int := constC.getD i 0 * 2 ^ 16
    let p3 := grid (rho * constC.getD 2 0) (k + 6 + 32)
    let p2 := grid (rho * (c 1 + p3)) (k + 6 + 48)
    let p := grid (rho * (c 0 + p2)) (k + 6 + 48)
    ((grid ((tabT.getD j 0 : Int) * (2 ^ 48 + p)) 79).toNat, ex - 48)

/-- The 24-bit mantissa and the exponent k of a positive finite value m * 2^e = 2^k * f (R281). -/
def normalise (m : Nat) (e : Int) : Nat × Int :=
  let b := Nat.log2 m
  (m * 2 ^ (23 - b), e + b)

/-- `vlog2` on a finite positive value (R285), in units of 2^-48. -/
def log2Exact (m : Nat) (e : Int) : Int :=
  let (f, k) := normalise m e
  let j := (f - 2 ^ 23) / 2 ^ 17
  let u := grid (((f : Int) - 2 ^ 23 - j * 2 ^ 17) * tabR j) 54
  let d (i : Nat) : Int := constD.getD i 0 * 2 ^ 16
  let p4 := grid (u * constD.getD 3 0) 80
  let p3 := grid (u * (d 2 + p4)) 96
  let p2 := grid (u * (d 1 + p3)) 96
  let p := grid (u * (d 0 + p2)) 96
  k * 2 ^ 48 + (tabL.getD j 0 : Int) * 2 ^ 16 + p

/-- `vrcp` on a finite nonzero magnitude (R286): mantissa and exponent. -/
def rcpExact (m : Nat) (e : Int) : Nat × Int :=
  let (f, k) := normalise m e
  let j := (f - 2 ^ 23) / 2 ^ 17
  let r0 : Int := tabR j
  let eps : Int := 2 ^ 54 - f * r0
  let s1 := grid (eps * (2 ^ 54 + eps)) 108
  let s2 := grid (eps * (2 ^ 48 + s1)) 102
  let s := grid (eps * (2 ^ 48 + s2)) 102
  ((grid (r0 * (2 ^ 48 + s)) 79).toNat, -k - 48)

/-- `vrsqrt` on a finite positive value (R287): mantissa and exponent. -/
def rsqrtExact (m : Nat) (e : Int) : Nat × Int :=
  let (f, k) := normalise m e
  let h := k / 2
  let g := f * 2 ^ (k % 2).toNat
  let j := if g < 2 ^ 24 then (g - 2 ^ 23) / 2 ^ 18 else 32 + (g - 2 ^ 24) / 2 ^ 19
  let r0 : Int := tabQ.getD j 0
  let eps : Int := 2 ^ 85 - g * r0 * r0
  let a (n : Int) (sh : Nat) : Int := n * 2 ^ (48 - sh)
  let s5 := grid (eps * 63) (85 + 8)
  let s4 := grid (eps * (a 35 7 + s5)) (85 + 48)
  let s3 := grid (eps * (a 5 4 + s4)) (85 + 48)
  let s2 := grid (eps * (a 3 3 + s3)) (85 + 48)
  let s := grid (eps * (a 1 1 + s2)) (85 + 48)
  ((grid (r0 * (2 ^ 48 + s)) 79).toNat, -h - 48)

/-- The integer square root of n, bit by bit from bit k-1 down. -/
def isqrt (n : Nat) : Nat → Nat → Nat
  | 0, r => r
  | k + 1, r => isqrt n k (if (r + 2 ^ k) * (r + 2 ^ k) ≤ n then r + 2 ^ k else r)

/-- `vsqrt` on a finite positive value (R288): the root to 64 bits with the remainder folded into one
more bit, so that every mode rounds the exact root. -/
def sqrtExact (m : Nat) (e : Int) : Nat × Int :=
  let (f, k) := normalise m e
  let h := k / 2
  let g := f * 2 ^ (k % 2).toNat
  -- root of g * 2^-23 to 2^-62
  let n := g * 2 ^ 101
  let r := isqrt n 64 0
  (2 * r + (if r * r = n then 0 else 1), h - 63)

/-- The special functions 0 exp2, 1 log2, 2 rcp, 3 rsqrt, 4 sqrt with R282's special inputs. -/
def fpSpecial (fn mode r a : Nat) : FRes :=
  let x := fp32.decode a
  let nan (fl : BitVec 5) : FRes := ⟨fp32.nanBits, fl⟩
  let inf (s : Bool) (fl : BitVec 5) : FRes := ⟨fp32.signed s fp32.infBits, fl⟩
  let zero (s : Bool) : FRes := ⟨fp32.signed s 0, 0⟩
  match x with
  | .nan => nan 0
  | .inf s =>
    match fn with
    | 0 => if s then zero false else inf false 0
    | 2 => zero s
    | 3 => if s then nan flagNV else zero false
    | _ => if s then nan flagNV else inf false 0
  | .fin s m e =>
    if m = 0 then
      match fn with
      | 0 => ⟨0x3F800000, 0⟩
      | 1 => inf true flagDZ
      | 4 => zero s
      | _ => inf s flagDZ
    else
      match fn with
      | 0 => let (y, k) := exp2Exact s m e; roundFin fp32 false mode r false y k
      | 2 => let (y, k) := rcpExact m e; roundFin fp32 false mode r s y k
      | 1 =>
        if s then nan flagNV
        else let y := log2Exact m e; roundFin fp32 false mode r (decide (y < 0)) y.natAbs (-48)
      | 3 => if s then nan flagNV
        else let (y, k) := rsqrtExact m e; roundFin fp32 false mode r false y k
      | _ => if s then nan flagNV
        else let (y, k) := sqrtExact m e; roundFin fp32 false mode r false y k

end Sys2Proof.Machine
end

