-- ==== Sys2Proof/Machine/Operands.lean ====
section
/-!
DEFINITION. What a slot sees and what it answers: operand forms (R81 to R86), the source registers
counted by R60 and R96, results with their latencies (R98), traps, holds and flow.
-/
namespace Sys2Proof.Machine

/-- What one slot sees: the module at the start of the bundle, its core, the bundle's literal, and the
push index that the slot would carry (R62). -/
structure Ctx where
  s : State
  c : Nat
  lit : Word
  idx : Nat := 0

def Ctx.k (x : Ctx) : Core := x.s.core x.c
def Ctx.kid (x : Ctx) : Word := x.k.ctl.kid

/-- Trap codes (R113). -/
def trIllegalEncoding : Nat := 0x01
def trGroupDependence : Nat := 0x02
def trPoisonAddress : Nat := 0x03
def trPoisonStore : Nat := 0x04
def trPoisonBranch : Nat := 0x05
def trCheckMismatch : Nat := 0x06
def trNonuniformBranch : Nat := 0x07
def trRegionViolation : Nat := 0x08
def trUnconfiguredTile : Nat := 0x09
def trOperandFormat : Nat := 0x0A
def trEndOfRoute : Nat := 0x0B
def trIllegalCreg : Nat := 0x0C
def trTrapInstr : Nat := 0x0D
def trTimingHard : Nat := 0x0E
def trUncorrectable : Nat := 0x0F
def trPitchNotIdempotent : Nat := 0x10
def trVatExhausted : Nat := 0x11
def trRopeDivergence : Nat := 0x12
def trPreemptOverrun : Nat := 0x13
def trIllegalRoutine : Nat := 0x14

/-- A result on its way: latency, target, value. -/
structure Res where
  lat : Nat
  dst : RegId
  val : WVal
  deriving DecidableEq, Repr

/-- Where issue goes after the bundle (R101, R168, R172, R184). -/
inductive Flow where
  | seq
  /-- a taken branch with three delay slots -/
  | branch (t : Fetch)
  /-- a loop on counter n with count 0: no delay slots -/
  | skip (n : Nat) (t : Fetch)
  /-- a loop arms counter n -/
  | arm (n : Nat)
  | halt
  | park (a : Word) (v : Word) (tmo : Nat)
  /-- a `park` whose compare value is poisoned: it has no effect (R173) -/
  | noPark
  | yield
  | summit
  | rope (w : Nat)
  | unrope
  | tret
  | tretAt (t : Fetch)
  /-- holds the next position (R179) -/
  | drain (scope : Nat)
  deriving DecidableEq, Repr

/-- What a slot with a true guard answers. -/
inductive SlotRes where
  | trap (code : Nat) (tra : Word)
  | hold (h : Hold)
  /-- results, other effects at commit, flow -/
  | ok (rs : List Res) (f : State → State) (flow : Flow)

/-- A slot's answer with its registers read, its registers written and the ports its result reaches
(R60, R85, R96), whether it is a branch instruction or loop (R102), whether it carries a push index
(R62), whether it is a store, a committed-late effect or a matrix instruction (R70), and whether it is a
taken branch, be its reference poisoned or not (R101, R102). -/
structure SlotOut where
  reads : List RegId
  writes : List RegId
  ports : List RegId
  branch : Bool
  indexed : Bool
  effect : Bool
  res : SlotRes
  taken : Bool := false

/-- One slot operation: its slot, whether its encoding is legal, its guard, its meaning. -/
structure SlotOp where
  slot : Nat
  legal : Bool
  guard : BitVec 4
  /-- opcode 0: ignores its guard and does nothing (R79) -/
  isNop : Bool
  /-- stands only in a bundle with Q = 1 (R59) -/
  needsQ : Bool := false
  /-- stands only outside handler mode (false) or only in it (true) (R175) -/
  mode : Option Bool := none
  sem : Ctx → SlotOut

/-! ### Sources -/

/-- A scalar source (R81). -/
def Ctx.rs (x : Ctx) (a : BitVec 6) : SReg :=
  if a.toNat < 56 then (x.k.regs.s[a.toNat]?).getD .zero
  else if a.toNat < 62 then (x.k.regs.sPort[a.toNat - 56]?).getD .zero
  else if a.toNat = 62 then .zero
  else ⟨x.lit, 0⟩

/-- A vector source (R83). -/
def Ctx.rv (x : Ctx) (a : BitVec 5) : VReg :=
  if a.toNat < 28 then (x.k.regs.v[a.toNat]?).getD .zero
  else (x.k.regs.vPort[a.toNat - 28]?).getD .zero

/-- A predicate; p0 reads 1, clean (R80). -/
def Core.pred (k : Core) (n : Nat) : PReg :=
  if n = 0 then ⟨true, 0⟩ else (k.regs.p[n]?).getD ⟨false, 0⟩
def Ctx.rp (x : Ctx) (n : BitVec 3) : PReg := x.k.pred n.toNat

/-- A lane mask; m0 reads all ones, clean (R84). -/
def Core.mask (k : Core) (n : Nat) : MReg :=
  if n = 0 then ⟨BitVec.allOnes 256, 0⟩ else (k.regs.m[n]?).getD ⟨0, 0⟩
def Ctx.rm (x : Ctx) (n : Nat) : MReg := x.k.mask n

/-- The register that a scalar source names; none for zr and lit. -/
def idS (a : BitVec 6) : List RegId :=
  if a.toNat < 56 then [.s a.toNat] else if a.toNat < 62 then [.sPort (a.toNat - 56)] else []
def idV (a : BitVec 5) : List RegId :=
  if a.toNat < 28 then [.v a.toNat] else [.vPort (a.toNat - 28)]
def idP (n : Nat) : List RegId := if n = 0 then [] else [.p n]
def idM (n : Nat) : List RegId := if n = 0 then [] else [.m n]

/-- A scalar destination; none for code 63 (R82). -/
def dstS (d : BitVec 6) : List RegId := if d.toNat < 56 then [.s d.toNat] else []
def dstV (d : BitVec 5) : List RegId := if d.toNat < 28 then [.v d.toNat] else []

/-- A slot that traps. -/
def SlotRes.ofTrap (code : Nat) : SlotRes := .trap code 0

/-- A slot whose only effect is a scalar result of unit port u: register and port (R82, R85). -/
def scalarOut (port : Nat) (lat : Nat) (d : BitVec 6) (reads : List RegId) (v : SReg)
    (flags : BitVec 5 := 0) : SlotOut where
  reads := reads
  writes := dstS d
  ports := [.sPort port]
  branch := false
  indexed := false
  effect := false
  res := .ok
    ((dstS d).map (fun r => ⟨lat, r, .word v.val v.tag⟩) ++ [⟨lat, .sPort port, .word v.val v.tag⟩] ++
      (if flags = 0 then [] else [⟨lat, .fpf, .flags flags⟩]))
    id .seq

/-- A slot whose only effect is a predicate result (R84, R85). -/
def predOut (lat : Nat) (p : Nat) (reads : List RegId) (b : Bool) (t : Tag)
    (flags : BitVec 5 := 0) : SlotOut where
  reads := reads
  writes := idP p
  ports := []
  branch := false
  indexed := false
  effect := false
  res := .ok ([⟨lat, .p p, .bit b t⟩] ++ (if flags = 0 then [] else [⟨lat, .fpf, .flags flags⟩])) id .seq

/-- A slot whose only effect is a vector result with the byte lanes it writes (R83, R85, R249). -/
def vectorOut (port : Nat) (lat : Nat) (d : BitVec 5) (reads : List RegId)
    (val : Vec) (t : VTags) (en : Mask) (flags : BitVec 5 := 0) : SlotOut where
  reads := reads
  writes := dstV d
  ports := [.vPort port]
  branch := false
  indexed := false
  effect := false
  res := .ok
    ((dstV d).map (fun r => ⟨lat, r, .vec val t en⟩) ++ [⟨lat, .vPort port, .vec val t en⟩] ++
      (if flags = 0 then [] else [⟨lat, .fpf, .flags flags⟩]))
    id .seq

/-- A slot whose only effect is a mask result (R254). -/
def maskOut (lat : Nat) (d : Nat) (reads : List RegId) (val : Mask) (t : MTags) (en : Mask)
    (flags : BitVec 5 := 0) : SlotOut where
  reads := reads
  writes := idM d
  ports := []
  branch := false
  indexed := false
  effect := false
  res := .ok ([⟨lat, .m d, .mask val t en⟩] ++ (if flags = 0 then [] else [⟨lat, .fpf, .flags flags⟩]))
    id .seq

/-- A slot whose only effect is a result in a `k` register named by three bits (R85, R88). -/
def kOut (lat : Nat) (d : Nat) (reads : List RegId) (v : SReg) : SlotOut where
  reads := reads
  writes := [.s (48 + d)]
  ports := []
  branch := false
  indexed := false
  effect := false
  res := .ok [⟨lat, .s (48 + d), .word v.val v.tag⟩] id .seq

/-- A slot that does nothing (R79). -/
def nopOut : SlotOut := ⟨[], [], [], false, false, false, .ok [] id .seq, false⟩

/-- The rounding mode that a rounding field selects at this position (R104, R155): code 7 takes
FPM.RM, where 7 acts as RNE. -/
def Ctx.mode (x : Ctx) (rm : BitVec 3) : Nat :=
  if rm = 7 then (if x.k.ctl.fpm = 7 then 0 else x.k.ctl.fpm.toNat) else rm.toNat

end Sys2Proof.Machine
end

