-- ==== Sys2Proof/Machine/Vector.lean ====
section
/-!
DEFINITION. Slots 4 and 5: integer, mask, permute and reduction instructions (R247 to R266), and
floating-point, conversion, packing and special-function instructions (R267 to R288).
-/
namespace Sys2Proof.Machine

/-- The port of a vector unit (R83): v.q0 is port 0, w.q0 port 1. -/
def vunitPort : VUnit → Nat
  | .v => 0
  | .w => 1

/-! ### Elements, masks, tags (R248 to R250) -/

/-- The element size in bytes of a width code (R248). -/
def widthOf (x : BitVec 3) : Nat := 2 ^ x.toNat

/-- Element i of W bytes, unsigned (R248). -/
def elem (W : Nat) (v : Vec) (i : Nat) : Nat := (v.extractLsb' (i * (8 * W)) (8 * W)).toNat
/-- The tag of the lane that holds element i (R250). -/
def elemTag (W : Nat) (t : VTags) (i : Nat) : Tag := ltag t (i * W / 4)

/-- The vector of n elements of W bytes. -/
def packElems (W n : Nat) (f : Nat → Nat) : Vec :=
  .ofNat 2048 ((List.range n).foldr (fun i acc => f i % 2 ^ (8 * W) + 2 ^ (8 * W) * acc) 0)

/-- Element i is active under N as a write mask: a poisoned governing bit counts as 1 (R250). -/
def actW (W : Nat) (N : MReg) (i : Nat) : Bool :=
  N.bits.getLsbD (i * W) || mtag N.tags (i * W) != 0
/-- Element i is active under N as a selector (R248). -/
def actS (W : Nat) (N : MReg) (i : Nat) : Bool := N.bits.getLsbD (i * W)

/-- The byte lanes of the active elements (R249). -/
def enOf (W : Nat) (act : Nat → Bool) : Mask := packMask (fun j => act (j / W))

/-- Each lane's tag: the greatest over its written elements (R250). -/
def laneTags (W : Nat) (act : Nat → Bool) (tg : Nat → Tag) : VTags :=
  packTags (fun l => maxTag ((List.range (4 / W)).map (fun e =>
    let i := l * (4 / W) + e
    if act i then tg i else 0)))

/-- The greatest tag among the governing bits of N (R250). -/
def worstGov (W : Nat) (N : MReg) : Tag := maxTag ((List.range (256 / W)).map (fun i => mtag N.tags (i * W)))

/-- A vector result under a write mask (R249, R250). -/
def writeMasked (u : VUnit) (lat : Nat) (d : BitVec 5) (reads : List RegId) (W : Nat) (N : MReg)
    (f : Nat → Nat) (tg : Nat → Tag) : SlotOut :=
  vectorOut (vunitPort u) lat d reads (packElems W (256 / W) f)
    (laneTags W (actW W N) (fun i => Tag.max (tg i) (mtag N.tags (i * W))))
    (enOf W (actW W N))

/-- A vector result that uses N as a selector: every byte is written (R249, R250). -/
def writeAll (u : VUnit) (lat : Nat) (d : BitVec 5) (reads : List RegId) (W : Nat)
    (f : Nat → Nat) (tg : Nat → Tag) (gov : Tag) : SlotOut :=
  vectorOut (vunitPort u) lat d reads (packElems W (256 / W) f)
    (laneTags W (fun _ => true) (fun i => Tag.max (tg i) gov)) (BitVec.allOnes 256)

/-- An element-wise operation of two vectors (R252). -/
def vec2 (u : VUnit) (lat : Nat) (d a b : BitVec 5) (m xw : BitVec 3) (f : Nat → Nat → Nat → Nat)
    (x : Ctx) : SlotOut :=
  let W := widthOf xw
  let p := x.rv a
  let q := x.rv b
  writeMasked u lat d (idV a ++ idV b ++ idM m.toNat) W (x.rm m.toNat)
    (fun i => f (8 * W) (elem W p.val i) (elem W q.val i))
    (fun i => Tag.max (elemTag W p.tags i) (elemTag W q.tags i))

/-- An element-wise operation of one vector. -/
def vec1 (u : VUnit) (lat : Nat) (d a : BitVec 5) (m xw : BitVec 3) (f : Nat → Nat → Nat) (x : Ctx) :
    SlotOut :=
  let W := widthOf xw
  let p := x.rv a
  writeMasked u lat d (idV a ++ idM m.toNat) W (x.rm m.toNat)
    (fun i => f (8 * W) (elem W p.val i)) (elemTag W p.tags)

/-- An element-wise operation with a scalar operand (R255). -/
def vecX (u : VUnit) (d a : BitVec 5) (sx : BitVec 6) (m : BitVec 2) (xw : BitVec 3)
    (f : Nat → Nat → Nat → Nat) (x : Ctx) : SlotOut :=
  let W := widthOf xw
  let p := x.rv a
  let q := x.rs sx
  writeMasked u 2 d (idV a ++ idS sx ++ idM m.toNat) W (x.rm m.toNat)
    (fun i => f (8 * W) (elem W p.val i) (q.val.toNat % 2 ^ (8 * W)))
    (fun i => Tag.max (elemTag W p.tags i) q.tag)

/-- An exact integer as an n-bit pattern. -/
def wrapI (n : Nat) (x : Int) : Nat := (x % (2 ^ n : Int)).toNat

/-! Element functions: the width in bits, then the operands as unsigned patterns (R252). -/
def eAdd (n a b : Nat) : Nat := (a + b) % 2 ^ n
def eSub (n a b : Nat) : Nat := (a + 2 ^ n - b) % 2 ^ n
def eMul (n a b : Nat) : Nat := a * b % 2 ^ n
def eMulh (n a b : Nat) : Nat := wrapI n (sextI a n * sextI b n / 2 ^ n)
def eMin (n a b : Nat) : Nat := if sextI a n < sextI b n then a else b
def eMax (n a b : Nat) : Nat := if sextI b n < sextI a n then a else b
def eMinu (_ a b : Nat) : Nat := if a < b then a else b
def eMaxu (_ a b : Nat) : Nat := if b < a then a else b
def eAbs (n a : Nat) : Nat := wrapI n (sextI a n).natAbs
def eAnd (_ a b : Nat) : Nat := a &&& b
def eOr (_ a b : Nat) : Nat := a ||| b
def eXor (_ a b : Nat) : Nat := a ^^^ b
def eShl (n a b : Nat) : Nat := a * 2 ^ (b % n) % 2 ^ n
def eShr (n a b : Nat) : Nat := a / 2 ^ (b % n)
def eSar (n a b : Nat) : Nat := wrapI n (sextI a n / 2 ^ (b % n))
def eAdds (n a b : Nat) : Nat := wrapI n (satS n (sextI a n + sextI b n))
def eSubs (n a b : Nat) : Nat := wrapI n (satS n (sextI a n - sextI b n))

section
variable (u : VUnit) (d a b : BitVec 5) (m xw : BitVec 3)
def semVadd : Ctx → SlotOut := vec2 u 2 d a b m xw eAdd
def semVsub : Ctx → SlotOut := vec2 u 2 d a b m xw eSub
def semVmul : Ctx → SlotOut := vec2 u 2 d a b m xw eMul
def semVmulh : Ctx → SlotOut := vec2 u 2 d a b m xw eMulh
def semVmin : Ctx → SlotOut := vec2 u 2 d a b m xw eMin
def semVmax : Ctx → SlotOut := vec2 u 2 d a b m xw eMax
def semVminu : Ctx → SlotOut := vec2 u 2 d a b m xw eMinu
def semVmaxu : Ctx → SlotOut := vec2 u 2 d a b m xw eMaxu
def semVabs : Ctx → SlotOut := vec1 u 2 d a m xw eAbs
def semVand : Ctx → SlotOut := vec2 u 2 d a b m xw eAnd
def semVor : Ctx → SlotOut := vec2 u 2 d a b m xw eOr
def semVxor : Ctx → SlotOut := vec2 u 2 d a b m xw eXor
def semVshl : Ctx → SlotOut := vec2 u 2 d a b m xw eShl
def semVshr : Ctx → SlotOut := vec2 u 2 d a b m xw eShr
def semVsar : Ctx → SlotOut := vec2 u 2 d a b m xw eSar
def semVclz : Ctx → SlotOut := vec1 u 2 d a m xw clzN
def semVpopc : Ctx → SlotOut := vec1 u 2 d a m xw popcount
def semVadds : Ctx → SlotOut := vec2 u 2 d a b m xw eAdds
def semVsubs : Ctx → SlotOut := vec2 u 2 d a b m xw eSubs

/-- `vmad` reads its destination (R253). -/
def semVmad (x : Ctx) : SlotOut :=
  let W := widthOf xw
  let p := x.rv a
  let q := x.rv b
  let o := x.rv d
  writeMasked u 2 d (idV a ++ idV b ++ idV d ++ idM m.toNat) W (x.rm m.toNat)
    (fun i => (elem W p.val i * elem W q.val i + elem W o.val i) % 2 ^ (8 * W))
    (fun i => maxTag [elemTag W p.tags i, elemTag W q.tags i, elemTag W o.tags i])
end

/-! ### Compares (R254) -/

/-- A compare's mask result: bits of the active elements take the result and the element's tag. -/
def cmpMask (lat W : Nat) (d : BitVec 3) (reads : List RegId) (N : MReg) (f : Nat → Bool)
    (tg : Nat → Tag) (flags : BitVec 5) : SlotOut :=
  let t (i : Nat) : Tag := Tag.max (tg i) (mtag N.tags (i * W))
  maskOut lat d.toNat reads (packMask (fun j => f (j / W))) (packMTags (fun j => t (j / W)))
    (enOf W (actW W N)) flags

def vcmp2 (d : BitVec 3) (a b : BitVec 5) (m xw : BitVec 3) (f : Nat → Nat → Nat → Bool) (x : Ctx) :
    SlotOut :=
  let W := widthOf xw
  let p := x.rv a
  let q := x.rv b
  cmpMask 2 W d (idV a ++ idV b ++ idM m.toNat) (x.rm m.toNat)
    (fun i => f (8 * W) (elem W p.val i) (elem W q.val i))
    (fun i => Tag.max (elemTag W p.tags i) (elemTag W q.tags i)) 0

def vcmpX (d : BitVec 3) (a : BitVec 5) (sx : BitVec 6) (m : BitVec 2) (xw : BitVec 3)
    (f : Nat → Nat → Nat → Bool) (x : Ctx) : SlotOut :=
  let W := widthOf xw
  let p := x.rv a
  let q := x.rs sx
  cmpMask 2 W d (idV a ++ idS sx ++ idM m.toNat) (x.rm m.toNat)
    (fun i => f (8 * W) (elem W p.val i) (q.val.toNat % 2 ^ (8 * W)))
    (fun i => Tag.max (elemTag W p.tags i) q.tag) 0

def cEq (_ a b : Nat) : Bool := a == b
def cNe (_ a b : Nat) : Bool := a != b
def cLt (n a b : Nat) : Bool := decide (sextI a n < sextI b n)
def cLe (n a b : Nat) : Bool := decide (sextI a n ≤ sextI b n)
def cLtu (_ a b : Nat) : Bool := decide (a < b)
def cLeu (_ a b : Nat) : Bool := decide (a ≤ b)

section
variable (_u : VUnit) (d : BitVec 3) (a b : BitVec 5) (m xw : BitVec 3)
def semVcmpEq : Ctx → SlotOut := vcmp2 d a b m xw cEq
def semVcmpNe : Ctx → SlotOut := vcmp2 d a b m xw cNe
def semVcmpLt : Ctx → SlotOut := vcmp2 d a b m xw cLt
def semVcmpLe : Ctx → SlotOut := vcmp2 d a b m xw cLe
def semVcmpLtu : Ctx → SlotOut := vcmp2 d a b m xw cLtu
def semVcmpLeu : Ctx → SlotOut := vcmp2 d a b m xw cLeu
end

/-! ### Scalar-operand forms and single elements (R255 to R258) -/

section
variable (u : VUnit) (d a : BitVec 5) (sx : BitVec 6) (m : BitVec 2) (xw : BitVec 3)
def semVaddX : Ctx → SlotOut := vecX u d a sx m xw eAdd
def semVsubX : Ctx → SlotOut := vecX u d a sx m xw eSub
def semVmulX : Ctx → SlotOut := vecX u d a sx m xw eMul
def semVandX : Ctx → SlotOut := vecX u d a sx m xw eAnd
def semVshlX : Ctx → SlotOut := vecX u d a sx m xw eShl
def semVshrX : Ctx → SlotOut := vecX u d a sx m xw eShr
def semVsarX : Ctx → SlotOut := vecX u d a sx m xw eSar

def semVcmpEqX (_u : VUnit) (d : BitVec 3) : Ctx → SlotOut := vcmpX d a sx m xw cEq
def semVcmpLtX (_u : VUnit) (d : BitVec 3) : Ctx → SlotOut := vcmpX d a sx m xw cLt

/-- `vdup` reads no vector (R251, R256). -/
def semVdup (x : Ctx) : SlotOut :=
  let W := widthOf xw
  let q := x.rs sx
  writeMasked u 2 d (idS sx ++ idM m.toNat) W (x.rm m.toNat)
    (fun _ => q.val.toNat % 2 ^ (8 * W)) (fun _ => q.tag)

def semVins (x : Ctx) : SlotOut :=
  let W := widthOf xw
  let p := x.rv a
  let q := x.rs sx
  let N := x.rm m.toNat
  let f := (List.range (256 / W)).find? (actS W N)
  writeAll u 2 d (idV a ++ idS sx ++ idM m.toNat) W
    (fun i => if f = some i then q.val.toNat % 2 ^ (8 * W) else elem W p.val i)
    (fun i => if f = some i then q.tag else elemTag W p.tags i) (worstGov W N)

/-- `vext` reads no mask (R251, R258). -/
def semVext (_u : VUnit) (d : BitVec 3) (x : Ctx) : SlotOut :=
  let W := widthOf xw
  let p := x.rv a
  let q := x.rs sx
  let j := q.val.toNat % (256 / W)
  kOut 2 d.toNat (idV a ++ idS sx) ⟨.ofNat 32 (elem W p.val j), Tag.max (elemTag W p.tags j) q.tag⟩
end

/-! ### Mask logic and select (R259 to R261) -/

def mlogic (d a b : BitVec 3) (f : Mask → Mask → Mask) (x : Ctx) : SlotOut :=
  let p := x.rm a.toNat
  let q := x.rm b.toNat
  maskOut 2 d.toNat (idM a.toNat ++ idM b.toNat) (f p.bits q.bits)
    (packMTags (fun j => Tag.max (mtag p.tags j) (mtag q.tags j))) (BitVec.allOnes 256)

def semMand (_u : VUnit) (d a b : BitVec 3) : Ctx → SlotOut := mlogic d a b (· &&& ·)
def semMor (_u : VUnit) (d a b : BitVec 3) : Ctx → SlotOut := mlogic d a b (· ||| ·)
def semMxor (_u : VUnit) (d a b : BitVec 3) : Ctx → SlotOut := mlogic d a b (· ^^^ ·)
def semMandn (_u : VUnit) (d a b : BitVec 3) : Ctx → SlotOut := mlogic d a b (fun p q => p &&& ~~~q)

def semMpop (_u : VUnit) (d a : BitVec 3) (x : Ctx) : SlotOut :=
  let p := x.rm a.toNat
  kOut 2 d.toNat (idM a.toNat) ⟨.ofNat 32 (popcount 256 p.bits.toNat), worstGov 1 p⟩
def semMfirst (_u : VUnit) (d a : BitVec 3) (x : Ctx) : SlotOut :=
  let p := x.rm a.toNat
  kOut 2 d.toNat (idM a.toNat) ⟨.ofNat 32 (ctzN 256 p.bits.toNat), worstGov 1 p⟩

/-- `vsel` selects byte by byte; lane tags as R261 says. -/
def semVsel (u : VUnit) (d a b : BitVec 5) (m : BitVec 3) (x : Ctx) : SlotOut :=
  let p := x.rv a
  let q := x.rv b
  let N := x.rm m.toNat
  let w := maskBits N.bits
  vectorOut (vunitPort u) 2 d (idV a ++ idV b ++ idM m.toNat)
    ((p.val &&& w) ||| (q.val &&& ~~~w))
    (packTags (fun l =>
      let e := N.bits.extractLsb' (4 * l) 4
      maxTag [if e ≠ 0 then ltag p.tags l else 0, if e ≠ 15 then ltag q.tags l else 0,
        mtag N.tags (4 * l), mtag N.tags (4 * l + 1), mtag N.tags (4 * l + 2),
        mtag N.tags (4 * l + 3)]))
    (BitVec.allOnes 256)

/-! ### Permutes (R262, R263) -/

section
variable (u : VUnit) (d a b : BitVec 5) (m xw : BitVec 3)

def semVperm (x : Ctx) : SlotOut :=
  let W := widthOf xw
  let p := x.rv a
  let q := x.rv b
  let src (i : Nat) : Nat := elem W q.val i % (256 / W)
  writeMasked u 3 d (idV a ++ idV b ++ idM m.toNat) W (x.rm m.toNat)
    (fun i => elem W p.val (src i))
    (fun i => Tag.max (elemTag W p.tags (src i)) (elemTag W q.tags i))

def semVrotX (sx : BitVec 6) (m : BitVec 2) (xw : BitVec 3) (x : Ctx) : SlotOut :=
  let W := widthOf xw
  let p := x.rv a
  let q := x.rs sx
  let src (i : Nat) : Nat := (i + q.val.toNat) % (256 / W)
  writeMasked u 3 d (idV a ++ idS sx ++ idM m.toNat) W (x.rm m.toNat)
    (fun i => elem W p.val (src i)) (fun i => Tag.max (elemTag W p.tags (src i)) q.tag)

/-- A permute of two vectors: element i comes from element `src i` of a (true) or b (false). -/
def perm2 (sel : Bool) (src : Nat → Bool × Nat) (W : Nat) (x : Ctx) : SlotOut :=
  let p := x.rv a
  let q := x.rv b
  let N := x.rm m.toNat
  let f (i : Nat) : Nat := if (src i).1 then elem W p.val (src i).2 else elem W q.val (src i).2
  let t (i : Nat) : Tag := if (src i).1 then elemTag W p.tags (src i).2 else elemTag W q.tags (src i).2
  let rd := idV a ++ idV b ++ idM m.toNat
  if sel then writeAll u 3 d rd W f t (worstGov W N) else writeMasked u 3 d rd W N f t

def semVzip (x : Ctx) : SlotOut :=
  perm2 u d a b m false (fun i => (i % 2 == 0, i / 2)) (widthOf xw) x
def semVunzip (x : Ctx) : SlotOut :=
  let h := 128 / widthOf xw
  perm2 u d a b m false (fun i => (decide (i < h), if i < h then 2 * i else 2 * (i - h))) (widthOf xw) x
def semVcompress (x : Ctx) : SlotOut :=
  let W := widthOf xw
  let l := (List.range (256 / W)).filter (actS W (x.rm m.toNat))
  perm2 u d a b m true (fun i => (decide (i < l.length), if i < l.length then l.getD i 0 else i)) W x
def semVexpand (x : Ctx) : SlotOut :=
  let W := widthOf xw
  let N := x.rm m.toNat
  let before (i : Nat) : Nat := ((List.range i).filter (actS W N)).length
  perm2 u d a b m true (fun i => (actS W N i, if actS W N i then before i else i)) W x
end

def semVidx (u : VUnit) (d : BitVec 5) (i : BitVec 8) (xw : BitVec 3) (_ : Ctx) : SlotOut :=
  writeAll u 3 d [] (widthOf xw) (fun j => i.toNat + j) (fun _ => 0) 0

/-! ### Reductions and scans (R264) -/

section
variable (u : VUnit) (d a b : BitVec 5) (m xw : BitVec 3)

/-- A reduction with element 0 of b; integer results do not depend on the tree (R264). -/
def vred (op : Nat → Nat → Nat → Nat) (x : Ctx) : SlotOut :=
  let W := widthOf xw
  let p := x.rv a
  let q := x.rv b
  let N := x.rm m.toNat
  let act := (List.range (256 / W)).filter (actS W N)
  writeAll u 6 d (idV a ++ idV b ++ idM m.toNat) W
    (fun i => if i = 0 then act.foldl (fun t j => op (8 * W) t (elem W p.val j)) (elem W q.val 0) else 0)
    (fun i => if i = 0 then maxTag (elemTag W q.tags 0 :: act.map (elemTag W p.tags)) else 0)
    (worstGov W N)

def semVredAdd : Ctx → SlotOut := vred u d a b m xw eAdd
def semVredMax : Ctx → SlotOut := vred u d a b m xw eMax
def semVredMin : Ctx → SlotOut := vred u d a b m xw eMin

def semVscanAdd (x : Ctx) : SlotOut :=
  let W := widthOf xw
  let p := x.rv a
  let q := x.rv b
  let N := x.rm m.toNat
  let act (i : Nat) : List Nat := (List.range (i + 1)).filter (actS W N)
  writeAll u 6 d (idV a ++ idV b ++ idM m.toNat) W
    (fun i => (act i).foldl (fun t j => eAdd (8 * W) t (elem W p.val j)) (elem W q.val 0))
    (fun i => maxTag (elemTag W q.tags 0 :: (act i).map (elemTag W p.tags))) (worstGov W N)

/-! ### Match-and-reduce (R265, R266) -/

/-- Results over the group of equal keys, and the leader mask into M (R265). -/
def vmatch (useB : Bool) (f : Nat → Nat → List Nat → (Nat → Nat) → Nat) (x : Ctx) : SlotOut :=
  let W := widthOf xw
  let p := x.rv a
  let q := x.rv b
  let M := x.rm m.toNat
  let act := (List.range (256 / W)).filter (actW W M)
  let grp (i : Nat) : List Nat := act.filter (fun j => elem W p.val j == elem W p.val i)
  let tg (i : Nat) : Tag := maxTag ((grp i).map (fun j =>
    maxTag [elemTag W p.tags j, if useB then elemTag W q.tags j else 0, mtag M.tags (j * W)]))
  let isAct (i : Nat) : Bool := actW W M i
  let o := writeMasked u 6 d (idV a ++ (if useB then idV b else []) ++ idM m.toNat) W M
    (fun i => f (8 * W) i (grp i) (elem W q.val)) tg
  let lead : Res := ⟨6, .m m.toNat, .mask
    (packMask (fun j => isAct (j / W) && (grp (j / W)).head? == some (j / W)))
    (packMTags (fun j => if isAct (j / W) then tg (j / W) else 0)) (BitVec.allOnes 256)⟩
  { o with
    writes := o.writes ++ idM m.toNat
    res := match o.res with
      | .ok rs g fl => .ok (rs ++ [lead]) g fl
      | r => r }

def semVmredAdd : Ctx → SlotOut :=
  vmatch u d a b m xw true (fun n _ g v => g.foldl (fun t j => eAdd n t (v j)) 0)
def semVmredMax : Ctx → SlotOut :=
  vmatch u d a b m xw true (fun n _ g v => g.foldl (fun t j => eMax n t (v j)) (v (g.headD 0)))
def semVmscanAdd : Ctx → SlotOut :=
  vmatch u d a b m xw true (fun n i g v => (g.filter (· ≤ i)).foldl (fun t j => eAdd n t (v j)) 0)
def semVmcount : Ctx → SlotOut :=
  vmatch u d a b m xw false (fun n _ g _ => g.length % 2 ^ n)
end

/-! ### Floating point (R267 to R274) -/

/-- A floating-point result under a write mask: a masked-off or tagged lane raises no flag (R157). -/
def fpMasked (u : VUnit) (lat : Nat) (d : BitVec 5) (reads : List RegId) (W : Nat) (N : MReg)
    (f : Nat → FRes) (tg : Nat → Tag) : SlotOut :=
  let act := actW W N
  let tags := laneTags W act (fun i => Tag.max (tg i) (mtag N.tags (i * W)))
  let flags := (List.range (256 / W)).foldl (fun (acc : BitVec 5) i =>
    if act i && elemTag W tags i == 0 then acc ||| (f i).flags else acc) 0
  vectorOut (vunitPort u) lat d reads (packElems W (256 / W) (fun i => (f i).bits)) tags (enOf W act) flags

/-- The stochastic source h3 when SR is selected (R105, R269). -/
def Ctx.srH3 (x : Ctx) (mode : Nat) : List RegId × VReg :=
  if mode = 6 then ([.v 27], x.rv 27) else ([], .zero)

/-- Arithmetic of two vectors of format fm with W-byte elements (R271, R272). -/
def vfp2 (fm : Fmt) (W : Nat) (u : VUnit) (d a b : BitVec 5) (m r : BitVec 3)
    (f : Fmt → Nat → Nat → Nat → Nat → FRes) (x : Ctx) : SlotOut :=
  let mode := x.mode r
  let (ids, h) := x.srH3 mode
  let p := x.rv a
  let q := x.rv b
  fpMasked u 4 d (idV a ++ idV b ++ idM m.toNat ++ ids) W (x.rm m.toNat)
    (fun i => f fm mode (elem W h.val i % 65536) (elem W p.val i) (elem W q.val i))
    (fun i => maxTag [elemTag W p.tags i, elemTag W q.tags i, elemTag W h.tags i])

/-- A fused multiply-add, which reads its destination (R270 to R272). -/
def vfma (fm : Fmt) (W : Nat) (u : VUnit) (d a b : BitVec 5) (m r : BitVec 3) (x : Ctx) : SlotOut :=
  let mode := x.mode r
  let (ids, h) := x.srH3 mode
  let p := x.rv a
  let q := x.rv b
  let o := x.rv d
  fpMasked u 4 d (idV a ++ idV b ++ idV d ++ idM m.toNat ++ ids) W (x.rm m.toNat)
    (fun i => fpFma fm mode (elem W h.val i % 65536) (elem W p.val i) (elem W q.val i) (elem W o.val i))
    (fun i => maxTag [elemTag W p.tags i, elemTag W q.tags i, elemTag W o.tags i, elemTag W h.tags i])

section
variable (u : VUnit) (d a b : BitVec 5) (m r : BitVec 3)
def semVfaddF : Ctx → SlotOut := vfp2 fp32 4 u d a b m r fpAdd
def semVfsubF : Ctx → SlotOut := vfp2 fp32 4 u d a b m r fpSub
def semVfmulF : Ctx → SlotOut := vfp2 fp32 4 u d a b m r fpMul
def semVffmaF : Ctx → SlotOut := vfma fp32 4 u d a b m r
def semVfminF : Ctx → SlotOut := vec2 u 4 d a b m 2 (fun _ => fpMinMax false)
def semVfmaxF : Ctx → SlotOut := vec2 u 4 d a b m 2 (fun _ => fpMinMax true)
def semVfabsF : Ctx → SlotOut := vec1 u 4 d a m 2 (fun _ => fpAbs)
def semVfnegF : Ctx → SlotOut := vec1 u 4 d a m 2 (fun _ => fpNeg)
def semVfaddBf : Ctx → SlotOut := vfp2 bf16 2 u d a b m r fpAdd
def semVfmulBf : Ctx → SlotOut := vfp2 bf16 2 u d a b m r fpMul
def semVffmaBf : Ctx → SlotOut := vfma bf16 2 u d a b m r

/-- Two BF16 products and an FP32 addend, rounded once (R273). -/
def semVfdotBf (x : Ctx) : SlotOut :=
  let mode := x.mode r
  let (ids, h) := x.srH3 mode
  let p := x.rv a
  let q := x.rv b
  let o := x.rv d
  let e (v : Vec) (i : Nat) : Fp := bf16.decode (elem 2 v i)
  fpMasked u 4 d (idV a ++ idV b ++ idV d ++ idM m.toNat ++ ids) 4 (x.rm m.toNat)
    (fun i =>
      let (y, nv) := Fp.dot mode [(e p.val (2 * i), e q.val (2 * i)),
        (e p.val (2 * i + 1), e q.val (2 * i + 1))] (fp32.decode (elem 4 o.val i))
      deliver fp32 false mode (elem 4 h.val i % 65536) nv y)
    (fun i => maxTag [ltag p.tags i, ltag q.tags i, ltag o.tags i, ltag h.tags i])

/-- A floating-point compare to a mask (R274). -/
def vfcmp (op : Nat) (d : BitVec 3) (x : Ctx) : SlotOut :=
  let p := x.rv a
  let q := x.rv b
  let N := x.rm m.toNat
  let c (i : Nat) := fpCmp op (elem 4 p.val i) (elem 4 q.val i)
  let tg (i : Nat) : Tag := Tag.max (ltag p.tags i) (ltag q.tags i)
  let flags := (List.range 64).foldl (fun (acc : BitVec 5) i =>
    if actW 4 N i && Tag.max (tg i) (mtag N.tags (i * 4)) == 0 then acc ||| (c i).2 else acc) 0
  cmpMask 4 4 d (idV a ++ idV b ++ idM m.toNat) N (fun i => (c i).1) tg flags

def semVfcmpEqF (_u : VUnit) (d : BitVec 3) : Ctx → SlotOut := vfcmp a b m 0 d
def semVfcmpLtF (_u : VUnit) (d : BitVec 3) : Ctx → SlotOut := vfcmp a b m 1 d
def semVfcmpLeF (_u : VUnit) (d : BitVec 3) : Ctx → SlotOut := vfcmp a b m 2 d
def semVfcmpUnF (_u : VUnit) (d : BitVec 3) : Ctx → SlotOut := vfcmp a b m 3 d

/-! ### Conversions (R275, R276) and special functions (R281 to R288) -/

/-- A one-input lane operation whose stochastic source is b (R105, R269). -/
def vconv (lat : Nat) (f : Nat → Nat → Nat → FRes) (x : Ctx) : SlotOut :=
  let mode := x.mode r
  let p := x.rv a
  let h : VReg := if mode = 6 then x.rv b else .zero
  fpMasked u lat d (idV a ++ (if mode = 6 then idV b else []) ++ idM m.toNat) 4 (x.rm m.toNat)
    (fun i => f mode (elem 4 h.val i % 65536) (elem 4 p.val i))
    (fun i => Tag.max (ltag p.tags i) (ltag h.tags i))

/-- FP32 to a narrower format in the low bits (R275). -/
def narrow (dst : Fmt) (sat : Bool) (mode rnd v : Nat) : FRes := fpCvt fp32 dst sat mode rnd v
/-- The low bits, in a narrower format, to FP32: exact, no flag (R275, R276). -/
def widen (src : Fmt) (_ _ v : Nat) : FRes :=
  ⟨(fpCvt src fp32 false 0 0 (v % 2 ^ (1 + src.ebits + src.fbits))).bits, 0⟩

def semVcvtBfF : Ctx → SlotOut := vconv u d a b m r 4 (narrow bf16 false)
def semVcvtF16F : Ctx → SlotOut := vconv u d a b m r 4 (narrow fp16 false)
def semVcvtE4F : Ctx → SlotOut := vconv u d a b m r 4 (narrow e4m3 false)
def semVcvtE5F : Ctx → SlotOut := vconv u d a b m r 4 (narrow e5m2 false)
def semVcvtE2F : Ctx → SlotOut := vconv u d a b m r 4 (narrow e2m1 true)
def semVcvtFBf : Ctx → SlotOut := vconv u d a b m r 4 (widen bf16)
def semVcvtFF16 : Ctx → SlotOut := vconv u d a b m r 4 (widen fp16)
def semVcvtFE4 : Ctx → SlotOut := vconv u d a b m r 4 (widen e4m3)
def semVcvtFE5 : Ctx → SlotOut := vconv u d a b m r 4 (widen e5m2)
def semVcvtFE2 : Ctx → SlotOut := vconv u d a b m r 4 (widen e2m1)
def semVcvtWF : Ctx → SlotOut := vconv u d a b m r 4 (fun md rd v =>
  let q := fpToInt (-(2 ^ 31)) (2 ^ 31 - 1) md rd v
  ⟨wrapI 32 q.1, q.2⟩)
def semVcvtFW : Ctx → SlotOut := vconv u d a b m r 4 (fun md rd v => intToFp md rd (sextI v 32))
def semVcvtBF : Ctx → SlotOut := vconv u d a b m r 4 (fun md rd v =>
  let q := fpToInt (-128) 127 md rd v
  ⟨wrapI 8 q.1, q.2⟩)
def semVcvtE4FSat : Ctx → SlotOut := vconv u d a b m r 4 (narrow e4m3 true)
def semVcvtE5FSat : Ctx → SlotOut := vconv u d a b m r 4 (narrow e5m2 true)

def semVexp2 : Ctx → SlotOut := vconv u d a b m r 8 (fpSpecial 0)
def semVlog2 : Ctx → SlotOut := vconv u d a b m r 8 (fpSpecial 1)
def semVrcp : Ctx → SlotOut := vconv u d a b m r 8 (fpSpecial 2)
def semVrsqrt : Ctx → SlotOut := vconv u d a b m r 8 (fpSpecial 3)
def semVsqrt : Ctx → SlotOut := vconv u d a b m r 8 (fpSpecial 4)

/-! ### Packing (R277, R278) and MX helpers (R279, R280) -/

/-- Narrow fields of two sources concatenated, a first: element i of w bits comes from field `2 i`
of the joined source (R277). -/
def vpack (W w : Nat) (x : Ctx) : SlotOut :=
  let p := x.rv a
  let q := x.rv b
  let n := 256 / W
  -- one element per W-byte result element, or two nibbles
  let k := 8 * W / w
  let pick (j : Nat) : Nat × Tag :=
    let half := n * k / 2
    let src := if j < half then p else q
    let i := if j < half then j else j - half
    (bits src.val (i * (2 * w)) w, ltag src.tags (i * (2 * w) / 32))
  writeMasked u 3 d (idV a ++ idV b ++ idM m.toNat) W (x.rm m.toNat)
    (fun i => (List.range k).foldr (fun e acc => (pick (i * k + e)).1 + 2 ^ w * acc) 0)
    (fun i => maxTag ((List.range k).map (fun e => (pick (i * k + e)).2)))

def semVpackH : Ctx → SlotOut := vpack u d a b m 2 16
def semVpackB : Ctx → SlotOut := vpack u d a b m 1 8
def semVpackN : Ctx → SlotOut := vpack u d a b m 1 4

/-- Narrow fields zero-extended to double width; `off` skips to the upper half (R278). -/
def vunpk (hi : Bool) (t : BitVec 5) (x : Ctx) : SlotOut :=
  let p := x.rv a
  -- field width in bits and result element in bytes for step codes 0 .w, 1 .h, 2 .b
  let w := 16 / 2 ^ t.toNat
  let W := 4 / 2 ^ t.toNat
  let n := 256 / W
  let src (i : Nat) : Nat := if hi then n + i else i
  writeMasked u 3 d (idV a ++ idM m.toNat) W (x.rm m.toNat)
    (fun i => bits p.val (src i * w) w) (fun i => ltag p.tags (src i * w / 32))

def semVunpkLo (t : BitVec 5) : Ctx → SlotOut := vunpk u d a m false t
def semVunpkHi (t : BitVec 5) : Ctx → SlotOut := vunpk u d a m true t

/-- One shared exponent for each half of the register (R279). -/
def semVbexp (x : Ctx) : SlotOut :=
  let p := x.rv a
  let N := x.rm m.toNat
  let half (h : Nat) : List Nat := (List.range 32).map (· + 32 * h) |>.filter (actW 4 N)
  let ex (h : Nat) : Nat := (half h).foldl (fun t i => max t (nbits (elem 4 p.val i) 23 8)) 0
  let tg (h : Nat) : Tag := maxTag ((half h).map (fun i => Tag.max (ltag p.tags i) (mtag N.tags (4 * i))))
  writeMasked u 4 d (idV a ++ idM m.toNat) 4 N (fun i => ex (i / 32)) (fun i => tg (i / 32))

/-- Scaling by a power of two; every lane is written (R280). -/
def semVscalb (i : BitVec 8) (x : Ctx) : SlotOut :=
  let mode := x.mode r
  let (ids, h) := x.srH3 mode
  let p := x.rv a
  fpMasked u 4 d (idV a ++ ids) 4 (x.rm 0)
    (fun l => fpScalb mode (elem 4 h.val l % 65536) (elem 4 p.val l) i.toInt)
    (fun l => Tag.max (ltag p.tags l) (ltag h.tags l))
end

end Sys2Proof.Machine
end

