-- ==== Sys2Proof/Machine/LocalMem.lean ====
section
/-!
DEFINITION. Slot 3: loads and stores of the core's own scratchpad and systolic shifts
(R206, R207, R211, R216, R217, R223 to R230).
-/
namespace Sys2Proof.Machine

/-- An effective address with its low bits cleared to size z (R207). -/
def alignDown (ea z : Nat) : Nat := ea - ea % z

/-- Remember the last load of the iteration for the bivouac (R70). -/
def State.noteLoad (s : State) (c : Nat) (l : Option (Nat × Nat)) : State :=
  s.updCore c (fun k => { k with seq := { k.seq with lastLoad := l } })

/-- The effective address of a scalar access (R224). -/
def scalarEa (b : Word) (o : BitVec 9) (z : Nat) : Nat := (b + o.signExtend 32 * .ofNat 32 z).toNat

/-- Does a load of n bytes at a lie in a readable word? (R207, R211) -/
def Ctx.canRead (x : Ctx) (a : Nat) : Bool := x.k.readable x.kid a
def Ctx.canWrite (x : Ctx) (a : Nat) : Bool := x.k.writable x.kid a

/-- A scalar load (R224, R225): size z, sign, speculative. -/
def scalarLoad (z : Nat) (signed spec : Bool) (d b : BitVec 6) (o : BitVec 9) (x : Ctx) : SlotOut :=
  let base := x.rs b
  let ea := scalarEa base.val o z
  let a := alignDown ea z
  let fails := base.tag ≠ 0 ∨ ¬ x.canRead a
  let v := x.s.padRead x.c x.kid a z
  let r : Word := if signed then .ofInt 32 (sextI v (8 * z)) else .ofNat 32 v
  let reads := idS b
  if spec then
    if fails then
      let o := scalarOut 4 4 d reads ⟨0, Tag.max base.tag 1⟩
      { o with res := match o.res with
          | .ok rs _ fl => .ok rs (fun s => s.noteLoad x.c none) fl
          | q => q }
    else
      let o := scalarOut 4 4 d reads ⟨r, x.s.wordTag x.c x.kid a⟩
      { o with res := match o.res with
          | .ok rs _ fl => .ok rs (fun s => s.noteLoad x.c (some (a / 64, v))) fl
          | q => q }
  else
    let o := scalarOut 4 4 d reads ⟨r, x.s.wordTag x.c x.kid a⟩
    { o with res :=
        if base.tag ≠ 0 then .ofTrap trPoisonAddress
        else if ¬ x.canRead a then .trap trRegionViolation (.ofNat 32 a)
        else match o.res with
          | .ok rs _ fl => .ok rs (fun s => s.noteLoad x.c (some (a / 64, v))) fl
          | q => q }

/-- A scalar store of size z (R224). -/
def scalarStore (z : Nat) (d b : BitVec 6) (o : BitVec 9) (x : Ctx) : SlotOut :=
  let base := x.rs b
  let data := x.rs d
  let a := alignDown (scalarEa base.val o z) z
  { nopOut with
    reads := idS b ++ idS d
    effect := true
    res :=
      if base.tag ≠ 0 then .ofTrap trPoisonAddress
      else if ¬ x.canWrite a then .trap trRegionViolation (.ofNat 32 a)
      else if data.tag ≠ 0 then .ofTrap trPoisonStore
      else .ok [] (fun s => s.padWrite x.c x.kid a (bytesLE z data.val.toNat)) .seq }

section
variable (d b : BitVec 6) (o : BitVec 9)
def semLdb : Ctx → SlotOut := scalarLoad 1 true false d b o
def semLdbu : Ctx → SlotOut := scalarLoad 1 false false d b o
def semLdh : Ctx → SlotOut := scalarLoad 2 true false d b o
def semLdhu : Ctx → SlotOut := scalarLoad 2 false false d b o
def semLdw : Ctx → SlotOut := scalarLoad 4 false false d b o
def semStb : Ctx → SlotOut := scalarStore 1 d b o
def semSth : Ctx → SlotOut := scalarStore 2 d b o
def semStw : Ctx → SlotOut := scalarStore 4 d b o
def semLdwS : Ctx → SlotOut := scalarLoad 4 false true d b o
def semLdbuS : Ctx → SlotOut := scalarLoad 1 false true d b o
def semLdhuS : Ctx → SlotOut := scalarLoad 2 false true d b o
end

/-! ### Rows (R226) -/

/-- The effective address of a row access (R226). -/
def rowEa (b : Word) (o : BitVec 7) : Nat := (b + o.signExtend 32 * 256).toNat

/-- The words g of a row that hold an active byte (R226). -/
def activeWords (act : Nat → Bool) : List Nat :=
  (List.range 16).filter (fun g => (List.range 16).any (fun i => act (16 * g + i)))

/-- A vector result of slot 3 with the load noted for the bivouac (R70). R70 speaks of one line and one value:
a row counts as its first line and its whole value, and an indexed or expanding load as no load of one line
(log 62). -/
def loadOut (lat : Nat) (d : BitVec 5) (reads : List RegId) (val : Vec) (t : VTags) (en : Mask)
    (x : Ctx) (note : Option Nat) : SlotOut :=
  let o := vectorOut 2 lat d reads val t en
  { o with res := match o.res with
      | .ok rs _ fl => .ok rs (fun s => s.noteLoad x.c (note.map (fun a => (a / 64, val.toNat)))) fl
      | q => q }

/-- A row load (R226): the speculative form delivers 0 from each failing word. -/
def rowLoad (spec : Bool) (v : BitVec 5) (b : BitVec 6) (o : BitVec 7) (m : BitVec 3) (x : Ctx) :
    SlotOut :=
  let base := x.rs b
  let row := alignDown (rowEa base.val o) 256
  let N := x.rm m.toNat
  let act := actW 1 N
  let words := activeWords act
  let failing := words.filter (fun g => ¬ x.canRead (row + 16 * g))
  let fails (g : Nat) : Bool := base.tag != 0 || failing.contains g
  let wtag (g : Nat) : Tag :=
    if fails g then Tag.max base.tag 1 else x.s.wordTag x.c x.kid (row + 16 * g)
  let val := packElems 1 256 (fun j =>
    if act j && !fails (j / 16) then (x.s.padByte x.c x.kid (row + j)).toNat else 0)
  let tags := laneTags 1 act (fun j => Tag.max (wtag (j / 16)) (mtag N.tags j))
  let out := loadOut 6 v (idS b ++ idM m.toNat) val tags (enOf 1 act) x
    (if base.tag = 0 ∧ failing.isEmpty then some row else none)
  if spec then out
  else { out with res :=
      if base.tag ≠ 0 then .ofTrap trPoisonAddress
      else match failing with
        | g :: _ => .trap trRegionViolation (.ofNat 32 (row + 16 * g))
        | [] => out.res }

/-- The bytes of a row store, word by word; whole words become sound (R215, R226). -/
def State.rowWrite (s : State) (c : Nat) (kid : Word) (row : Nat) (words : List Nat) (act : Nat → Bool)
    (f : Nat → Byte) : State :=
  words.foldl (fun s g =>
    s.padWriteWord c kid (row + 16 * g) (fun i => act (16 * g + i)) (fun i => f (16 * g + i))) s

def rowStore (v : BitVec 5) (b : BitVec 6) (o : BitVec 7) (m : BitVec 3) (x : Ctx) : SlotOut :=
  let base := x.rs b
  let row := alignDown (rowEa base.val o) 256
  let N := x.rm m.toNat
  let p := x.rv v
  let act := actW 1 N
  let words := activeWords act
  let poisoned := (List.range 256).any (fun j => mtag N.tags j != 0 || (act j && elemTag 1 p.tags j != 0))
  { nopOut with
    reads := idS b ++ idV v ++ idM m.toNat
    effect := true
    res :=
      if base.tag ≠ 0 then .ofTrap trPoisonAddress
      else match words.filter (fun g => ¬ x.canWrite (row + 16 * g)) with
        | g :: _ => .trap trRegionViolation (.ofNat 32 (row + 16 * g))
        | [] =>
          if poisoned then .ofTrap trPoisonStore
          else .ok [] (fun s => s.rowWrite x.c x.kid row words act (fun j => lane 8 p.val j)) .seq }

section
variable (v : BitVec 5) (b : BitVec 6) (o : BitVec 7) (m : BitVec 3)
def semLdv : Ctx → SlotOut := rowLoad false v b o m
def semStv : Ctx → SlotOut := rowStore v b o m
def semLdvS : Ctx → SlotOut := rowLoad true v b o m

/-! ### Expanding loads (R227) -/

/-- An expanding load: data block bytes, element format, selector bits (R227). -/
def expandLoad (blk : Nat) (elt : Fmt) (hbits : Nat) (x : Ctx) : SlotOut :=
  let base := x.rs b
  let ea := rowEa base.val o
  let sh := alignDown ea 16
  let h := ea % 2 ^ hbits
  let N := x.rm m.toNat
  let act := actW 2 N
  let ebits := blk / 4
  -- the data word that feeds element e
  let word (e : Nat) : Nat := sh + 16 + (4 * h + e / 32) * blk + (e % 32) * ebits / 8 / 16 * 16
  let need := sh :: ((List.range 128).filter act).map word
  let bad (a : Nat) : Bool := x.s.wordTag x.c x.kid a == 3
  let tagOf (e : Nat) : Tag := Tag.max (x.s.wordTag x.c x.kid sh) (x.s.wordTag x.c x.kid (word e))
  let y (e : Nat) : Nat :=
    let i := e % 32
    let byteAt := sh + 16 + (4 * h + e / 32) * blk + i * ebits / 8
    let raw := (x.s.padByte x.c x.kid byteAt).toNat
    let el := if ebits = 4 then nbits raw (i % 2 * 4) 4 else raw
    if bad sh || bad (word e) then 0
    else mxWiden elt bf16 (x.s.padByte x.c x.kid (sh + 4 * h + e / 32)).toNat el
  let out := loadOut 8 v (idS b ++ idM m.toNat)
    (packElems 2 128 (fun e => if act e then y e else 0))
    (laneTags 2 act (fun e => Tag.max (tagOf e) (mtag N.tags (2 * e))))
    (enOf 2 act) x none
  { out with res :=
      if base.tag ≠ 0 then .ofTrap trPoisonAddress
      else match need.filter (fun a => ¬ x.canRead a) with
        | a :: l => .trap trRegionViolation (.ofNat 32 (l.foldl min a))
        | [] => out.res }

def semLdmx4 : Ctx → SlotOut := expandLoad v b o m 16 e2m1 2
def semLdmx8 : Ctx → SlotOut := expandLoad v b o m 32 e4m3 1
end

/-! ### Indexed rows (R228) -/

section
variable (v i : BitVec 5) (b : BitVec 6) (m : BitVec 2) (w : BitVec 3)

/-- The address of element e: its row by base and index, its own byte position (R228). -/
def indexedAddr (base : Word) (W : Nat) (idx : Vec) (e : Nat) : Nat :=
  alignDown (base + .ofNat 32 (elem W idx e * 256)).toNat 256 + e * W

def gather (spec : Bool) (x : Ctx) : SlotOut :=
  let base := x.rs b
  let W := widthOf w
  let idx := x.rv i
  let N := x.rm m.toNat
  let act := actW W N
  let es := (List.range (256 / W)).filter act
  let addr := indexedAddr base.val W idx.val
  let fails (e : Nat) : Bool := base.tag != 0 || elemTag W idx.tags e != 0 || !x.canRead (addr e)
  let tg (e : Nat) : Tag :=
    Tag.max (if fails e then maxTag [1, base.tag, elemTag W idx.tags e]
      else x.s.wordTag x.c x.kid (addr e)) (mtag N.tags (e * W))
  let out := loadOut 8 v (idS b ++ idV i ++ idM m.toNat)
    (packElems W (256 / W) (fun e =>
      if act e && !fails e then x.s.padRead x.c x.kid (addr e) W else 0))
    (laneTags W act tg) (enOf W act) x none
  if spec then out
  else { out with res :=
      if base.tag ≠ 0 ∨ es.any (fun e => elemTag W idx.tags e != 0) then .ofTrap trPoisonAddress
      else match es.filter (fun e => ¬ x.canRead (addr e)) with
        | e :: _ => .trap trRegionViolation (.ofNat 32 (addr e))
        | [] => out.res }

def semLdvx : Ctx → SlotOut := gather v i b m w false
def semLdvxS : Ctx → SlotOut := gather v i b m w true

/-- `stvx` (R228): each element is a write of its own, so that elements which together cover an uncorrectable word
leave it so; R215 and R228 do not say whether they are one operation (log 72). -/
def semStvx (x : Ctx) : SlotOut :=
  let base := x.rs b
  let W := widthOf w
  let idx := x.rv i
  let p := x.rv v
  let N := x.rm m.toNat
  let act := actW W N
  let es := (List.range (256 / W)).filter act
  let addr := indexedAddr base.val W idx.val
  { nopOut with
    reads := idS b ++ idV i ++ idV v ++ idM m.toNat
    effect := true
    res :=
      if base.tag ≠ 0 ∨ es.any (fun e => elemTag W idx.tags e != 0) then .ofTrap trPoisonAddress
      else match es.filter (fun e => ¬ x.canWrite (addr e)) with
        | e :: _ => .trap trRegionViolation (.ofNat 32 (addr e))
        | [] =>
          if es.any (fun e => elemTag W p.tags e != 0 || mtag N.tags (e * W) != 0)
          then .ofTrap trPoisonStore
          else .ok [] (fun s => es.foldl (fun s e =>
            s.padWrite x.c x.kid (addr e) (bytesLE W (elem W p.val e))) s) .seq }
end

/-! ### Systolic shifts (R21, R229, R230, R245) -/

/-- The neighbour of core c in direction dir: 0 east, 1 west, 2 north, 3 south (R21). -/
def neighbour (c : Nat) (dir : Nat) : Option Nat :=
  match c % 4, dir with
  | 0, 0 => some (c + 1)
  | 0, 3 => some (c + 2)
  | 1, 1 => some (c - 1)
  | 1, 3 => some (c + 2)
  | 2, 0 => some (c + 1)
  | 2, 2 => some (c - 2)
  | 3, 1 => some (c - 1)
  | 3, 2 => some (c - 2)
  | _, _ => none
def opposite (dir : Nat) : Nat :=
  match dir with
  | 0 => 1
  | 1 => 0
  | 2 => 3
  | _ => 2

/-- The cores roped with core c, c among them; c alone when not roped (R64, R66). -/
def Core.members (k : Core) (c : Nat) : List Nat :=
  match k.ctl.ropeW.toNat with
  | 1 => if c % 2 = 0 then [c, c + 1] else [c - 1, c]
  | 2 => [c - c % 4, c - c % 4 + 1, c - c % 4 + 2, c - c % 4 + 3]
  | _ => [c]

/-- The trap of a shift's direction, distance and rope, if any (R229). -/
def shiftTrap (x : Ctx) (dir dist : Nat) : Option SlotRes :=
  if dist = 16 then
    let ok (n : Option Nat) : Bool := match n with
      | some j => (x.k.members x.c).contains j
      | none => true
    if x.k.ctl.ropeW = 0 ∨ ¬ ok (neighbour x.c dir) ∨ ¬ ok (neighbour x.c (opposite dir))
    then some (.trap trRopeDivergence 5) else none
  else if dir < 2 ∧ dist < 16 then none
  else some (.trap trOperandFormat (.ofNat 32 dist))

/-- The lane group that feeds lane group g within a core (R229). -/
def ringSource (dir dist g : Nat) : Nat := if dir = 0 then (g + 16 - dist) % 16 else (g + dist) % 16

/-- The guard of a member's own copy of the slot. -/
def Core.guardTrue (k : Core) (g : BitVec 4) : Bool := (k.pred (g.toNat % 8)).val ^^ g.getLsbD 3

/-- `shn` (R229). Across a core boundary the receiver takes the opposite neighbour's register as it
stands at this position; nothing arrives from none or from a member whose guard is false (log 10). -/
def semShn (g : BitVec 4) (d a : BitVec 5) (e : BitVec 3) (t : BitVec 5) (m : BitVec 3) (x : Ctx) :
    SlotOut :=
  let dir := e.toNat
  let dist := t.toNat
  let N := x.rm m.toNat
  let act := actW 1 N
  let src : VReg :=
    if dist = 16 then
      match neighbour x.c (opposite dir) with
      | some j => if (x.s.core j).guardTrue g then Ctx.rv { x with c := j } a else .zero
      | none => .zero
    else
      let p := x.rv a
      ⟨packElems 1 256 (fun j => elem 1 p.val (16 * ringSource dir dist (j / 16) + j % 16)),
       packTags (fun l => ltag p.tags (4 * ringSource dir dist (l / 4) + l % 4))⟩
  let out := vectorOut 2 3 d (idV a ++ idM m.toNat) src.val
    (laneTags 1 act (fun j => Tag.max (elemTag 1 src.tags j) (mtag N.tags j))) (enOf 1 act)
  match shiftTrap x dir dist with
  | some r => { out with res := r }
  | none => out

/-- The destination core of a `tsh`: none sends nothing (R229, R230). -/
def tshTarget (c dir dist : Nat) : Option Nat := if dist = 16 then neighbour c dir else some c

/-- `tsh` (R230): destination word g' of the row at s[d] takes the source word that feeds it. A source word that
is both uncorrectable and in flight counts as uncorrectable: it does not hold (log 59). Where a source word and a
destination word are refused, R230 does not say which is the lowest-numbered: the model takes the lowest address of
both rows (log 73). -/
def semTsh (d a : BitVec 5) (e : BitVec 3) (t : BitVec 5) (m : BitVec 3) (x : Ctx) : SlotOut :=
  let dir := e.toNat
  let dist := t.toNat
  let sa := x.rs (a.zeroExtend 6)
  let sd := x.rs (d.zeroExtend 6)
  let N := x.rm m.toNat
  let act := actW 1 N
  let srow := alignDown sa.val.toNat 256
  let drow := alignDown sd.val.toNat 256
  let feed (g : Nat) : Nat := if dist = 16 then g else ringSource dir dist g
  let words := match tshTarget x.c dir dist with
    | some _ => activeWords act
    | none => []
  let tc := (tshTarget x.c dir dist).getD x.c
  let refused := (words.filter (fun g => ¬ x.canRead (srow + 16 * feed g))).map (fun g => srow + 16 * feed g)
    ++ (words.filter (fun g => ¬ (x.s.core tc).writable x.kid (drow + 16 * g))).map (fun g => drow + 16 * g)
  { nopOut with
    reads := idS (a.zeroExtend 6) ++ idS (d.zeroExtend 6) ++ idM m.toNat
    effect := true
    res := match shiftTrap x dir dist with
      | some r => r
      | none =>
        if sa.tag ≠ 0 ∨ sd.tag ≠ 0 then .ofTrap trPoisonAddress
        else match refused with
          | w :: l => .trap trRegionViolation (.ofNat 32 (l.foldl min w))
          | [] =>
            if (List.range 256).any (fun j => mtag N.tags j != 0) then .ofTrap trPoisonStore
            else if words.any (fun g => x.s.wordTag x.c x.kid (srow + 16 * feed g) == 2) then .hold .tsh
            else .ok [] (fun s => words.foldl (fun s g =>
              let from_ := srow + 16 * feed g
              let s1 := s.padWriteWord tc x.kid (drow + 16 * g) (fun i => act (16 * g + i))
                (fun i => x.s.padByte x.c x.kid (from_ + i))
              let s2 := if x.s.wordTag x.c x.kid from_ = 3
                then s1.markBad (s1.padKey tc x.kid (drow + 16 * g)) else s1
              s2.touchLine tc (drow + 16 * g)) s) .seq }

end Sys2Proof.Machine
end

