-- ==== Sys2Proof/Machine/Pitch.lean ====
section
/-!
DEFINITION. Pitches: entries, fences and rewinds (R57 to R63), the delivery of a pitch fault and the
way into handler mode (R299 to R301), write-backs at a suspension (R306, R309), quarantine (R297), and
the suppression of effects that an earlier run of the pitch has sent (R62, R310).
-/
namespace Sys2Proof.Machine

/-- Why a rewind to the pitch entry is refused: the TRA that it records (R299). R60 gives 0 for both grounds,
R345 and R299 give 2 for too many pops: the model follows the latter (log 20). -/
def Core.refusal (k : Core) : Option Word :=
  if k.seq.dirty then some 0 else if k.seq.popsOver then some 2 else none

/-- Issue leaves the bundle that it held (R204); a supply that settles and a tower that moves hold it still
(R294, R311). -/
def Core.letGo (k : Core) (now : Nat) : Core :=
  match k.seq.hold with
  | some .supply => k
  | some (.towerMove _) => k
  | _ => k.release now

/-- Issue goes on at a place, where a group begins (R95). -/
def Core.goto (k : Core) (f : Fetch) : Core :=
  { k with seq := { k.seq with
      fetch := f
      br := none
      replays := 0
      firstCycle := none
      first := none
      grpLen := 0
      grpWrites := []
      grpPorts := [] } }

/-- A place taken from a record or from PENT. TRA 0 marks it: the case of R74 is judged when issue reaches
it. -/
def Fetch.here (p : Pos) : Fetch := ⟨p, false, 0, posRef p⟩

/-- The start of a pitch entry's run: results are visible, ports read 0, tracking is empty, indices
restart (R58, R60, R62); the greatest of them is kept (R304). -/
def Core.restart (k : Core) : Core :=
  let k1 := k.landAll.clearPorts
  { k1 with seq := { k1.seq with
      readFirst := []
      written := []
      dirty := false
      sent := Nat.max k1.seq.sent k1.seq.pushIdx
      pushIdx := 0
      popsDone := 0
      cych := none } }

/-- SPR as it stands (R222). -/
def Core.sparing (k : Core) : Word := .ofNat 32 (k.spc.toNat * 256 + k.fev.toNat * 16 + k.spt.toNat)

/-- A new pitch entry at p (R57, R345). -/
def Core.newPitch (k : Core) (p : Pos) : Core :=
  let k1 := k.restart
  { k1 with
    seq := { k1.seq with recs := [], popsOver := false, pix := 0, sent := 0, pser := k1.seq.pser + 1 }
    ctl := { k1.ctl with pent := p }
    spr := k1.sparing }

/-- The bivouac's watch starts afresh (R70). -/
def Core.noWatch (k : Core) : Core :=
  { k with seq := { k.seq with
      watch := ⟨none, 0, k.regs.s, k.regs.p, none⟩
      lastLoad := none
      effect := false } }

/-- The pitch starts again at PENT with the registers as they are (R60, R204). -/
def Core.startAgain (k : Core) : Core :=
  let k1 := (k.restart.goto (Fetch.here k.ctl.pent)).noWatch
  { k1 with cnt := { k1.cnt with rwnd := k1.cnt.rwnd + 1 } }

/-- An accepted rewind (R60, R63). -/
def Core.rewind (k : Core) (now : Nat) : Core := (k.letGo now).startAgain

/-- Handler mode ends: the state that `tret` and `tret.at` leave (R184, R300). -/
def Core.leaveHandler (k : Core) : Core := { k with ctl := { k.ctl with hm := false } }

/-! ### Write-backs -/

/-- What opening the save areas and records of several cores answers. -/
inductive SaveOpen where
  | ready (s : State)
  | wait (s : State)
  /-- the save of this core's cairn cannot be performed (R309) -/
  | lost (c : Nat) (s : State)

/-- Open spans of the cairns that run on some cores, before they are written (R309). -/
def State.openWrites (spans : Kernel → Cairn → List (Nat × Nat × Nat)) : List Nat → State → SaveOpen
  | [], s => .ready s
  | c :: t, s => match s.running c with
    | none => State.openWrites spans t s
    | some (k, q) => match s.openAll k.asid k.kid.toNat c (.record c) (spans k q) with
      | .ready s1 => State.openWrites spans t s1
      | .wait s1 => .wait s1
      | .fail s1 => .lost c s1
      | .refused s1 => .lost c s1
/-- The save area of core c's cairn lies on belayed pages whose mirror cannot be reached, so that a save does not
reach belay scope (R309, R416, R434). -/
def State.unmirrored (s : State) (c : Nat) : Bool :=
  match s.running c with
  | some (k, q) => (!s.mirrorUp || (s.part k.pn).remirror) &&
      (splitBy 65536 q.save 0x3550).any (fun g => s.belayed (k.req g.1 2 c))
  | none => false
/-- Save areas and records (R309); the record follows when the area is complete at its scope. -/
def State.openSaves (s : State) (cs : List Nat) : SaveOpen :=
  match State.openWrites Kernel.saveSpans cs s with
  | .ready s1 => if cs.any s1.unmirrored then .wait s1 else .ready s1
  | o => o
/-- Records alone (R55, R301). -/
def State.openRecords (s : State) (cs : List Nat) : SaveOpen :=
  State.openWrites (fun k q => [(k.recVa q.ix, 2, 64)]) cs s

/-- A failed save: the cairn of core c is lost (R309). -/
def State.loseRunning (s : State) (c : Nat) : State :=
  match (s.core c).run with
  | some (kid, ix) => s.loseCairn kid ix
  | none => s

/-- Each of some cores is changed. -/
def State.updCores (s : State) (cs : List Nat) (f : Nat → Core → Core) : State :=
  cs.foldl (fun s c => s.updCore c (f c)) s

/-- What a core holds for once its save area is waited for: no wait of its own any more (R204, R427), but where a
rope, a settling supply, a tower's move or a claim holds it besides. -/
def Hold.saving : Option Hold → Hold
  | some (.rope w) => .rope w
  | some .supply => .supply
  | some (.towerMove g) => .towerMove g
  | some .claim => .claim
  | some .grant => .grant
  | some (.drain _ true) => .grant
  | _ => .walk
/-- The core holds issue until its save area can be written (R427). -/
def State.holdSave (s : State) (cs : List Nat) : State :=
  cs.foldl (fun s c => s.updCore c (fun k => k.toHold s.cycle (Hold.saving k.seq.hold))) s

/-- Save the cairn of core c in state TRAPPED; it stays on the core (R299). -/
def State.saveTrapped (s : State) (c : Nat) (code : Nat) : State :=
  match s.running c with
  | none => s
  | some (k, q) =>
    let core := s.core c
    let s1 := s.vwrite (k.req q.save 2 c) (core.saveBytes c q.ix 0)
    let r := recPut (core.recordNow .trapped) (256 + 16) 16 code
    let s2 := s1.recWrite k q.ix r
    (s2.updCairn k.kid q.ix (fun q => { q with st := .trapped })).updCore c (fun k => { k with recd := recSeal r })

/-- The record takes a new trap code (R301). -/
def State.noteTcode (s : State) (c : Nat) (code : Nat) : State :=
  match s.running c with
  | none => s
  | some (k, q) => s.recWrite k q.ix (recPut (s.recHeld k q.ix) (256 + 16) 16 code)

/-- What a pitch fault records: code, auxiliary value, faulting slots (R114, R299). -/
structure TrapRec where
  code : Nat
  tra : Word
  mask : Nat
  deriving DecidableEq, Repr

/-- The refusal of the rewind that a pitch fault needs, in any of the cores that are not in handler mode, as it
stands once every result has landed (R60, R299); members of a rope are refused together (R67, log 57). -/
def State.jointRefusal (s : State) (cs : List Nat) : Option Word :=
  cs.findSome? (fun c => if (s.core c).ctl.hm then none else (s.core c).landAll.refusal)

/-- The code and TRA that a fault is delivered with under a refusal (R299). -/
def TrapRec.delivered (f : TrapRec) (r : Option Word) : Nat × Word :=
  if f.code = trPitchNotIdempotent then (f.code, f.tra)
  else match r with
    | some tra => (trPitchNotIdempotent, tra)
    | none => (f.code, f.tra)

/-- PITCH_FAULT (R299), first on each core: results land, the trap registers take the fault, and registers and
record are saved TRAPPED; an accepted rewind counts (R63, R204). In handler mode only the record takes the
code (R301). A rope that was waited for is waited for no more. -/
def State.saveFault (s : State) (trb : Word) (f : TrapRec) (r : Option Word) (c : Nat) : State :=
  let k := s.core c
  if k.ctl.hm then s.noteTcode c f.code
  else
    let (code, tra) := f.delivered r
    let k1 := (k.landAll).letGo s.cycle
    let k2 := { k1 with
      cnt := if code = trPitchNotIdempotent then k1.cnt else { k1.cnt with rwnd := k1.cnt.rwnd + 1 }
      ctl := { k1.ctl with
        trc := .ofNat 16 code
        trb := trb
        trm := .ofNat 8 f.mask
        tra := tra } }
    let s1 := (s.setCore c k2).saveTrapped c code
    match k.run with
    | some (kid, ix) => s1.updCairn kid ix (fun q => { q with ropeWait := none })
    | none => s1

/-- Then, all being saved: issue goes on at HNDL in handler mode, or the kernel fails (R299, R301). -/
def State.enterFault (s : State) (f : TrapRec) (r : Option Word) (c : Nat) : State :=
  let k := s.core c
  match k.run with
  | none => s
  | some (kid, _) =>
    if k.ctl.hm then s.failKernel kid outDoubleFault
    else if k.ctl.hndl = 0xFFFFFFFF then s.failKernel kid (trapStatus (f.delivered r).1)
    else s.updCore c (fun k =>
      let k1 := ((k.clearPorts).goto ⟨refPos k.ctl.hndl, false, 3, k.ctl.hndl⟩).noWatch
      { k1 with
        ctl := { k1.ctl with hm := true }
        seq := { k1.seq with owes := none } })

/-- PITCH_FAULT on cores whose save spans are open (R67, R299). -/
def State.faultAll (s : State) (cs : List Nat) (trb : Nat → Word) (f : Nat → TrapRec) : State :=
  let r := s.jointRefusal cs
  let s1 := cs.foldl (fun s c => s.saveFault (trb c) (f c) r c) s
  cs.foldl (fun s c => s.enterFault (f c) r c) s1

/-- The fault is kept until the save area can be written; nothing issues before it is delivered (R299, R427). -/
def State.oweFault (s : State) (cs : List Nat) (o : Nat → Owed) : State :=
  (s.holdSave cs).updCores cs (fun c k => { k with seq := { k.seq with owes := some (o c) } })

/-- PITCH_FAULT in every member of a rope (R67, R299). -/
def State.deliverAs (s : State) (cs : List Nat) (trb : Nat → Word) (f : Nat → TrapRec) : State :=
  match (if cs.any (fun c => (s.core c).ctl.hm) then s.openRecords cs else s.openSaves cs) with
  | .ready s1 => s1.faultAll cs trb f
  | .wait s1 => s1.oweFault cs (fun c => .fault (trb c) (f c).code (f c).tra (f c).mask)
  | .lost c s1 => s1.loseRunning c

/-- PITCH_FAULT in every member of a rope at one bundle (R67, R299). -/
def State.deliver (s : State) (cs : List Nat) (trb : Word) (f : Nat → TrapRec) : State := s.deliverAs cs (fun _ => trb) f

/-- A fault in handler mode, in every member (R67, R301). -/
def State.doubleFault (s : State) (cs : List Nat) (code : Nat) : State := s.deliver cs 0 (fun _ => ⟨code, 0, 0⟩)

/-! ### Quarantine and grants -/

/-- QUAR := 1, PEND := 0 (R297). -/
def State.quarantineNow (s : State) (c : Nat) : State :=
  s.updCore c (fun k => { k with margin := { k.margin with quar := true, pend := false } })

/-- Quarantine is requested: at once if the core is idle (R297). -/
def State.requestQuarantine (s : State) (c : Nat) : State :=
  let k := s.core c
  if k.margin.quar ∨ k.margin.pend then s
  else if k.run = none then s.quarantineNow c
  else s.updCore c (fun k => { k with
    margin := { k.margin with pend := true }
    seq := { k.seq with preempt := match k.seq.preempt with
      | none => some s.cycle
      | p => p } })

/-- A request for pre-emption reaches core c (R306). -/
def State.requestPreempt (s : State) (c : Nat) : State :=
  s.updCore c (fun k => if k.run = none then k else { k with seq := { k.seq with
    preempt := match k.seq.preempt with
      | none => some s.cycle
      | p => p } })

/-- The cairn of core c is written back READY and joins the tail of its priority's list (R306);
its rope wait goes with it (R65). -/
def State.suspendReady (s : State) (c : Nat) (pix : Nat) : State :=
  match s.running c with
  | none => s
  | some (k, q) =>
    let s1 := s.writeBack c .ready pix id
    match s1.kernel k.kid with
    | some k1 => s1.makeReady k1 q.ix none
    | none => s1

/-- The cairn of core c parks: monitor word, compare value, timeout, SUM and BIV (R50, R51, R173). -/
def State.suspendParked (s : State) (c : Nat) (line : Nat) (v : Word) (tmo : Nat) (biv : Bool) : State :=
  match s.running c with
  | none => s
  | some (k, q) =>
    let s1 := s.writeBack c .parked 0 (fun r =>
      let r := recPut r 192 32 (c % 4 * 2 ^ 26 + line % 2 ^ 20 * 64)
      let r := recPut r 224 32 v.toNat
      let r := recPut r 264 8 tmo
      recPut r 262 1 (if biv then 1 else 0))
    { s1 with monitors := s1.monitors ++ [⟨k.kid, q.ix, c, line % 2 ^ 20, s.cycle, tmo, false⟩] }

/-- The cairn of core c parks at a summit (R69). -/
def State.suspendSummit (s : State) (c : Nat) : State :=
  match s.running c with
  | none => s
  | some (k, q) =>
    let s1 := s.writeBack c .parked 0 (fun r => recPut r 261 1 1)
    s1.updCairn k.kid q.ix (fun q => { q with sum := true })

/-- The cairn of core c is DONE; its registers are not saved (R55, R172). -/
def State.suspendDone (s : State) (c : Nat) : State :=
  match s.running c with
  | none => s
  | some (k, q) =>
    let s1 := s.recWrite k q.ix ((s.core c).recordNow .done)
    (s1.updCairn k.kid q.ix (fun q => { q with st := .done })).updCore c (Core.idle s.cycle)

/-! ### Push indices (R62, R310) -/

/-- The agents that R62 tells apart: barriers of the core, barriers of the cluster, the engines behind
the card queues, the stream switch, the matrix unit, the scatter-accumulate engine, the sweep engines,
the merge buffer, the service ring. -/
def agBarrier : Nat := 0
def agCluster : Nat := 1
def agCard (q : Nat) : Nat := 2 + q
def agSwitch : Nat := 16
def agMatrix : Nat := 17
def agAcc : Nat := 18
def agSweep : Nat := 19
def agMerge : Nat := 20
def agRing : Nat := 21

/-- An effect of index i of core c's pitch is suppressed: by the core below PIX (R310), or by the
agent that has accepted it (R62). In handler mode nothing is (R300). -/
def State.suppressed (s : State) (c agent i : Nat) : Bool :=
  let k := s.core c
  if k.ctl.hm then false
  else if i < k.seq.pix then true
  else match k.run with
    | none => false
    | some (kid, ix) =>
      s.seen.any (fun e => e.agent == agent && e.core == c && e.kid == kid && e.cix == ix &&
        e.pser == k.seq.pser.toNat && decide (i ≤ e.index))

/-- An indexed effect at commit: suppressed and counted, or accepted and noted (R62, R204). R204 counts what is
suppressed under R62; the model counts what the core itself suppresses below PIX (R310) with it (log 56). -/
def State.indexed (s : State) (c agent i : Nat) (f : State → State) : State :=
  if s.suppressed c agent i then
    s.updCore c (fun k => { k with cnt := { k.cnt with supp := k.cnt.supp + 1 } })
  else
    let k := s.core c
    let s1 := match k.run with
      | some (kid, ix) =>
        if k.ctl.hm then s
        else { s with seen :=
          ⟨agent, c, kid, ix, k.seq.pser.toNat, i⟩ :: s.seen.filter (fun e => !(e.agent == agent && e.core == c)) }
      | none => s
    f s1

end Sys2Proof.Machine
end

