-- ==== Sys2Proof/Machine/Code.lean ====
section
/-!
DEFINITION. Code: compressed segments and the loop buffer (R116 to R119), program order along the
segment chain (R74, R119), and branch targets (R99, R100, R167).
-/
namespace Sys2Proof.Machine

/-- SLINK, SFLG and the reserved bytes of a segment header (R116). -/
structure SegHead where
  cnt : Nat
  next : Nat
  /-- every must-be-zero bit is zero and CNT and NEXT are legal (R118) -/
  good : Bool
  chk : Nat
  deriving DecidableEq, Repr

def segHead (l : List Byte) : SegHead :=
  let slink := ofBytesLE (l.take 8)
  let cnt := nbits slink 48 10
  let next := nbits slink 0 48
  ⟨cnt, next,
   nbits slink 58 6 == 0 && ofBytesLE ((l.drop 8).take 4) / 2 == 0 && ofBytesLE ((l.drop 12).take 2) == 0 &&
     decide (1 ≤ cnt ∧ cnt ≤ 512) && next % 16 == 0,
   ofBytesLE ((l.drop 14).take 2)⟩

/-- The bytes of a record beyond its 2-byte header (R117). -/
def recordLen (h : Nat) : Nat := 4 * popcount 8 h

/-- The words of a record's present slots put in their places; an absent slot is 0 (R117). -/
def spread (pres : Nat) : List Nat → Nat → List Nat
  | [], _ => []
  | k :: ks, body =>
    if nbit pres k then (body % 2 ^ 32) :: spread pres ks (body / 2 ^ 32)
    else 0 :: spread pres ks body

/-- The expanded bundle of a record (R117, R118). -/
def expandRecord (h : Nat) (body : List Byte) : XBundle :=
  let ws := spread (nbits h 0 8) (List.range 8) (ofBytesLE body)
  let w0 := ws.headD 0
  let c := w0 % 2 ^ 30 + nbits h 8 1 * 2 ^ 31 + nbits h 9 1 * 2 ^ 30
  ⟨.ofNat 256 ((c :: ws.drop 1).foldr (fun w acc => w + 2 ^ 32 * acc) 0), nbits h 10 6 != 0 || w0 / 2 ^ 30 != 0⟩

/-- What reading a segment answers (R118). -/
inductive Expansion where
  | ok (s : State) (h : Half)
  /-- the header is rejected -/
  | rejected (s : State)
  | wait (s : State)
  | fail (s : State)

/-- The records of a segment, read in order from offset va; `got` gathers bundles and record bytes. -/
def State.readRecords (r : WalkRequest) (who : Requester) :
    Nat → Nat → List XBundle → List Byte → State → Span × List XBundle × List Byte × Bool
  | 0, _, xs, bs, s => (.ready s, xs, bs, false)
  | n + 1, va, xs, bs, s =>
    match s.openSpan { r with va := va } 2 who with
    | .ready s1 =>
      let hb := s1.vread { r with va := va } 2
      let h := ofBytesLE hb
      let len := recordLen h
      match s1.openSpan { r with va := va + 2 } len who with
      | .ready s2 =>
        if s2.vbad { r with va := va } (2 + len) then (.ready s2, xs, bs, true)
        else
          let body := s2.vread { r with va := va + 2 } len
          s2.readRecords r who n (va + 2 + len) (xs ++ [expandRecord h body]) (bs ++ hb ++ body)
      | o => (o, xs, bs, false)
    | o => (o, xs, bs, false)

/-- Read, check and expand the segment at code offset seg (R116 to R118). -/
def State.expand (s : State) (k : Kernel) (c seg : Nat) : Expansion :=
  let r := k.req (k.code + seg) 4 c
  let who := Requester.code c
  match s.openSpan r 16 who with
  | .wait s1 => .wait s1
  | .fail s1 => .fail s1
  | .refused s1 => .fail s1
  | .ready s1 =>
    let hb := s1.vread r 16
    let h := segHead hb
    if s1.vbad r 16 ∨ ¬ h.good then .rejected s1
    else match s1.readRecords r who h.cnt (k.code + seg + 16) [] [] with
      | (.ready s2, xs, bs, bad) =>
        if bad ∨ crc16 (hb.take 14 ++ bs) ≠ h.chk then .rejected s2 else .ok s2 ⟨seg, h.next, xs⟩
      | (.wait s2, _) => .wait s2
      | (.fail s2, _) => .fail s2
      | (.refused s2, _) => .fail s2

/-- The resident half that holds segment seg (R119). -/
def Core.resident (k : Core) (seg : Nat) : Option Half :=
  match k.seq.half0, k.seq.half1 with
  | some h, o => if h.seg = seg then some h else (match o with
    | some g => if g.seg = seg then some g else none
    | none => none)
  | none, some g => if g.seg = seg then some g else none
  | none, none => none

/-- The cores that issue together with c (R66). -/
def State.ropeCores (s : State) (c : Nat) : List Nat := (s.core c).members c
/-- The core whose stream a rope takes (R66): its lowest member. -/
def State.leader (s : State) (c : Nat) : Nat := (s.ropeCores c).headD c

/-- The size of the running kernel's code region in bytes; the largest when no kernel is known (R99). -/
def State.codeSize (s : State) (c : Nat) : Nat :=
  match s.running c with
  | some (k, _) => k.clen * 2 ^ 20
  | none => 128 * 2 ^ 20

/-- A segment at offset seg lies in the code region with room for a bundle (R74, R100, R167). -/
def State.inCode (s : State) (c seg : Nat) : Bool := decide (seg + 16 < s.codeSize c)

/-- The place after p in program order, in the stream that core c runs (R66, R74, R119). -/
def State.nextPlace (s : State) (c : Nat) (p : Pos) : Fetch :=
  match (s.core (s.leader c)).resident p.seg with
  | none => ⟨⟨p.seg, p.idx + 1⟩, false, 1, posRef p⟩
  | some h =>
    let last := posRef ⟨p.seg, h.bundles.length - 1⟩
    if p.idx + 1 < h.bundles.length then ⟨⟨p.seg, p.idx + 1⟩, false, 1, last⟩
    else if h.next = 0 ∨ ¬ s.inCode c h.next then ⟨⟨p.seg, p.idx + 1⟩, true, 1, last⟩
    else ⟨⟨h.next, 0⟩, false, 1, last⟩

/-- What a walk along the chain finds at a segment (R167). -/
inductive ChainHead where
  | counts (cnt next : Nat)
  | rejected
  /-- the header's page waits for fault service (R427) -/
  | waits
  deriving DecidableEq, Repr

/-- CNT and NEXT of a segment as a walk along the chain reads them: a segment that R118 rejects stops it, and so does
one that does not translate, which R167 does not name (log 58). What the reading finds out about memory is left
aside. -/
def State.chainHead (s : State) (c seg : Nat) : ChainHead :=
  match (s.core (s.leader c)).resident seg with
  | some h => .counts h.bundles.length h.next
  | none => match s.running c with
    | none => .rejected
    | some (k, _) =>
      let r := k.req (k.code + seg) 4 c
      match s.openSpan r 16 (.code c) with
      | .wait _ => .waits
      | .fail _ => .rejected
      | .refused _ => .rejected
      | .ready s1 =>
        let h := segHead (s1.vread r 16)
        match s.expand k c seg with
        | .rejected _ => .rejected
        | _ => .counts h.cnt h.next

/-- The place that stands idx bundles from the start of segment seg along the chain; past the end of
the route, the last bundle (R167, R168). -/
def State.walkChain (s : State) (c : Nat) : Nat → Nat → Nat → Except Pos Pos
  | 0, seg, idx => .ok ⟨seg, idx⟩
  | fuel + 1, seg, idx =>
    match s.chainHead c seg with
    | .counts cnt next =>
      if idx < cnt then .ok ⟨seg, idx⟩
      else if next = 0 ∨ ¬ s.inCode c next then .error ⟨seg, cnt - 1⟩
      else s.walkChain c fuel next (idx - cnt)
    | _ => .ok ⟨seg, idx⟩

/-- The segment whose header the place n positions after p waits for, if it does (R427). -/
def State.chainWaits (s : State) (c : Nat) (p : Pos) (n : Nat) : Option Nat :=
  match s.walkChain c (p.idx + n + 1) p.seg (p.idx + n) with
  | .ok q => if s.chainHead c q.seg = .waits then some q.seg else none
  | .error _ => none
/-- A core that holds for a header asks for its page (R427). -/
def State.ask (s : State) (c : Nat) (h : Hold) : State :=
  match h, s.running c with
  | .chain seg, some (k, _) => match s.openSpan (k.req (k.code + seg) 4 c) 16 (.code c) with
    | .wait s1 => s1
    | _ => s
  | _, _ => s

/-- The place n positions after p along the chain. -/
def State.forward (s : State) (c : Nat) (p : Pos) (n : Nat) : Except Pos Pos :=
  s.walkChain c (p.idx + n + 1) p.seg (p.idx + n)

/-- link(n) of a `call` at p (R101, R167). -/
def State.link (s : State) (c : Nat) (p : Pos) : Word :=
  match s.forward c p 4 with
  | .ok q => posRef q
  | .error _ => 0xFFFFFFFF

/-- A target by segment displacement and index, refused when an index or offset is negative (R100). A refused place
with a negative index stands at index 0 where a pitch entry takes it (log 52). -/
def targetAt (seg idx : Int) (refused : Word) : Fetch :=
  if seg < 0 ∨ idx < 0 then ⟨⟨seg.toNat, idx.toNat⟩, true, 2, refused⟩
  else ⟨⟨seg.toNat, idx.toNat⟩, false, 2, refused⟩

/-- The target of a branch by register (R100, R74). -/
def targetRef (w : Word) : Fetch := ⟨refPos w, false, 3, w⟩

end Sys2Proof.Machine
end

