-- ==== Sys2Proof/Machine/Control.lean ====
section
/-!
DEFINITION. Slot 0: branches, loops, suspension, barriers, ordering, traps, service requests and
control registers (R164 to R184, R200 to R204).
-/
namespace Sys2Proof.Machine

/-! ### Barriers (R176 to R178) -/

/-- Barrier id as core c names it (R176). -/
def State.bar (s : State) (c id : Nat) : Barrier :=
  if id < 112 then ((s.core c).bars[id]?).getD .zero
  else ((s.cluster (c / 4)).bars[id - 112]?).getD .zero
def State.setBar (s : State) (c id : Nat) (b : Barrier) : State :=
  if id < 112 then s.updCore c (fun k => { k with bars := k.bars.setIfInBounds id b })
  else s.updCluster (c / 4) (fun q => { q with bars := q.bars.setIfInBounds (id - 112) b })

/-- An arrival of kernel kid at a barrier (R177); one that is discarded counts in BARZ. -/
def State.arrive (s : State) (c id : Nat) (kid : Word) : State :=
  let b := s.bar c id
  if kid ≠ b.own ∨ b.cnt = 0 then s.updCore c (fun k => { k with cnt := { k.cnt with barz := k.cnt.barz + 1 } })
  else s.setBar c id { b with cnt := b.cnt - 1 }

/-- The barrier has completed for kernel kid (R177). -/
def State.barDone (s : State) (c id : Nat) (kid : Word) : Bool :=
  (s.bar c id).own == kid && (s.bar c id).cnt == 0

/-- The agent that keeps the barrier (R62). -/
def barAgent (id : Nat) : Nat := if id < 112 then agBarrier else agCluster

/-- The partition of core c, 8 when it belongs to none. -/
def State.corePart (s : State) (c : Nat) : Nat := (s.clusterPart (c / 4)).getD 8

/-! ### Remote operations outstanding (R179, R235 to R237) -/

def Sweep.done (w : Sweep) (catchup : Bool) : List Nat := if catchup then w.again else w.issued
/-- Pages of a query that have not landed on its core (R235, R387). -/
def Sweep.owes (w : Sweep) (m : SweepQuery) : Bool :=
  m.order.any (fun p =>
    let cu := decide (p / 64 < m.boundary)
    !(w.done cu).contains p || w.flying.any (fun f => f.page == p && f.catchup == cu && f.targets.contains m.core))

/-- The core whose operations a requester performs. -/
def Requester.worksFor : Requester → Option Nat
  | .card c _ _ => some c
  | .matrix c => some c
  | .acc c => some c
  | .landing c _ _ => some c
  | _ => none

/-- Core c has issued remote operations of which some read or write is still to be made (R235). -/
def State.outstanding (s : State) (c : Nat) : Bool :=
  let k := s.core c
  let mine (l : List Elem) : Bool := l.any (fun e => e.src == c)
  [0, 2, 4, 6, 32].any (fun q => match k.fifos[q]? with
    | some f => mine f.els
    | none => false) ||
  k.skids.toList.any (fun l => l.any (fun e => e.2.src == c)) ||
  k.jobs.toList.any (fun l => l.any (fun j => j.src == c && j.stage == .checked)) ||
  !k.mat.queue.isEmpty || !k.subs.isEmpty ||
  s.sweeps.any (fun w => w.members.any (fun m => m.core == c && w.owes m))

/-- A write in flight that must be complete at a scope, for core c (R237): its own cluster's towers; the module's
towers and HBM; other modules too, and what goes to the bus performed; the bus too, the read that follows a write
there returned; the mirror copies of belayed pages. -/
def Inbound.pends (f : Inbound) (c scope : Nat) : Bool :=
  match scope with
  | 0 => f.key * 16 / 2 ^ 26 / 4 == c / 4
  | 1 => !f.mirrored && !f.remote && !f.bus
  | 2 => !f.mirrored && (!f.bus || !f.done)
  | 3 => !f.mirrored
  | _ => !f.bus || !f.done

/-- `drain` at a scope holds core c (R179, R237, R434). -/
def State.drainHolds (s : State) (c scope : Nat) : Bool :=
  s.outstanding c || s.flight.any (fun f => f.who.worksFor == some c && f.pends c scope)

/-! ### Refresh deferral (R219 to R221) -/

/-- The current cap in ms (R220). -/
def State.deferCap (s : State) : Nat :=
  match s.house.temp with
  | .cool => 32000
  | .warm => 8000
  | .hot => 0

/-- ms that the oldest pending pass may still be deferred (R220). -/
def State.deferLeft (s : State) (k : Core) : Nat :=
  match k.leftSince with
  | none => s.deferCap
  | some (t, left) => Nat.min s.deferCap (left - (s.cycle - t) / 1000000)

/-- ms remaining in the deferral grant, saturating (R219). -/
def State.deferNow (s : State) (k : Core) : Nat :=
  Nat.min 65535 ((k.deferTo - s.cycle + 999999) / 1000000)

/-- Towers with a pass pending or running (R219). -/
def Core.refreshMask (k : Core) : Nat :=
  (List.range 16).foldl (fun a g => match k.towers[g]? with
    | some t => if t.pendSince ≠ none ∨ t.running ≠ none then a + 2 ^ g else a
    | none => a) 0

/-! ### Service ring (R181, R415) -/

/-- The CID register (R201). -/
def State.cid (s : State) (c : Nat) : Nat := s.modNum.toNat * 256 + c

/-- A `sys` of core c has no room: the ring is full, or its page does not translate (R415, R428). -/
def State.sysFull (s : State) (c : Nat) : Bool :=
  let pn := s.corePart c
  let p := s.part pn
  p.srEn && (decide ((p.srprod - p.srcons).toNat = 2 ^ p.srLog) ||
    (s.ringPlace pn p.srbase p.srLog 16 p.srprod).isNone)

/-- One service request is posted (R181, R415). -/
def State.postSys (s : State) (c code : Nat) : State :=
  let pn := s.corePart c
  let p := s.part pn
  match p.srEn, s.ringPlace pn p.srbase p.srLog 16 p.srprod with
  | true, some place =>
    let k := s.core c
    let ix := match k.run with
      | some e => e.2
      | none => 0
    (s.placeWrite 0 place (bytesLE 4 code ++ wordsLE [k.ctl.kid.toNat, ix, s.cid c])).updPart pn (fun q => { q with
      srprod := q.srprod + 1
      msix := q.msix.setIfInBounds 1 ((q.msix[1]?).getD 0 + 1) })
  | _, _ => s

/-! ### Control registers (R200 to R204) -/

/-- VAT.FREE of cluster cl (R367). -/
def State.vatFree (s : State) (cl : Nat) : Nat :=
  4096 - ((List.range 4).foldl (fun a j =>
    (s.core (4 * cl + j)).fifos.toList.foldl (fun a f => a + f.extra) a) 0)

/-- The owner's accepted commands not completed (R335). -/
def MatUnit.ownerCmds (m : MatUnit) : List Cmd :=
  m.queue.filter (fun q => m.owner == some (q.kid, q.cix))

/-- MST as read (R335). -/
def State.mstWord (s : State) (k : Core) : Nat :=
  let cmds := k.mat.ownerCmds
  let step := match cmds.find? (fun q => !q.swap) with
    | some q => q.step
    | none => 0
  (if s.house.alarm then 2 ^ 31 else 0) + cmds.length * 2 ^ 26 + step % 32 * 2 ^ 16 + k.mat.mst.toNat

/-- The running cairn owns the matrix unit (R336). -/
def Core.ownsUnit (k : Core) : Bool := k.run.isSome && k.mat.owner == k.run

/-- A region register pair as words (R209, R210). -/
def Region.baseWord (r : Region) : Nat := r.base.toNat * 64
def Region.limitWord (r : Region) : Nat :=
  r.swz.toNat * 2 ^ 30 + (if r.v then 2 ^ 29 else 0) + (if r.rd then 2 ^ 28 else 0) +
    (if r.wr then 2 ^ 27 else 0) + (if r.ew then 2 ^ 26 else 0) + r.limit.toNat * 64

/-- The event counter at number n (R204). -/
def Counters.get (x : Counters) (n : Nat) : Word :=
  match n with
  | 0xC0 => x.bndl
  | 0xC1 => x.nuls
  | 0xC2 => x.rply
  | 0xC3 => x.bivc
  | 0xC4 => x.rwnd
  | 0xC5 => x.istl
  | 0xC6 => x.barz
  | 0xC7 => x.lstl
  | 0xC8 => x.pick
  | 0xC9 => x.supp
  | 0xCA => x.sysq
  | _ => 0
def Counters.put (x : Counters) (n : Nat) (v : Word) : Counters :=
  match n with
  | 0xC0 => { x with bndl := v }
  | 0xC1 => { x with nuls := v }
  | 0xC2 => { x with rply := v }
  | 0xC3 => { x with bivc := v }
  | 0xC4 => { x with rwnd := v }
  | 0xC5 => { x with istl := v }
  | 0xC6 => { x with barz := v }
  | 0xC7 => { x with lstl := v }
  | 0xC8 => { x with pick := v }
  | 0xC9 => { x with supp := v }
  | 0xCA => { x with sysq := v }
  | _ => x

/-- The control register numbers that R200 assigns. -/
def cregAssigned (n : Nat) : Bool :=
  decide (n ≤ 0x6) || (n == 0x8 || n == 0x9) || (n == 0x10 || n == 0x11) ||
  decide (0x20 ≤ n ∧ n ≤ 0x2A) || decide (0x40 ≤ n ∧ n ≤ 0x52) || decide (0x60 ≤ n ∧ n ≤ 0x66) ||
  n == 0x80 || n == 0xA0 || decide (0xC0 ≤ n ∧ n ≤ 0xFF)

/-- A bundle that issues after a `drain` finds its cycles counted (R182, R204). -/
def Core.drained (k : Core) (now : Nat) : Core :=
  match k.seq.hold with
  | some (.drain _ _) => k.release now
  | _ => k

/-- The value that a `cread` of number n returns (R182, R200 to R204). -/
def State.cregRead (s : State) (c n : Nat) : SReg :=
  let k := s.core c
  let x := k.ctl
  let w (v : Nat) : SReg := ⟨.ofNat 32 v, 0⟩
  let now := k.seq.firstCycle.getD s.cycle
  match n with
  | 0x00 => w (s.cid c)
  | 0x01 => w c
  | 0x02 => ⟨x.kid, 0⟩
  | 0x03 => w x.asid.toNat
  | 0x04 => w x.vcl.toNat
  | 0x05 => w x.role.toNat
  | 0x06 => w (x.lead.toNat * 4 + x.ropeW.toNat)
  | 0x08 => w now
  | 0x09 => match k.seq.cych with
    | some v => ⟨v, 0⟩
    | none => w (now / 2 ^ 32)
  | 0x10 => w x.fpm.toNat
  | 0x11 => w x.fpf.toNat
  | 0x20 => ⟨(k.regs.lc[0]).cnt, (k.regs.lc[0]).tag⟩
  | 0x21 => ⟨(k.regs.lc[1]).cnt, (k.regs.lc[1]).tag⟩
  | 0x22 => ⟨posRef x.pent, 0⟩
  | 0x23 => ⟨x.trcWord, 0⟩
  | 0x24 => ⟨x.trb, 0⟩
  | 0x25 => w x.trm.toNat
  | 0x26 => ⟨x.tra, 0⟩
  | 0x27 => ⟨x.hndl, 0⟩
  | 0x28 => w x.bvn.toNat
  | 0x29 => ⟨x.maxp, 0⟩
  | 0x2A => ⟨(s.cluster (c / 4)).age, 0⟩
  | 0x50 => w (s.deferNow k * 65536 + k.refreshMask)
  | 0x51 => w (s.deferCap * 65536 + s.deferLeft k)
  | 0x52 => ⟨k.spr, 0⟩
  | 0x60 => w ((if k.margin.sub then 256 else 0) + k.margin.floor.toNat)
  | 0x61 => w (k.margin.gua.toNat * 65536 + k.margin.cur.toNat)
  | 0x62 => w k.margin.lim.toNat
  | 0x63 => ⟨k.margin.rpw, 0⟩
  | 0x64 => w k.margin.thr.toNat
  | 0x65 => w (k.margin.win.toNat * 65536 + k.margin.esc.toNat)
  | 0x66 => w (k.margin.hard.toNat * 65536 + k.margin.strk.toNat * 16 +
      (if k.margin.pend then 2 else 0) + (if k.margin.quar then 1 else 0))
  | 0x80 => w (s.mstWord k)
  | 0xA0 => w (s.vatFree (c / 4) * 65536 + (s.cluster (c / 4)).grow * 256 + (s.cluster (c / 4)).exh)
  | _ =>
    if 0x40 ≤ n ∧ n < 0x50 then
      match k.regions[(n - 0x40) / 2]? with
      | some r => if r.own = x.kid then w (if n % 2 = 0 then r.baseWord else r.limitWord) else w 0
      | none => w 0
    else ⟨(k.drained s.cycle).cnt.get n, 0⟩

/-- A region register is written by kernel kid (R208 to R210). -/
def Region.write (r : Region) (kid : Word) (limit : Bool) (v : Word) : Region :=
  let r0 := if r.own = kid then r else { Region.zero with own := kid }
  if limit then { r0 with
    swz := if v.extractLsb' 30 2 = 3 then 0 else v.extractLsb' 30 2
    v := v.getLsbD 29
    rd := v.getLsbD 28
    wr := v.getLsbD 27
    ew := v.getLsbD 26
    limit := v.extractLsb' 6 20 }
  else { r0 with base := v.extractLsb' 6 20 }

/-- CUR takes a value; a rise holds issue while the supply settles (R294, R296). -/
def Core.setCur (k : Core) (v : BitVec 8) (now : Nat) : Core :=
  let rise := k.margin.cur.ult v
  { k with
    margin := { k.margin with cur := v }
    seq := if rise ∧ k.seq.hold = none then { k.seq with hold := some .supply, holdSince := now } else k.seq }

/-- A `cwrite` of number n, but for the registers that land like results (R155, R182, R203, R296, R335). R295 does not
say what a write of RPW does to the window that runs: the model begins a window and keeps WIN, and STRK too where
RPW is written 0 (log 74). -/
def State.cregWrite (s : State) (c n : Nat) (v : Word) : State :=
  let ctl (f : Ctl → Ctl) : State := s.updCore c (fun k => { k with ctl := f k.ctl })
  let mar (f : Margin → Margin) : State := s.updCore c (fun k => { k with margin := f k.margin })
  match n with
  | 0x23 => ctl (fun x => { x with trc := v.extractLsb' 0 16 })
  | 0x24 => ctl (fun x => { x with trb := v })
  | 0x25 => ctl (fun x => { x with trm := v.extractLsb' 0 8 })
  | 0x26 => ctl (fun x => { x with tra := v })
  | 0x27 => ctl (fun x => { x with hndl := v })
  | 0x28 => ctl (fun x => { x with bvn := v.extractLsb' 0 8 })
  | 0x29 => ctl (fun x => { x with maxp := v })
  | 0x2A => s.updCluster (c / 4) (fun q => { q with age := v })
  | 0x60 => s.updCore c (fun k =>
      let k1 := { k with margin := { k.margin with sub := v.getLsbD 8, floor := v.extractLsb' 0 8 } }
      if v.getLsbD 8 then k1 else k1.setCur k1.margin.gua s.cycle)
  | 0x61 => s.updCore c (fun k =>
      if k.margin.sub then
        k.setCur (if k.margin.gua.ult (v.extractLsb' 0 8) then k.margin.gua else v.extractLsb' 0 8) s.cycle
      else k)
  | 0x62 => mar (fun x => { x with lim := v.extractLsb' 0 8 })
  | 0x63 => mar (fun x => { x with rpw := v, winStart := s.cycle })
  | 0x64 => mar (fun x => { x with thr := v.extractLsb' 0 16 })
  | 0x80 => s.updCore c (fun k => { k with mat := { k.mat with
      mst := v.extractLsb' 0 8 &&& 0xDF } })
  | _ =>
    if 0x40 ≤ n ∧ n < 0x50 then
      s.updCore c (fun k =>
        let r := ((k.regions[(n - 0x40) / 2]?).getD .zero).write k.ctl.kid (n % 2 == 1) v
        { k with regions := k.regions.setIfInBounds ((n - 0x40) / 2) r })
    else if 0xC0 ≤ n ∧ n < 0x100 then s.updCore c (fun k => { k with cnt := k.cnt.put n v })
    else s

/-- The writes of control registers that are committed-late (R115). -/
def cregLate (n : Nat) : Bool :=
  decide (0x40 ≤ n ∧ n < 0x50) || decide (0x60 ≤ n ∧ n ≤ 0x66) || n == 0x80

/-- The results by which a `cwrite` lands like an operation of latency 1 (R98, R157). -/
def cregRes (n : Nat) (v : Word) : List Res :=
  match n with
  | 0x10 => [⟨1, .fpm, .word v 0⟩]
  | 0x11 => [⟨1, .fpf, .word v 0⟩]
  | 0x20 => [⟨1, .lc 0, .word v 0⟩]
  | 0x21 => [⟨1, .lc 1, .word v 0⟩]
  | _ => []

/-! ### Branches (R166 to R171) -/

def Ctx.here (x : Ctx) : Pos := x.k.seq.fetch.pos

/-- A slot whose only effect is its flow. -/
def flowOut (reads : List RegId) (fl : Flow) : SlotOut := { nopOut with reads := reads, res := .ok [] id fl }

/-- The target of `br` and `call` (R100). -/
def Ctx.target20 (x : Ctx) (o : BitVec 20) : Fetch :=
  targetAt (x.here.seg + (o.extractLsb' 9 11).toInt * 16) (o.extractLsb' 0 9).toNat (posRef x.here)
/-- The target of `chk`, `chkv` and `brv` (R100). -/
def Ctx.targetOff {n : Nat} (x : Ctx) (o : BitVec n) : Fetch :=
  targetAt x.here.seg (x.here.idx + o.toInt) (posRef x.here)

def semBr (o : BitVec 20) (x : Ctx) : SlotOut :=
  { flowOut [] (.branch (x.target20 o)) with branch := true, taken := true }

def semCallR (o : BitVec 20) (x : Ctx) : SlotOut :=
  { nopOut with
    branch := true
    taken := true
    writes := [.s 47]
    res := match x.s.chainWaits x.c x.here 4 with
      | some seg => .hold (.chain seg)
      | none => .ok [⟨1, .s 47, .word (x.s.link x.c x.here) 0⟩] id (.branch (x.target20 o)) }

/-- A branch by register: a poisoned reference traps (R166). -/
def branchReg (a : BitVec 6) (x : Ctx) : SlotOut :=
  let r := x.rs a
  { nopOut with
    reads := idS a
    branch := true
    taken := true
    res := if r.tag ≠ 0 then .ofTrap trPoisonBranch else .ok [] id (.branch (targetRef r.val)) }

def semJr (a : BitVec 6) (x : Ctx) : SlotOut := branchReg a x
def semRet (x : Ctx) : SlotOut := branchReg 47 x

/-- Counter n armed with its body (R168). -/
def State.armLoop (s : State) (c n : Nat) (start : Pos) (stop : Option Pos) (armed : Bool) : State :=
  s.updCore c (fun k => { k with regs := { k.regs with
    lc := k.regs.lc.setIfInBounds n { (k.regs.lc[n]?).getD ⟨0, 0, ⟨0, 0⟩, none, false⟩ with
      start := start, stop := stop, armed := armed }
    lcLast := if armed then n else k.regs.lcLast } })

def semLoopR (c : BitVec 1) (a : BitVec 6) (l : BitVec 13) (x : Ctx) : SlotOut :=
  let v := x.rs a
  let n := c.toNat
  let start := match x.s.forward x.c x.here 1 with
    | .ok p => p
    | .error p => ⟨p.seg, p.idx + 1⟩
  let stop := match x.s.forward x.c x.here l.toNat with
    | .ok p => some p
    | .error _ => none
  let past : Fetch := match x.s.forward x.c x.here (l.toNat + 1) with
    | .ok p => ⟨p, false, 1, posRef p⟩
    | .error p => ⟨⟨p.seg, p.idx + 1⟩, true, 1, posRef p⟩
  { nopOut with
    reads := idS a
    writes := [.lc n]
    branch := true
    res := if v.tag ≠ 0 then .ofTrap trPoisonBranch
      else match x.s.chainWaits x.c x.here (if v.val = 0 then l.toNat + 1 else l.toNat) with
        | some seg => .hold (.chain seg)
        | none => .ok [⟨1, .lc n, .word v.val 0⟩] (fun s => s.armLoop x.c n start stop (v.val != 0))
          (if v.val = 0 then .skip n past else .arm n) }

def semChk (a : BitVec 6) (o : BitVec 14) (x : Ctx) : SlotOut :=
  { flowOut (idS a) (if (x.rs a).tag ≠ 0 then .branch (x.targetOff o) else .seq) with
    branch := true, taken := (x.rs a).tag != 0 }

def semChkv (v : BitVec 5) (o : BitVec 15) (x : Ctx) : SlotOut :=
  { flowOut (idV v) (if (x.rv v).tags ≠ 0 then .branch (x.targetOff o) else .seq) with
    branch := true, taken := (x.rv v).tags != 0 }

/-- `brv` (R171): mode true branches when all bits are set. -/
def branchMask (all : Bool) (m : BitVec 3) (o : BitVec 15) (x : Ctx) : SlotOut :=
  let r := x.rm m.toNat
  { nopOut with
    reads := idM m.toNat
    branch := true
    taken := r.tags == 0 && r.bits == (if all then BitVec.allOnes 256 else 0)
    res :=
      if r.tags ≠ 0 then .ofTrap trPoisonBranch
      else if r.bits = BitVec.allOnes 256 then .ok [] id (if all then .branch (x.targetOff o) else .seq)
      else if r.bits = 0 then .ok [] id (if all then .seq else .branch (x.targetOff o))
      else .ofTrap trNonuniformBranch }

def semBrvAll (m : BitVec 3) (o : BitVec 15) : Ctx → SlotOut := branchMask true m o
def semBrvNone (m : BitVec 3) (o : BitVec 15) : Ctx → SlotOut := branchMask false m o

/-! ### Suspension, ropes and trap returns (R172 to R175, R184) -/

def semHaltR (_x : Ctx) : SlotOut := { flowOut [] .halt with effect := true }

def semYield (_x : Ctx) : SlotOut := { flowOut [] .yield with effect := true }
def semSummit (_x : Ctx) : SlotOut := { flowOut [] .summit with effect := true }

def semPark (a b : BitVec 6) (t : BitVec 8) (x : Ctx) : SlotOut :=
  let p := x.rs a
  let v := x.rs b
  let adr := alignDown p.val.toNat 4
  { nopOut with
    reads := idS a ++ idS b
    effect := true
    res :=
      if p.tag ≠ 0 then .ofTrap trPoisonAddress
      else if ¬ x.canRead adr then .trap trRegionViolation (.ofNat 32 adr)
      else .ok [] id (if v.tag ≠ 0 then .noPark else .park (.ofNat 32 adr) v.val t.toNat) }

/-- `rope` with width field w (R64, R174). -/
def ropeOut (w : Nat) (x : Ctx) : SlotOut :=
  { nopOut with
    effect := true
    res :=
      if x.k.ctl.ropeW ≠ 0 then .trap trRopeDivergence 4
      else match x.s.running x.c with
        | some (_, q) => if q.pin < 4 then .trap trRopeDivergence 1 else .ok [] id (.rope w)
        | none => .ok [] id (.rope w) }

def semRopePair : Ctx → SlotOut := ropeOut 0
def semRopeQuad : Ctx → SlotOut := ropeOut 1
def semUnrope (_x : Ctx) : SlotOut := { flowOut [] .unrope with effect := true }

def semTret (_x : Ctx) : SlotOut := flowOut [] .tret
def semTretAt (a : BitVec 6) (x : Ctx) : SlotOut :=
  let r := x.rs a
  { nopOut with
    reads := idS a
    res := if r.tag ≠ 0 then .ofTrap trPoisonBranch else .ok [] id (.tretAt (targetRef r.val)) }

/-! ### Barriers, ordering, traps, requests (R177 to R183) -/

def semBarset (i : BitVec 7) (a : BitVec 6) (x : Ctx) : SlotOut :=
  let v := x.rs a
  { nopOut with
    reads := idS a
    indexed := true
    effect := true
    res := if v.tag ≠ 0 then .ofTrap trPoisonStore
      else .ok [] (fun s => s.indexed x.c (barAgent i.toNat) x.idx
        (fun s => s.setBar x.c i.toNat ⟨v.val.extractLsb' 0 16, x.kid⟩)) .seq }

def semBararr (i : BitVec 7) (x : Ctx) : SlotOut :=
  { nopOut with
    indexed := true
    effect := true
    res := .ok [] (fun s => s.indexed x.c (barAgent i.toNat) x.idx
      (fun s => s.arrive x.c i.toNat x.kid)) .seq }

def semBarwait (i : BitVec 7) (x : Ctx) : SlotOut :=
  { nopOut with res := if x.s.barDone x.c i.toNat x.kid then .ok [] id .seq else .hold .barwait }

def semBartest (i : BitVec 7) (p : BitVec 3) (x : Ctx) : SlotOut :=
  predOut 1 p.toNat [] (x.s.barDone x.c i.toNat x.kid) 0

/-- `drain` (R165, R179): its bundle waits for what was issued before it, and the next one for what the bundle
itself issues (log 60). -/
def semDrain (d : BitVec 3) (x : Ctx) : SlotOut :=
  { nopOut with res := if x.s.drainHolds x.c d.toNat then .hold (.drain d.toNat false) else .ok [] id (.drain d.toNat) }

def semTrapR (c : BitVec 16) (_x : Ctx) : SlotOut :=
  { nopOut with res := .trap trTrapInstr (c.zeroExtend 32) }

def semSys (c : BitVec 16) (x : Ctx) : SlotOut :=
  { nopOut with
    indexed := true
    effect := true
    res := if x.s.sysFull x.c ∧ ¬ x.s.suppressed x.c agRing x.idx then .hold .sys
      else .ok [] (fun s => s.indexed x.c agRing x.idx (fun s => s.postSys x.c c.toNat)) .seq }

/-- `cread` (R182). LC0 and LC1 count as loop counters in the group check and in the tracking (R60, R96,
log 61). -/
def semCread (d : BitVec 6) (r : BitVec 12) (x : Ctx) : SlotOut :=
  let n := r.toNat
  let v := x.s.cregRead x.c n
  { nopOut with
    reads := if n = 0x20 then [.lc 0] else if n = 0x21 then [.lc 1] else []
    writes := dstS d
    res :=
      if ¬ cregAssigned n then .ofTrap trIllegalCreg
      else if n = 0x80 ∧ ¬ x.k.ownsUnit then .hold .claim
      else .ok ((dstS d).map (fun q => ⟨1, q, .word v.val v.tag⟩))
        (fun s =>
          if n = 0x08 then s.updCore x.c (fun k => { k with seq := { k.seq with
            cych := some (.ofNat 32 (x.k.seq.firstCycle.getD x.s.cycle / 2 ^ 32)) } })
          else if n = 0x09 then s.updCore x.c (fun k => { k with seq := { k.seq with cych := none } })
          else s) .seq }

/-- `cwrite` (R182). LC0 and LC1 count as loop counters (log 61). -/
def semCwrite (r : BitVec 12) (a : BitVec 6) (x : Ctx) : SlotOut :=
  let n := r.toNat
  let v := x.rs a
  { nopOut with
    reads := idS a
    writes := if n = 0x20 then [.lc 0] else if n = 0x21 then [.lc 1] else []
    effect := cregLate n
    res :=
      if ¬ cregAssigned n then .ofTrap trIllegalCreg
      else if v.tag ≠ 0 then .ofTrap trPoisonStore
      else if n = 0x80 ∧ ¬ x.k.ownsUnit then .hold .claim
      else .ok (cregRes n v.val) (fun s => s.cregWrite x.c n v.val) .seq }

def semRfdefer (a : BitVec 6) (x : Ctx) : SlotOut :=
  let v := x.rs a
  { nopOut with
    reads := idS a
    res := .ok [] (fun s =>
      if v.tag ≠ 0 then s
      else s.updCore x.c (fun k =>
        { k with deferTo := s.cycle + Nat.min (bits v.val 0 16) (s.deferLeft k) * 1000000 })) .seq }

end Sys2Proof.Machine
end

