-- ==== Sys2Proof/Machine/Issue.lean ====
section
/-!
DEFINITION. The issue of one bundle: guards, group dependences, traps, holds, effects together, loop
closes, delay slots, the end of a pitch (R57 to R59, R66, R67, R79 to R103, R114, R169, R299, R306).
-/
namespace Sys2Proof.Machine

/-- A decoded bundle: its flags, whether its record was malformed (R118), and its slot operations. -/
structure Bun where
  stop : Bool
  qui : Bool
  bad : Bool
  lit : Word
  ops : List SlotOp

/-- What became of one slot: the guard's read, the answer of a slot with a true guard, and a trap that
its encoding, its guard or the group rule raises. -/
structure Seen where
  slot : Nat
  greads : List RegId
  out : Option SlotOut
  strap : Option Nat

/-- The port whose result a port source names: q1 moves with q0 (R85, R96). -/
def portBase : RegId → RegId
  | .sPort 1 => .sPort 0
  | .sPort 3 => .sPort 2
  | r => r

/-- A read depends on an earlier bundle of the group (R96). -/
def Seq.depends (q : Seq) (r : RegId) : Bool :=
  q.grpWrites.contains r || q.grpPorts.contains (portBase r)

/-- The encoding is illegal where it stands (R59, R112, R175). -/
def SlotOp.illegal (op : SlotOp) (qui hm : Bool) : Bool :=
  !op.legal || (op.needsQ && !qui) || (match op.mode with
    | some m => m != hm
    | none => false)

/-- One slot judged (R80, R96, R114): bw holds the registers that lower slots of the bundle write. -/
def judgeSlot (x : Ctx) (qui : Bool) (bw : List RegId) (op : SlotOp) : Seen :=
  let none_ : Seen := ⟨op.slot, [], none, none⟩
  if op.illegal qui x.k.ctl.hm then { none_ with strap := some trIllegalEncoding }
  else if op.isNop then none_
  else
    let g := op.guard.toNat % 8
    let p := x.k.pred g
    if p.tag ≠ 0 then { none_ with greads := idP g, strap := some trPoisonBranch }
    else if (p.val ^^ op.guard.getLsbD 3) = false then
      { none_ with greads := idP g, strap := if (idP g).any x.k.seq.depends then some trGroupDependence else none }
    else
      let o := op.sem x
      let dep := (idP g).any x.k.seq.depends || o.reads.any x.k.seq.depends || o.writes.any (fun r => x.k.seq.grpWrites.contains r || bw.contains r)
      ⟨op.slot, idP g, some o, if dep then some trGroupDependence else none⟩

/-- The slots judged in order; each takes the push index it would carry (R62). -/
def judgeOps (x : Ctx) (qui : Bool) : List SlotOp → List RegId → List Seen
  | [], _ => []
  | op :: t, bw =>
    let v := judgeSlot x qui bw op
    let (bw1, n) := match v.out with
      | some o => (bw ++ o.writes, if o.indexed then 1 else 0)
      | none => (bw, 0)
    v :: judgeOps { x with idx := x.idx + n } qui t bw1

/-- A replayed slot gives the results of its first issue (R115, R290). -/
def Seen.again (first : List (Nat × List (Nat × RegId × WVal))) (v : Seen) : Seen :=
  match v.out, assocGet first v.slot with
  | some o, some rs => match o.res with
    | .ok _ f fl => { v with out := some { o with res := .ok (rs.map (fun r => ⟨r.1, r.2.1, r.2.2⟩)) f fl } }
    | _ => v
  | _, _ => v

/-- The slots of a bundle as core c sees them. -/
def State.judge (s : State) (c : Nat) (b : Bun) : List Seen :=
  let l := judgeOps ⟨s, c, b.lit, (s.core c).seq.pushIdx⟩ b.qui b.ops []
  match (s.core c).seq.first with
  | none => l
  | some first => l.map (Seen.again first)

/-- Slot 0 as judged. -/
def seen0 (l : List Seen) : Option Seen := l.find? (fun v => v.slot == 0)
/-- The answer of slot 0, if its guard is true. -/
def out0 (l : List Seen) : Option SlotOut := (seen0 l).bind (·.out)
/-- The answer of slot 0, if its guard is true and nothing is wrong with it. -/
def slot0 (l : List Seen) : Option SlotOut :=
  match seen0 l with
  | some v => if v.strap.isNone then v.out else none
  | none => none

def SlotOut.flow (o : SlotOut) : Flow :=
  match o.res with
  | .ok _ _ f => f
  | _ => .seq
/-- The flow of a bundle. -/
def flowOf (l : List Seen) : Flow :=
  match slot0 l with
  | some o => o.flow
  | none => .seq

/-- What is charged to slot 0 for the bundle as a whole, whatever else is wrong with the slot (R77, R95, R102,
R114, R118). -/
def Core.bundleBad (k : Core) (b : Bun) (l : List Seen) : Bool :=
  b.bad || (b.qui && !b.stop) || decide (16 ≤ k.seq.grpLen) ||
  (match k.seq.br with
   | some (n, _, _) => (b.qui && decide (2 ≤ n)) || (out0 l).any (·.branch)
   | none => false) ||
  (b.qui && (out0 l).any (·.taken))

/-- The armed counters whose END is p, the one armed most recently first (R169). -/
def Core.closing (k : Core) (p : Pos) : List Nat :=
  let order := if k.regs.lcLast = 0 then [0, 1] else [1, 0]
  order.filter (fun n => match k.regs.lc[n]? with
    | some l => l.armed && l.stop == some p
    | none => false)

def Core.lcOf (k : Core) (n : Nat) : LoopCtr := (k.regs.lc[n]?).getD ⟨0, 0, ⟨0, 0⟩, none, false⟩

/-- The counters that a close visits: those that fall through, then the one that returns (R169). -/
def Core.closeVisit (k : Core) : List Nat → List Nat
  | [] => []
  | n :: t => if (k.lcOf n).cnt.toNat > 1 then [n] else n :: k.closeVisit t

/-- No close happens at a taken branch or in a delay slot; a `loop` takes its own counter out (R168, R169). -/
def Core.visits (k : Core) (fl : Flow) : List Nat :=
  let ends := k.closing k.seq.fetch.pos
  match fl, k.seq.br with
  | .branch _, _ => []
  | _, some _ => []
  | .skip n _, none => k.closeVisit (ends.filter (· ≠ n))
  | .arm n, none => k.closeVisit (ends.filter (· ≠ n))
  | _, none => k.closeVisit ends

/-- Traps of one core in slot order (R62, R94, R114). -/
def Core.traps (k : Core) (b : Bun) (l : List Seen) : List (Nat × Nat × Word) :=
  let own := l.filterMap (fun v => match v.strap with
    | some c => some (v.slot, c, 0)
    | none => match v.out with
      | some o => match o.res with
        | .trap c a => some (v.slot, c, a)
        | _ => none
      | none => none)
  let l1 := if k.bundleBad b l then (0, trIllegalEncoding, 0) :: own.filter (fun t => t.1 != 0) else own
  if (k.visits (flowOf l)).any (fun n => (k.lcOf n).tag != 0) ∧ ¬ l1.any (fun t => t.1 == 0)
  then (0, trPoisonBranch, 0) :: l1 else l1

/-- A trap that the encoding, a guard or the group rule raises comes before any hold. -/
def Core.structural (k : Core) (b : Bun) (l : List Seen) : Bool :=
  k.bundleBad b l || l.any (fun v => v.strap.isSome)

/-- The trap that a slot's push index raises (R62). -/
def indexTraps (k : Core) : List Seen → Nat → List (Nat × Nat × Word)
  | [], _ => []
  | v :: t, i => match v.out with
    | some o =>
      if o.indexed then
        if 65536 ≤ i ∧ ¬ k.ctl.hm then (v.slot, trPitchNotIdempotent, 1) :: indexTraps k t (i + 1)
        else indexTraps k t (i + 1)
      else indexTraps k t i
    | none => indexTraps k t i

def Core.allTraps (k : Core) (b : Bun) (l : List Seen) : List (Nat × Nat × Word) :=
  let a := k.traps b l
  let i := (indexTraps k l k.seq.pushIdx).filter (fun t => ¬ a.any (fun u => u.1 == t.1))
  (List.range 8).filterMap (fun n => (a ++ i).find? (fun t => t.1 == n))

/-- What a core records when these slots fault (R114); no mask when none does (R67). -/
def trapRec (own all : List (Nat × Nat × Word)) : TrapRec :=
  let pick := if own.isEmpty then all else own
  match pick with
  | [] => ⟨0, 0, 0⟩
  | t :: _ => ⟨t.2.1, t.2.2, own.foldl (fun a u => a + 2 ^ u.1) 0⟩

/-- Holds that stand before the operation issues (R98, R165, R230, R327, R336). -/
def Hold.early : Hold → Bool
  | .sys => false
  | .push => false
  | .matrixQueue => false
  | _ => true

def holdsOf (early : Bool) (l : List Seen) : List Hold :=
  l.filterMap (fun v => match v.out with
    | some o => match o.res with
      | .hold h => if h.early == early then some h else none
      | _ => none
    | none => none)

/-- The core holds the bundle (R165). -/
def State.setHold (s : State) (c : Nat) (h : Hold) : State := s.updCore c (fun k => k.toHold s.cycle h)

/-! ### Where issue goes (R101, R168, R169) -/

/-- A branch from f to t is backward (R70). -/
def backward (t f : Pos) : Bool := decide (t.seg < f.seg) || (t.seg == f.seg && decide (t.idx ≤ f.idx))

/-- The next place, the delay slots still to come, and the bundle that a backward branch left. -/
structure Turn where
  fetch : Fetch
  br : Option (Nat × Fetch × Pos)
  back : Option Pos
  deriving DecidableEq, Repr

def State.turn (s : State) (c : Nat) (fl : Flow) : Turn :=
  let k := s.core c
  let here := k.seq.fetch.pos
  let on := s.nextPlace c here
  let past : Fetch := match fl with
    | .skip _ t => t
    | _ => on
  match fl with
  | .branch t => ⟨on, some (3, t, here), none⟩
  | _ => match k.seq.br with
    | some (0, t, _) => ⟨t, none, none⟩
    | some (1, t, f) => ⟨t, none, if backward t.pos f then some f else none⟩
    | some (n + 2, t, f) => ⟨on, some (n + 1, t, f), none⟩
    | none => match (k.visits fl).getLast? with
      | some n =>
        if (k.lcOf n).cnt.toNat > 1 then ⟨⟨(k.lcOf n).start, false, 1, posRef here⟩, none, some here⟩
        else ⟨past, none, none⟩
      | none => ⟨past, none, none⟩

/-- The closes of a bundle (R169, R460). -/
def Core.close (k : Core) (l : List Nat) : Core :=
  l.foldl (fun k n =>
    let q := k.lcOf n
    let q1 := if q.cnt.toNat > 1 then { q with cnt := q.cnt - 1 } else { q with cnt := 0, armed := false }
    { k with regs := { k.regs with lc := k.regs.lc.setIfInBounds n q1 } }) k

/-! ### The bivouac's watch (R70) -/

/-- A backward taken branch from f arrives at its target: the watch is brought up to date. -/
def Core.arrive (k : Core) (f : Pos) : Core :=
  if k.ctl.hm then k
  else
    let w := k.seq.watch
    let good := !k.seq.effect && k.seq.lastLoad.isSome && decide (k.regs.s = w.s) && decide (k.regs.p = w.p)
    let n := if good then (if w.branch = some f ∧ w.load = k.seq.lastLoad then w.iters + 1 else 1) else 0
    { k with seq := { k.seq with
        watch := ⟨some f, n, k.regs.s, k.regs.p, k.seq.lastLoad⟩
        lastLoad := none
        effect := false } }

/-- The bivouac fires before the next bundle issues (R70): the rewind would land every result in flight and be
accepted. -/
def Core.ripe (k : Core) : Bool :=
  !k.ctl.hm && k.ctl.bvn != 0 && decide (k.ctl.bvn.toNat ≤ k.seq.watch.iters) && k.landAll.refusal.isNone

/-! ### Commit -/

/-- One slot takes effect: reads noted, other effects, results on their way (R60, R62, R97). -/
def State.commitSlot (c n : Nat) (src : Word) (s : State) (v : Seen) : State :=
  let s0 := s.updCore c (fun k => v.greads.foldl Core.noteRead k)
  match v.out with
  | none => s0
  | some o =>
    let s1 := s0.updCore c (fun k => o.reads.foldl Core.noteRead k)
    match o.res with
    | .ok rs f _ =>
      let s2 := f s1
      s2.updCore c (fun k => { k with
        pend := rs.foldl (fun l r => pendInsert ⟨n + r.lat, r.dst, r.val, n, src⟩ l) k.pend
        seq := { k.seq with
          pushIdx := if o.indexed ∧ ¬ k.ctl.hm then k.seq.pushIdx + 1 else k.seq.pushIdx
          effect := k.seq.effect || o.effect } })
    | _ => s1

/-- Some slots of the bundle take effect on core c. -/
def State.commitSlots (s : State) (c : Nat) (l : List Seen) : State :=
  l.foldl (State.commitSlot c (s.core c).seq.pos (posRef (s.core c).seq.fetch.pos)) s

/-- Every slot of the bundle takes effect on the cores cs; what slot 0 of one of them writes to a control register
takes effect for none of the slots (R182, R208). -/
def State.commitEffects (s : State) (cs : List Nat) (v : Nat → List Seen) : State :=
  cs.foldl (fun s c => s.commitSlots c ((v c).filter (·.slot = 0)))
    (cs.foldl (fun s c => s.commitSlots c ((v c).filter (·.slot ≠ 0))) s)

/-- The nullifier skips the bundle (R103): no slot but false guards on settled predicates. -/
def Core.skips (k : Core) (b : Bun) (l : List Seen) : Bool :=
  !b.qui && !k.structural b l &&
  b.ops.all (fun op => op.isNop ||
    (let g := op.guard.toNat % 8
     let p := k.pred g
     g != 0 && p.tag == 0 && !(p.val ^^ op.guard.getLsbD 3) &&
       (let t := (k.seq.predVis[g]?).getD 0
        t == 0 || decide (t + 2 ≤ k.seq.pos)) &&
       !k.pend.any (fun e => e.dst == .p g)))

/-- The bundle counts as issued or as skipped (R204). The model counts a position when its bundle commits: one
whose bundle raises a pitch fault does not count (log 63). -/
def Core.count (k : Core) (skip : Bool) : Core :=
  { k with cnt := if skip then { k.cnt with nuls := k.cnt.nuls + 1 } else { k.cnt with bndl := k.cnt.bndl + 1 } }

/-- Position counter, landings, group and loop counters after the bundle (R95, R97, R169); before a fence
nothing lands yet, so that all that becomes visible at the entry ties there (R58, R97). -/
def Core.advance (k : Core) (b : Bun) (l : List Seen) (t : Turn) (visits : List Nat) (fence : Bool) : Core :=
  let k1 := visits.foldl (fun k n => (k.noteRead (.lc n)).noteWrite (.lc n)) k
  let k2 := k1.close visits
  let n := k2.seq.pos + 1
  let k3 := { k2 with
    seq := { k2.seq with
      pos := n
      exec1 := !k2.seq.half0.any (fun (h : Half) => h.seg == k2.seq.fetch.pos.seg)
      fetch := t.fetch
      br := t.br
      replays := 0
      firstCycle := none
      first := none
      grpLen := if b.stop then 0 else k2.seq.grpLen + 1
      grpWrites := if b.stop then [] else l.foldl (fun (a : List RegId) (v : Seen) => match v.out with
        | some o => a ++ o.writes
        | none => a) k2.seq.grpWrites
      grpPorts := if b.stop then [] else l.foldl (fun (a : List RegId) (v : Seen) => match v.out with
        | some o => a ++ o.ports
        | none => a) k2.seq.grpPorts } }
  if fence then k3 else k3.landDue n

/-- The tower whose pass has been pending longest (R221). -/
def Core.oldestPending (k : Core) : Option Nat :=
  ((List.range 16).foldl (fun (o : Option (Nat × Nat)) g => match k.towers[g]? with
    | some t => match t.pendSince, o with
      | some p, some (q, h) => if p < q then some (p, g) else some (q, h)
      | some p, none => some (p, g)
      | none, _ => o
    | none => o) none).map (·.2)

def Core.tower (k : Core) (g : Nat) : Tower := (k.towers[g]?).getD ⟨0, none, none, none, [], []⟩
def Core.setTower (k : Core) (g : Nat) (t : Tower) : Core := { k with towers := k.towers.setIfInBounds g t }

/-- Some tower of the core refreshes (R218). -/
def Core.refreshing (k : Core) : Bool := k.towers.toList.any (fun t => t.running.isSome)

/-- A pending pass of tower g starts (R218). -/
def Core.startPass (k : Core) (g now : Nat) : Core :=
  k.setTower g { k.tower g with pendSince := none, running := some now }

/-- With LEFT at 0 the oldest pending pass is forced and the grant ends (R221). -/
def State.forcePass (s : State) (c : Nat) : State :=
  let k := s.core c
  match k.oldestPending with
  | some g =>
    if s.deferLeft k ≠ 0 ∨ k.refreshing then s
    else s.setCore c { k.startPass g s.cycle with deferTo := s.cycle }
  | none => s

/-- The first tower that must move to a spare at a Q commit (R311 step 3). -/
def Core.moveDue (k : Core) : Option Nat :=
  (List.range 16).find? (fun g => match k.towers[g]? with
    | some t => !t.moving.isEmpty && !k.spareTowers.isEmpty
    | none => false)

/-- The pitch ends on core c (R57, R58, R221, R300, R311). -/
def State.endPitch (s : State) (c : Nat) : State :=
  let s1 := s.updCore c (fun k =>
    if k.ctl.hm then
      let k1 := k.landAll.clearPorts
      { k1 with seq := { k1.seq with grpLen := 0, grpWrites := [], grpPorts := [] } }
    else k.newPitch k.seq.fetch.pos)
  let s2 := s1.forcePass c
  match (s2.core c).moveDue with
  | some g => s2.setHold c (.towerMove g)
  | none => s2

/-- The cairn of core c runs again (R55). -/
def State.noteRunning (s : State) (c : Nat) : State :=
  match (s.core c).run with
  | some (kid, ix) => s.updCairn kid ix (fun q => { q with st := .running })
  | none => s

/-- A waiting request is granted: the cairn goes back READY; quarantine takes effect (R297, R306). -/
def State.grant (s : State) (c : Nat) : State :=
  let q := (s.core c).margin.pend
  let s1 := s.suspendReady c 0
  if q then s1.quarantineNow c else s1

/-- A request waits at a Q point that the core has not left: while it waits for a rope (R65), or when
the remote operations of a `drain` in that Q bundle are complete (R179, R306). -/
def State.grantable (s : State) (c : Nat) : Bool :=
  let k := s.core c
  k.run.isSome && k.seq.preempt.isSome && !k.ctl.hm && k.seq.upset.isNone && k.seq.owes.isNone && (match k.seq.hold with
    | some (.rope _) => true
    | some (.drain scope true) => !s.drainHolds c scope
    | some .grant => true
    | _ => false)

/-- Quarantine at the end of a suspension (R297). -/
def State.quarantineAfter (q : Bool) (c : Nat) (s : State) : State := if q then s.quarantineNow c else s

/-- `park` at commit (R173): does the word match, clean? -/
def State.parks (s : State) (c : Nat) (a v : Word) : Bool :=
  let kid := (s.core c).ctl.kid
  s.wordTag c kid a.toNat == 0 && s.padRead c kid a.toNat 4 == v.toNat

/-- A request that waits is granted at this Q point (R306). -/
def State.grantWaiting (s : State) (c : Nat) : State :=
  if (s.core c).seq.preempt.isSome ∧ ¬ (s.core c).ctl.hm then s.grant c else s

/-- What the flow of a bundle does to core c once the bundle has committed. -/
def State.finish (s : State) (c : Nat) (b : Bun) (fl : Flow) : State :=
  let k := s.core c
  let quar := k.margin.pend
  match fl with
  | .tret =>
    if (s.ropeCores c).any (fun d => (s.core d).landAll.refusal.isSome) then s.doubleFault (s.ropeCores c) trPitchNotIdempotent
    else ((s.setCore c (k.rewind s.cycle).leaveHandler).noteRunning c).grantWaiting c
  | .tretAt t =>
    ((s.setCore c (((k.leaveHandler).newPitch t.pos).goto t).noWatch).noteRunning c).grantWaiting c
  | .drain scope =>
    let s1 := if b.qui then s.endPitch c else s
    if s1.drainHolds c scope then s1.setHold c (.drain scope b.qui)
    else if b.qui then s1.grantWaiting c else s1
  | _ =>
    if ¬ b.qui then s
    else
      let s1 := s.endPitch c
      match fl with
      | .halt => (s1.suspendDone c).quarantineAfter quar c
      | .yield => (s1.suspendReady c 0).quarantineAfter quar c
      | .summit => (s1.suspendSummit c).quarantineAfter quar c
      | .park a v t => (s1.suspendParked c (a.toNat / 64) v t false).quarantineAfter quar c
      | .rope w =>
        let s2 := match k.run with
          | some (kid, ix) => s1.updCairn kid ix (fun q => { q with ropeWait := some w })
          | none => s1
        if k.seq.preempt.isSome then s2.grant c else s2.setHold c (.rope w)
      | .unrope => (s1.updCore c (fun k => { k with ctl := { k.ctl with ropeW := 0, lead := 0 } })).grantWaiting c
      | _ => s1.grantWaiting c

/-- Flows that end a pitch outside a Q bundle or with a suspension: a fence (R58, R184). -/
def Flow.suspends : Flow → Bool
  | .halt => true
  | .yield => true
  | .summit => true
  | .park _ _ _ => true
  | .rope _ => true
  | .tret => true
  | .tretAt _ => true
  | _ => false

/-- Flows that the members of a rope take together (R67, R68). -/
def Flow.joint : Flow → Bool
  | .unrope => true
  | f => f.suspends

/-- The flow that all members take, if one takes such a flow; a `park` only where its word matches (R67, R68,
R173). -/
def jointFlow (l : List Flow) (parked : Bool) : Option Flow :=
  l.find? (fun f => match f with
    | .park _ _ _ => parked
    | _ => f.joint)

/-- What one member does: its own flow, the joint one with a false guard of its own (log 64), and nothing where
a `park` finds another word. -/
def memberFlow (joint : Option Flow) (own : Flow) : Flow :=
  match joint, own with
  | none, .park _ _ _ => .seq
  | none, _ => own
  | some j, _ => if own.joint then own else j

/-- The commit writes save areas (R55, R172, R300, R306). -/
def savesAll (joint : Option Flow) (qui request hm : Bool) : Bool :=
  match joint with
  | some .halt => false
  | some .yield => true
  | some .summit => true
  | some (.park _ _ _) => true
  | some .tret => request
  | some (.tretAt _) => request
  | _ => qui && request && !hm

/-- What the flow of a bundle does to core c, and the arrival at the target of a backward branch. -/
def State.finishOn (s : State) (c : Nat) (b : Bun) (fl : Flow) (t : Turn) : State :=
  let s1 := s.finish c b fl
  match t.back with
  | some f => s1.updCore c (fun k => if k.run.isSome then k.arrive f else k)
  | none => s1

/-- The decisions of the members differ (R66). -/
def State.diverges (s : State) (cs : List Nat) (fl : Nat → Flow) : Bool :=
  match cs with
  | [] => false
  | c :: t => t.any (fun d =>
      decide ((s.turn c (fl c)).fetch.pos ≠ (s.turn d (fl d)).fetch.pos) ||
      decide ((s.turn c (fl c)).br.map (fun b => (b.1, b.2.1.pos)) ≠ (s.turn d (fl d)).br.map (fun b => (b.1, b.2.1.pos))))

/-- The outcome of a `park` on core c of the cores cs, after the slots of all of them: what another member writes to
the line in this bundle is in the word compared (R71, R173); none where none stands. -/
def State.parkOutcome (s : State) (cs : List Nat) (v : Nat → List Seen) (c : Nat) : Option Bool :=
  match flowOf (v c) with
  | .park a w _ => some ((s.commitEffects cs v).parks c a w)
  | .noPark => some false
  | _ => none

/-- A cairn picked up with SUSP = 1 claims the unit before its first bundle issues (R336). -/
def Core.owesClaim (k : Core) : Bool :=
  k.run.isSome && k.mat.owner != k.run && nbit (ofBytesLE (k.matBlk.take 4)) 29

/-- Core c waits for a claim or for a tower's move, whose cycles do not count toward 4 × MAXP (R311, R336). -/
def Core.uncounted (k : Core) : Bool :=
  k.owesClaim || (match k.seq.hold with
    | some (.towerMove _) => true
    | some .claim => true
    | _ => false)

/-- The cycles of a claim or of a tower's move, since which a core waits and which ends now, do not count toward
4 × MAXP (R311, R336); a wait of its own for another such step counts from now on. -/
def Core.excuse (k : Core) (since now : Nat) : Core :=
  { k with seq := { k.seq with
      preempt := k.seq.preempt.map (fun t => t + (now - Nat.max t since))
      holdSince := if k.uncounted then now else k.seq.holdSince } }
/-- Every member of core c's rope has waited with it. -/
def State.excuseRope (s : State) (c : Nat) : State :=
  (s.ropeCores c).foldl (fun (s1 : State) d => s1.updCore d (fun k => k.excuse (s.core c).seq.holdSince s.cycle)) s

/-- Something keeps core c from issuing at all (R65, R179, R294, R302, R311, R336, R427). -/
def State.blocked (s : State) (c : Nat) : Bool :=
  let k := s.core c
  k.seq.owes.isSome || k.seq.upset.isSome ||
  (match k.seq.hold with
   | some (.drain scope q) => s.drainHolds c scope || (q && k.moveDue.isSome)
   | some .supply => true
   | some (.towerMove _) => true
   | some (.rope _) => true
   | _ => k.owesClaim)

/-- A request that has reached one member is a request to all (R67). -/
def State.shareRequest (s : State) (cs : List Nat) : State :=
  if cs.any (fun c => (s.core c).seq.preempt.isSome) then
    cs.foldl (fun s c => s.updCore c (fun k => { k with seq := { k.seq with
      preempt := match k.seq.preempt with
        | none => some s.cycle
        | p => p } })) s
  else s

/-- The holds at commit of members that commit one after another: what one takes the next does not find
(R181, R389, R392). -/
def State.lateHolds (b : Bun) : List Nat → State → List (Nat × Hold)
  | [], _ => []
  | c :: t, s =>
    let v := s.judge c b
    (holdsOf false v).map (fun h => (c, h)) ++ State.lateHolds b t (s.commitEffects [c] (fun _ => v))

/-- The cores of a rope hold the bundle, each for what its own slots wait for, or for the others: R204 does not say
whose counters count the cycles of a rope's hold, and the model counts them where the slot stands (log 71). -/
def State.holdAll (s : State) (cs : List Nat) (l : List (Nat × Hold)) : State :=
  cs.foldl (fun s c =>
    let h := (assocGet l c).getD .partner
    (s.setHold c h).ask c h) s

/-- The flows of the members take effect, one after another; when one of them fails the kernel, that of no later one
does. -/
def State.finishAll (b : Bun) (fl : Nat → Flow) (turn : Nat → Turn) : List Nat → State → State
  | [], s => s
  | c :: t, s =>
    let s1 := s.finishOn c b (fl c) (turn c)
    if t.all (fun d => (s1.core d).run.isSome) then State.finishAll b fl turn t s1 else s1

/-- The members commit together: slots, positions, pitches, flows (R66). In a rope a bundle counts as skipped only
where every member may skip it, which R103 and R204 leave open (log 71). -/
def State.commitAll (s : State) (cs : List Nat) (b : Bun) (v : Nat → List Seen) (fl : Nat → Flow) (turn : Nat → Turn)
    (skip : Bool) : State :=
  let s1 := cs.foldl (fun s c => s.updCore c (fun k => (k.release s.cycle).count skip)) s
  let s2 := s1.commitEffects cs v
  let s3 := cs.foldl (fun (s3 : State) c => s3.updCore c (fun k =>
    k.advance b (v c) (turn c) ((s.core c).visits (fl c)) (b.qui || (fl c).suspends))) s2
  State.finishAll b fl turn cs s3

/-- The bundle's flow takes effect: the save areas that it writes are opened first; where one cannot be written
the bundle commits and its cairn is lost (R67, R306, R309). -/
def State.commitBundle (s : State) (cs : List Nat) (b : Bun) (v : Nat → List Seen) (joint : Option Flow) : Out :=
  let fl (c : Nat) : Flow := memberFlow joint (flowOf (v c))
  let skip := cs.all (fun c => (s.core c).skips b (v c))
  let saves := savesAll joint b.qui (cs.any (fun c => (s.core c).seq.preempt.isSome)) (cs.any (fun c => (s.core c).ctl.hm))
  let opened := if joint = some .halt then s.openRecords cs else if saves then s.openSaves cs else .ready s
  match opened with
  | .ready s1 => .next ((if saves then s1.shareRequest cs else s1).commitAll cs b v fl (fun c => s1.turn c (fl c)) skip)
  | .wait s1 => .next (s1.holdSave cs)
  | .lost c s1 => .next ((s1.commitAll cs { b with qui := false } v (fun _ => .seq) (fun c => s1.turn c .seq) skip).loseRunning c)

/-- The bundle is issued by the cores cs, all of them running (R66, R97). -/
def State.issue (s : State) (cs : List Nat) (b : Bun) : Out :=
  let v (c : Nat) : List Seen := s.judge c b
  let trb := posRef (s.core (cs.headD 0)).seq.fetch.pos
  let early := cs.flatMap (fun c => (holdsOf true (v c)).map (fun h => (c, h)))
  let broken := cs.any (fun c => (s.core c).structural b (v c))
  let tr (c : Nat) := (s.core c).allTraps b (v c)
  let all := cs.flatMap tr
  if ¬ early.isEmpty ∧ ¬ broken then .next (s.holdAll cs early)
  else if ¬ all.isEmpty then .next (s.deliver cs trb (fun c => trapRec (tr c) all))
  else
    let late := State.lateHolds b cs s
    if ¬ late.isEmpty then .next (s.holdAll cs late)
    else
      let fl (c : Nat) : Flow := flowOf (v c)
      let parks := cs.filterMap (s.parkOutcome cs v)
      if s.diverges cs fl ∨ (true ∈ parks ∧ false ∈ parks)
      then .next (s.deliver cs trb (fun _ => ⟨trRopeDivergence, 0, 1⟩))
      else s.commitBundle cs b v (jointFlow (cs.map fl) (parks.contains true))

/-- Core c, and every member of its rope, runs and nothing holds it. -/
def State.mayIssue (s : State) (cs : List Nat) : Bool :=
  cs.all (fun c => (s.core c).run.isSome && !s.blocked c)

/-- One member of a bivouac (R70): its pitch rewinds and its cairn parks on the line that it read. -/
def State.bivouacOn (s : State) (c : Nat) : State :=
  match (s.core c).seq.watch.load with
  | none => s
  | some (line, _) =>
    (s.updCore c (fun k =>
      let k1 := k.rewind s.cycle
      { k1 with cnt := { k1.cnt with bivc := k1.cnt.bivc + 1 } })).suspendParked c line 0 0x80 true

/-- The bivouac (R70); roped members park together (R67), when it fires in each of them (log 15). -/
def State.doBivouac (s : State) (c : Nat) : State :=
  let cs := s.ropeCores c
  if ¬ (s.mayIssue cs ∧ cs.all (fun d => (s.core d).ripe)) then s
  else match s.openSaves cs with
    | .ready s1 => cs.foldl State.bivouacOn s1
    | .wait s1 => s1.holdSave cs
    | .lost d s1 => s1.loseRunning d

/-- The operations of a bundle that do something: a `nop` reads nothing and writes nothing (R79). -/
def keepOps (l : List SlotOp) : List SlotOp := l.filter (fun op => !(op.isNop && op.legal))

/-- The lone bundle of one slot operation on the core in focus (MODEL's own form of an instruction):
with its own flags in slot 0, else a group of its own. -/
def issueLone (op : SlotOp) (stop qui : Bool) (s : State) : Out :=
  let cs := s.ropeCores s.focus
  if s.mayIssue cs then s.issue cs ⟨stop, qui, false, s.lit, keepOps [op]⟩ else .next s

/-- A slot operation that is no `nop`. -/
def SlotOp.plain (slot : Nat) (legal : Bool) (guard : BitVec 4) (sem : Ctx → SlotOut) : SlotOp :=
  ⟨slot, legal, guard, false, false, none, sem⟩
/-- A slot operation that stands only in a bundle with Q = 1 (R59). -/
def SlotOp.quiet (legal : Bool) (guard : BitVec 4) (sem : Ctx → SlotOut) : SlotOp :=
  ⟨0, legal, guard, false, true, none, sem⟩
/-- One that handler mode forbids besides (R175). -/
def SlotOp.outside (legal : Bool) (guard : BitVec 4) (sem : Ctx → SlotOut) : SlotOp :=
  ⟨0, legal, guard, false, true, some false, sem⟩
/-- A slot operation that only handler mode permits (R175). -/
def SlotOp.inside (legal : Bool) (guard : BitVec 4) (sem : Ctx → SlotOut) : SlotOp :=
  ⟨0, legal, guard, false, false, some true, sem⟩

end Sys2Proof.Machine
end

