-- ==== Sys2Proof/Machine/ExecControl.lean ====
section
/-!
DEFINITION. Slot 0 (R92, R166 to R184).
Each instruction is its slot operation, issued in a bundle of its own.
-/
namespace Sys2Proof.Machine

/-- NOP_SLOT0 (R79). -/
def opNopSlot0 (stop qui : Bool) (g : BitVec 4) : SlotOp :=
  ⟨0, (Instr.nopSlot0 stop qui g).wf, g, true, false, none, fun _ => nopOut⟩
def execNopSlot0 (stop qui : Bool) (g : BitVec 4) (s : State) : Out := issueLone (opNopSlot0 stop qui g) stop qui s

/-- BR (R166). -/
def opBr (stop qui : Bool) (g : BitVec 4) (o : BitVec 20) : SlotOp :=
  .plain 0 (Instr.br stop qui g o).wf g (semBr o)
def execBr (stop qui : Bool) (g : BitVec 4) (o : BitVec 20) (s : State) : Out := issueLone (opBr stop qui g o) stop qui s

/-- CALL (R166). -/
def opCallR (stop qui : Bool) (g : BitVec 4) (o : BitVec 20) : SlotOp :=
  .plain 0 (Instr.callR stop qui g o).wf g (semCallR o)
def execCallR (stop qui : Bool) (g : BitVec 4) (o : BitVec 20) (s : State) : Out := issueLone (opCallR stop qui g o) stop qui s

/-- JR (R166). -/
def opJr (stop qui : Bool) (g : BitVec 4) (a : BitVec 6) : SlotOp :=
  .plain 0 (Instr.jr stop qui g a).wf g (semJr a)
def execJr (stop qui : Bool) (g : BitVec 4) (a : BitVec 6) (s : State) : Out := issueLone (opJr stop qui g a) stop qui s

/-- RET (R166). -/
def opRet (stop qui : Bool) (g : BitVec 4) : SlotOp :=
  .plain 0 (Instr.ret stop qui g).wf g (semRet)
def execRet (stop qui : Bool) (g : BitVec 4) (s : State) : Out := issueLone (opRet stop qui g) stop qui s

/-- LOOP (R168). -/
def opLoopR (stop qui : Bool) (g : BitVec 4) (c : BitVec 1) (a : BitVec 6) (l : BitVec 13) : SlotOp :=
  .plain 0 (Instr.loopR stop qui g c a l).wf g (semLoopR c a l)
def execLoopR (stop qui : Bool) (g : BitVec 4) (c : BitVec 1) (a : BitVec 6) (l : BitVec 13) (s : State) : Out := issueLone (opLoopR stop qui g c a l) stop qui s

/-- CHK (R170). -/
def opChk (stop qui : Bool) (g : BitVec 4) (a : BitVec 6) (o : BitVec 14) : SlotOp :=
  .plain 0 (Instr.chk stop qui g a o).wf g (semChk a o)
def execChk (stop qui : Bool) (g : BitVec 4) (a : BitVec 6) (o : BitVec 14) (s : State) : Out := issueLone (opChk stop qui g a o) stop qui s

/-- CHKV (R170). -/
def opChkv (stop qui : Bool) (g : BitVec 4) (v : BitVec 5) (o : BitVec 15) : SlotOp :=
  .plain 0 (Instr.chkv stop qui g v o).wf g (semChkv v o)
def execChkv (stop qui : Bool) (g : BitVec 4) (v : BitVec 5) (o : BitVec 15) (s : State) : Out := issueLone (opChkv stop qui g v o) stop qui s

/-- BRV_ALL (R171). -/
def opBrvAll (stop qui : Bool) (g : BitVec 4) (m : BitVec 3) (o : BitVec 15) : SlotOp :=
  .plain 0 (Instr.brvAll stop qui g m o).wf g (semBrvAll m o)
def execBrvAll (stop qui : Bool) (g : BitVec 4) (m : BitVec 3) (o : BitVec 15) (s : State) : Out := issueLone (opBrvAll stop qui g m o) stop qui s

/-- BRV_NONE (R171). -/
def opBrvNone (stop qui : Bool) (g : BitVec 4) (m : BitVec 3) (o : BitVec 15) : SlotOp :=
  .plain 0 (Instr.brvNone stop qui g m o).wf g (semBrvNone m o)
def execBrvNone (stop qui : Bool) (g : BitVec 4) (m : BitVec 3) (o : BitVec 15) (s : State) : Out := issueLone (opBrvNone stop qui g m o) stop qui s

/-- HALT (R172). -/
def opHaltR (stop qui : Bool) (g : BitVec 4) : SlotOp :=
  .quiet (Instr.haltR stop qui g).wf g (semHaltR)
def execHaltR (stop qui : Bool) (g : BitVec 4) (s : State) : Out := issueLone (opHaltR stop qui g) stop qui s

/-- PARK (R173). -/
def opPark (stop qui : Bool) (g : BitVec 4) (a b : BitVec 6) (t : BitVec 8) : SlotOp :=
  .outside (Instr.park stop qui g a b t).wf g (semPark a b t)
def execPark (stop qui : Bool) (g : BitVec 4) (a b : BitVec 6) (t : BitVec 8) (s : State) : Out := issueLone (opPark stop qui g a b t) stop qui s

/-- YIELD (R172). -/
def opYield (stop qui : Bool) (g : BitVec 4) : SlotOp :=
  .outside (Instr.yield stop qui g).wf g (semYield)
def execYield (stop qui : Bool) (g : BitVec 4) (s : State) : Out := issueLone (opYield stop qui g) stop qui s

/-- SUMMIT (R69). -/
def opSummit (stop qui : Bool) (g : BitVec 4) : SlotOp :=
  .outside (Instr.summit stop qui g).wf g (semSummit)
def execSummit (stop qui : Bool) (g : BitVec 4) (s : State) : Out := issueLone (opSummit stop qui g) stop qui s

/-- BARSET (R177). -/
def opBarset (stop qui : Bool) (g : BitVec 4) (i : BitVec 7) (a : BitVec 6) : SlotOp :=
  .plain 0 (Instr.barset stop qui g i a).wf g (semBarset i a)
def execBarset (stop qui : Bool) (g : BitVec 4) (i : BitVec 7) (a : BitVec 6) (s : State) : Out := issueLone (opBarset stop qui g i a) stop qui s

/-- BARARR (R177). -/
def opBararr (stop qui : Bool) (g : BitVec 4) (i : BitVec 7) : SlotOp :=
  .plain 0 (Instr.bararr stop qui g i).wf g (semBararr i)
def execBararr (stop qui : Bool) (g : BitVec 4) (i : BitVec 7) (s : State) : Out := issueLone (opBararr stop qui g i) stop qui s

/-- BARWAIT (R177). -/
def opBarwait (stop qui : Bool) (g : BitVec 4) (i : BitVec 7) : SlotOp :=
  .plain 0 (Instr.barwait stop qui g i).wf g (semBarwait i)
def execBarwait (stop qui : Bool) (g : BitVec 4) (i : BitVec 7) (s : State) : Out := issueLone (opBarwait stop qui g i) stop qui s

/-- BARTEST (R177). -/
def opBartest (stop qui : Bool) (g : BitVec 4) (i : BitVec 7) (p : BitVec 3) : SlotOp :=
  .plain 0 (Instr.bartest stop qui g i p).wf g (semBartest i p)
def execBartest (stop qui : Bool) (g : BitVec 4) (i : BitVec 7) (p : BitVec 3) (s : State) : Out := issueLone (opBartest stop qui g i p) stop qui s

/-- ROPE_PAIR (R64). -/
def opRopePair (stop qui : Bool) (g : BitVec 4) : SlotOp :=
  .outside (Instr.ropePair stop qui g).wf g (semRopePair)
def execRopePair (stop qui : Bool) (g : BitVec 4) (s : State) : Out := issueLone (opRopePair stop qui g) stop qui s

/-- ROPE_QUAD (R64). -/
def opRopeQuad (stop qui : Bool) (g : BitVec 4) : SlotOp :=
  .outside (Instr.ropeQuad stop qui g).wf g (semRopeQuad)
def execRopeQuad (stop qui : Bool) (g : BitVec 4) (s : State) : Out := issueLone (opRopeQuad stop qui g) stop qui s

/-- UNROPE (R68). -/
def opUnrope (stop qui : Bool) (g : BitVec 4) : SlotOp :=
  .outside (Instr.unrope stop qui g).wf g (semUnrope)
def execUnrope (stop qui : Bool) (g : BitVec 4) (s : State) : Out := issueLone (opUnrope stop qui g) stop qui s

/-- DRAIN (R179). -/
def opDrain (stop qui : Bool) (g : BitVec 4) (x : BitVec 3) : SlotOp :=
  .plain 0 (Instr.drain stop qui g x).wf g (semDrain x)
def execDrain (stop qui : Bool) (g : BitVec 4) (x : BitVec 3) (s : State) : Out := issueLone (opDrain stop qui g x) stop qui s

/-- TRAP (R180). -/
def opTrapR (stop qui : Bool) (g : BitVec 4) (c : BitVec 16) : SlotOp :=
  .plain 0 (Instr.trapR stop qui g c).wf g (semTrapR c)
def execTrapR (stop qui : Bool) (g : BitVec 4) (c : BitVec 16) (s : State) : Out := issueLone (opTrapR stop qui g c) stop qui s

/-- SYS (R181). -/
def opSys (stop qui : Bool) (g : BitVec 4) (c : BitVec 16) : SlotOp :=
  .plain 0 (Instr.sys stop qui g c).wf g (semSys c)
def execSys (stop qui : Bool) (g : BitVec 4) (c : BitVec 16) (s : State) : Out := issueLone (opSys stop qui g c) stop qui s

/-- CREAD (R182). -/
def opCread (stop qui : Bool) (g : BitVec 4) (d : BitVec 6) (r : BitVec 12) : SlotOp :=
  .plain 0 (Instr.cread stop qui g d r).wf g (semCread d r)
def execCread (stop qui : Bool) (g : BitVec 4) (d : BitVec 6) (r : BitVec 12) (s : State) : Out := issueLone (opCread stop qui g d r) stop qui s

/-- CWRITE (R182). -/
def opCwrite (stop qui : Bool) (g : BitVec 4) (r : BitVec 12) (a : BitVec 6) : SlotOp :=
  .plain 0 (Instr.cwrite stop qui g r a).wf g (semCwrite r a)
def execCwrite (stop qui : Bool) (g : BitVec 4) (r : BitVec 12) (a : BitVec 6) (s : State) : Out := issueLone (opCwrite stop qui g r a) stop qui s

/-- RFDEFER (R183). -/
def opRfdefer (stop qui : Bool) (g : BitVec 4) (a : BitVec 6) : SlotOp :=
  .plain 0 (Instr.rfdefer stop qui g a).wf g (semRfdefer a)
def execRfdefer (stop qui : Bool) (g : BitVec 4) (a : BitVec 6) (s : State) : Out := issueLone (opRfdefer stop qui g a) stop qui s

/-- TRET (R184). -/
def opTret (stop qui : Bool) (g : BitVec 4) : SlotOp :=
  .inside (Instr.tret stop qui g).wf g (semTret)
def execTret (stop qui : Bool) (g : BitVec 4) (s : State) : Out := issueLone (opTret stop qui g) stop qui s

/-- TRET_AT (R184). -/
def opTretAt (stop qui : Bool) (g : BitVec 4) (a : BitVec 6) : SlotOp :=
  .inside (Instr.tretAt stop qui g a).wf g (semTretAt a)
def execTretAt (stop qui : Bool) (g : BitVec 4) (a : BitVec 6) (s : State) : Out := issueLone (opTretAt stop qui g a) stop qui s

end Sys2Proof.Machine
end

