-- ==== Sys2Proof/Machine/ExecLocal.lean ====
section
/-!
DEFINITION. Slot 3 (R108, R224 to R230).
Each instruction is its slot operation, issued in a bundle of its own.
-/
namespace Sys2Proof.Machine

/-- LDB (R224). -/
def opLdb (g : BitVec 4) (d b : BitVec 6) (o : BitVec 9) : SlotOp :=
  .plain 3 (Instr.ldb g d b o).wf g (semLdb d b o)
def execLdb (g : BitVec 4) (d b : BitVec 6) (o : BitVec 9) (s : State) : Out := issueLone (opLdb g d b o) true false s

/-- LDBU (R224). -/
def opLdbu (g : BitVec 4) (d b : BitVec 6) (o : BitVec 9) : SlotOp :=
  .plain 3 (Instr.ldbu g d b o).wf g (semLdbu d b o)
def execLdbu (g : BitVec 4) (d b : BitVec 6) (o : BitVec 9) (s : State) : Out := issueLone (opLdbu g d b o) true false s

/-- LDH (R224). -/
def opLdh (g : BitVec 4) (d b : BitVec 6) (o : BitVec 9) : SlotOp :=
  .plain 3 (Instr.ldh g d b o).wf g (semLdh d b o)
def execLdh (g : BitVec 4) (d b : BitVec 6) (o : BitVec 9) (s : State) : Out := issueLone (opLdh g d b o) true false s

/-- LDHU (R224). -/
def opLdhu (g : BitVec 4) (d b : BitVec 6) (o : BitVec 9) : SlotOp :=
  .plain 3 (Instr.ldhu g d b o).wf g (semLdhu d b o)
def execLdhu (g : BitVec 4) (d b : BitVec 6) (o : BitVec 9) (s : State) : Out := issueLone (opLdhu g d b o) true false s

/-- LDW (R224). -/
def opLdw (g : BitVec 4) (d b : BitVec 6) (o : BitVec 9) : SlotOp :=
  .plain 3 (Instr.ldw g d b o).wf g (semLdw d b o)
def execLdw (g : BitVec 4) (d b : BitVec 6) (o : BitVec 9) (s : State) : Out := issueLone (opLdw g d b o) true false s

/-- STB (R224). -/
def opStb (g : BitVec 4) (d b : BitVec 6) (o : BitVec 9) : SlotOp :=
  .plain 3 (Instr.stb g d b o).wf g (semStb d b o)
def execStb (g : BitVec 4) (d b : BitVec 6) (o : BitVec 9) (s : State) : Out := issueLone (opStb g d b o) true false s

/-- STH (R224). -/
def opSth (g : BitVec 4) (d b : BitVec 6) (o : BitVec 9) : SlotOp :=
  .plain 3 (Instr.sth g d b o).wf g (semSth d b o)
def execSth (g : BitVec 4) (d b : BitVec 6) (o : BitVec 9) (s : State) : Out := issueLone (opSth g d b o) true false s

/-- STW (R224). -/
def opStw (g : BitVec 4) (d b : BitVec 6) (o : BitVec 9) : SlotOp :=
  .plain 3 (Instr.stw g d b o).wf g (semStw d b o)
def execStw (g : BitVec 4) (d b : BitVec 6) (o : BitVec 9) (s : State) : Out := issueLone (opStw g d b o) true false s

/-- LDW_S (R225). -/
def opLdwS (g : BitVec 4) (d b : BitVec 6) (o : BitVec 9) : SlotOp :=
  .plain 3 (Instr.ldwS g d b o).wf g (semLdwS d b o)
def execLdwS (g : BitVec 4) (d b : BitVec 6) (o : BitVec 9) (s : State) : Out := issueLone (opLdwS g d b o) true false s

/-- LDBU_S (R225). -/
def opLdbuS (g : BitVec 4) (d b : BitVec 6) (o : BitVec 9) : SlotOp :=
  .plain 3 (Instr.ldbuS g d b o).wf g (semLdbuS d b o)
def execLdbuS (g : BitVec 4) (d b : BitVec 6) (o : BitVec 9) (s : State) : Out := issueLone (opLdbuS g d b o) true false s

/-- LDHU_S (R225). -/
def opLdhuS (g : BitVec 4) (d b : BitVec 6) (o : BitVec 9) : SlotOp :=
  .plain 3 (Instr.ldhuS g d b o).wf g (semLdhuS d b o)
def execLdhuS (g : BitVec 4) (d b : BitVec 6) (o : BitVec 9) (s : State) : Out := issueLone (opLdhuS g d b o) true false s

/-- LDV (R226). -/
def opLdv (g : BitVec 4) (v : BitVec 5) (b : BitVec 6) (o : BitVec 7) (m : BitVec 3) : SlotOp :=
  .plain 3 (Instr.ldv g v b o m).wf g (semLdv v b o m)
def execLdv (g : BitVec 4) (v : BitVec 5) (b : BitVec 6) (o : BitVec 7) (m : BitVec 3) (s : State) : Out := issueLone (opLdv g v b o m) true false s

/-- STV (R226). -/
def opStv (g : BitVec 4) (v : BitVec 5) (b : BitVec 6) (o : BitVec 7) (m : BitVec 3) : SlotOp :=
  .plain 3 (Instr.stv g v b o m).wf g (semStv v b o m)
def execStv (g : BitVec 4) (v : BitVec 5) (b : BitVec 6) (o : BitVec 7) (m : BitVec 3) (s : State) : Out := issueLone (opStv g v b o m) true false s

/-- LDV_S (R226). -/
def opLdvS (g : BitVec 4) (v : BitVec 5) (b : BitVec 6) (o : BitVec 7) (m : BitVec 3) : SlotOp :=
  .plain 3 (Instr.ldvS g v b o m).wf g (semLdvS v b o m)
def execLdvS (g : BitVec 4) (v : BitVec 5) (b : BitVec 6) (o : BitVec 7) (m : BitVec 3) (s : State) : Out := issueLone (opLdvS g v b o m) true false s

/-- LDMX4 (R227). -/
def opLdmx4 (g : BitVec 4) (v : BitVec 5) (b : BitVec 6) (o : BitVec 7) (m : BitVec 3) : SlotOp :=
  .plain 3 (Instr.ldmx4 g v b o m).wf g (semLdmx4 v b o m)
def execLdmx4 (g : BitVec 4) (v : BitVec 5) (b : BitVec 6) (o : BitVec 7) (m : BitVec 3) (s : State) : Out := issueLone (opLdmx4 g v b o m) true false s

/-- LDMX8 (R227). -/
def opLdmx8 (g : BitVec 4) (v : BitVec 5) (b : BitVec 6) (o : BitVec 7) (m : BitVec 3) : SlotOp :=
  .plain 3 (Instr.ldmx8 g v b o m).wf g (semLdmx8 v b o m)
def execLdmx8 (g : BitVec 4) (v : BitVec 5) (b : BitVec 6) (o : BitVec 7) (m : BitVec 3) (s : State) : Out := issueLone (opLdmx8 g v b o m) true false s

/-- LDVX (R228). -/
def opLdvx (g : BitVec 4) (v i : BitVec 5) (b : BitVec 6) (m : BitVec 2) (w : BitVec 3) : SlotOp :=
  .plain 3 (Instr.ldvx g v i b m w).wf g (semLdvx v i b m w)
def execLdvx (g : BitVec 4) (v i : BitVec 5) (b : BitVec 6) (m : BitVec 2) (w : BitVec 3) (s : State) : Out := issueLone (opLdvx g v i b m w) true false s

/-- STVX (R228). -/
def opStvx (g : BitVec 4) (v i : BitVec 5) (b : BitVec 6) (m : BitVec 2) (w : BitVec 3) : SlotOp :=
  .plain 3 (Instr.stvx g v i b m w).wf g (semStvx v i b m w)
def execStvx (g : BitVec 4) (v i : BitVec 5) (b : BitVec 6) (m : BitVec 2) (w : BitVec 3) (s : State) : Out := issueLone (opStvx g v i b m w) true false s

/-- LDVX_S (R228). -/
def opLdvxS (g : BitVec 4) (v i : BitVec 5) (b : BitVec 6) (m : BitVec 2) (w : BitVec 3) : SlotOp :=
  .plain 3 (Instr.ldvxS g v i b m w).wf g (semLdvxS v i b m w)
def execLdvxS (g : BitVec 4) (v i : BitVec 5) (b : BitVec 6) (m : BitVec 2) (w : BitVec 3) (s : State) : Out := issueLone (opLdvxS g v i b m w) true false s

/-- SHN (R229). -/
def opShn (g : BitVec 4) (d a : BitVec 5) (e : BitVec 3) (t : BitVec 5) (m : BitVec 3) : SlotOp :=
  .plain 3 (Instr.shn g d a e t m).wf g (semShn g d a e t m)
def execShn (g : BitVec 4) (d a : BitVec 5) (e : BitVec 3) (t : BitVec 5) (m : BitVec 3) (s : State) : Out := issueLone (opShn g d a e t m) true false s

/-- TSH (R230). -/
def opTsh (g : BitVec 4) (d a : BitVec 5) (e : BitVec 3) (t : BitVec 5) (m : BitVec 3) : SlotOp :=
  .plain 3 (Instr.tsh g d a e t m).wf g (semTsh d a e t m)
def execTsh (g : BitVec 4) (d a : BitVec 5) (e : BitVec 3) (t : BitVec 5) (m : BitVec 3) (s : State) : Out := issueLone (opTsh g d a e t m) true false s

end Sys2Proof.Machine
end

