-- ==== Sys2Proof/Machine/Scalar.lean ====
section
/-!
DEFINITION. Slots 1 and 2: scalar integer, predicate and FP32 instructions (R185 to R199).
-/
namespace Sys2Proof.Machine

/-- The port of a scalar unit: a.q0 is port 0, b.q0 is port 2 (R81). -/
def unitPort : SUnit → Nat
  | .a => 0
  | .b => 2

/-- Two scalar sources to one scalar result (R185). -/
def scalar2 (u : SUnit) (lat : Nat) (d a b : BitVec 6) (f : Word → Word → Word) (x : Ctx) : SlotOut :=
  let p := x.rs a
  let q := x.rs b
  scalarOut (unitPort u) lat d (idS a ++ idS b) ⟨f p.val q.val, Tag.max p.tag q.tag⟩

/-- One scalar source to one scalar result. -/
def scalar1 (u : SUnit) (lat : Nat) (d a : BitVec 6) (f : Word → Word) (x : Ctx) : SlotOut :=
  let p := x.rs a
  scalarOut (unitPort u) lat d (idS a) ⟨f p.val, p.tag⟩

/-- Division truncating toward zero (R187): quotient and remainder. -/
def divSigned (a b : Word) : Word × Word :=
  if b = 0 then (0xFFFFFFFF, a)
  else if a = 0x80000000 ∧ b = 0xFFFFFFFF then (0x80000000, 0)
  else (.ofInt 32 (a.toInt.tdiv b.toInt), .ofInt 32 (a.toInt.tmod b.toInt))
def divUnsigned (a b : Word) : Word × Word :=
  if b = 0 then (0xFFFFFFFF, a)
  else (.ofNat 32 (a.toNat / b.toNat), .ofNat 32 (a.toNat % b.toNat))

/-- The mix of R188. -/
def rngMix (a b : Word) : Word :=
  let x := a ^^^ (b * 0x9E3779B9)
  let x := x ^^^ (x >>> 16)
  let x := x * 0x7FEB352D
  let x := x ^^^ (x >>> 15)
  let x := x * 0x846CA68B
  x ^^^ (x >>> 16)

def shCount (b : Word) : Nat := b.toNat % 32
def sShl (a b : Word) : Word := a <<< shCount b
def sShr (a b : Word) : Word := a >>> shCount b
def sSar (a b : Word) : Word := a.sshiftRight (shCount b)
def sRol (a b : Word) : Word := a.rotateLeft (shCount b)
def sMin (a b : Word) : Word := if a.slt b then a else b
def sMax (a b : Word) : Word := if b.slt a then a else b
def sMinu (a b : Word) : Word := if a.ult b then a else b
def sMaxu (a b : Word) : Word := if b.ult a then a else b
/-- A 9-bit immediate, sign-extended (R189). -/
def imm9 (i : BitVec 9) : Word := i.signExtend 32

def semAddR (u : SUnit) (d a b : BitVec 6) : Ctx → SlotOut := scalar2 u 1 d a b (· + ·)
def semSubR (u : SUnit) (d a b : BitVec 6) : Ctx → SlotOut := scalar2 u 1 d a b (· - ·)
def semMulR (u : SUnit) (d a b : BitVec 6) : Ctx → SlotOut := scalar2 u 3 d a b (· * ·)
def semMulhs (u : SUnit) (d a b : BitVec 6) : Ctx → SlotOut :=
  scalar2 u 3 d a b (fun p q => .ofInt 32 (p.toInt * q.toInt / 2 ^ 32))
def semMulhu (u : SUnit) (d a b : BitVec 6) : Ctx → SlotOut :=
  scalar2 u 3 d a b (fun p q => .ofNat 32 (p.toNat * q.toNat / 2 ^ 32))
def semDivR (u : SUnit) (d a b : BitVec 6) : Ctx → SlotOut :=
  scalar2 u 12 d a b (fun p q => (divSigned p q).1)
def semDivu (u : SUnit) (d a b : BitVec 6) : Ctx → SlotOut :=
  scalar2 u 12 d a b (fun p q => (divUnsigned p q).1)
def semRemR (u : SUnit) (d a b : BitVec 6) : Ctx → SlotOut :=
  scalar2 u 12 d a b (fun p q => (divSigned p q).2)
def semRemu (u : SUnit) (d a b : BitVec 6) : Ctx → SlotOut :=
  scalar2 u 12 d a b (fun p q => (divUnsigned p q).2)
def semAndR (u : SUnit) (d a b : BitVec 6) : Ctx → SlotOut := scalar2 u 1 d a b (· &&& ·)
def semOrR (u : SUnit) (d a b : BitVec 6) : Ctx → SlotOut := scalar2 u 1 d a b (· ||| ·)
def semXorR (u : SUnit) (d a b : BitVec 6) : Ctx → SlotOut := scalar2 u 1 d a b (· ^^^ ·)
def semAndn (u : SUnit) (d a b : BitVec 6) : Ctx → SlotOut :=
  scalar2 u 1 d a b (fun p q => p &&& ~~~q)
def semShl (u : SUnit) (d a b : BitVec 6) : Ctx → SlotOut := scalar2 u 1 d a b sShl
def semShr (u : SUnit) (d a b : BitVec 6) : Ctx → SlotOut := scalar2 u 1 d a b sShr
def semSar (u : SUnit) (d a b : BitVec 6) : Ctx → SlotOut := scalar2 u 1 d a b sSar
def semRol (u : SUnit) (d a b : BitVec 6) : Ctx → SlotOut := scalar2 u 1 d a b sRol
def semMinR (u : SUnit) (d a b : BitVec 6) : Ctx → SlotOut := scalar2 u 1 d a b sMin
def semMaxR (u : SUnit) (d a b : BitVec 6) : Ctx → SlotOut := scalar2 u 1 d a b sMax
def semMinu (u : SUnit) (d a b : BitVec 6) : Ctx → SlotOut := scalar2 u 1 d a b sMinu
def semMaxu (u : SUnit) (d a b : BitVec 6) : Ctx → SlotOut := scalar2 u 1 d a b sMaxu
def semLea (u : SUnit) (d a b : BitVec 6) (sh : BitVec 3) : Ctx → SlotOut :=
  scalar2 u 1 d a b (fun p q => p + (q <<< sh.toNat))

/-- `sel` reads both sources and the predicate; all three tags join (R186). -/
def semSel (u : SUnit) (d a b : BitVec 6) (p : BitVec 3) (x : Ctx) : SlotOut :=
  let c := x.rp p
  let v := x.rs a
  let w := x.rs b
  scalarOut (unitPort u) 1 d (idS a ++ idS b ++ idP p.toNat)
    ⟨if c.val then v.val else w.val, Tag.max c.tag (Tag.max v.tag w.tag)⟩

def semClz (u : SUnit) (d a : BitVec 6) : Ctx → SlotOut :=
  scalar1 u 1 d a (fun p => .ofNat 32 (clzN 32 p.toNat))
def semCtz (u : SUnit) (d a : BitVec 6) : Ctx → SlotOut :=
  scalar1 u 1 d a (fun p => .ofNat 32 (ctzN 32 p.toNat))
def semPopc (u : SUnit) (d a : BitVec 6) : Ctx → SlotOut :=
  scalar1 u 1 d a (fun p => .ofNat 32 (popcount 32 p.toNat))
def semRngx (u : SUnit) (d a b : BitVec 6) : Ctx → SlotOut := scalar2 u 3 d a b rngMix
def semMov (u : SUnit) (d a : BitVec 6) : Ctx → SlotOut := scalar1 u 1 d a id

def semAddi (u : SUnit) (d a : BitVec 6) (i : BitVec 9) : Ctx → SlotOut :=
  scalar1 u 1 d a (· + imm9 i)
def semAndi (u : SUnit) (d a : BitVec 6) (i : BitVec 9) : Ctx → SlotOut :=
  scalar1 u 1 d a (· &&& imm9 i)
def semOri (u : SUnit) (d a : BitVec 6) (i : BitVec 9) : Ctx → SlotOut :=
  scalar1 u 1 d a (· ||| imm9 i)
def semXori (u : SUnit) (d a : BitVec 6) (i : BitVec 9) : Ctx → SlotOut :=
  scalar1 u 1 d a (· ^^^ imm9 i)
def semShli (u : SUnit) (d a : BitVec 6) (i : BitVec 5) : Ctx → SlotOut :=
  scalar1 u 1 d a (fun p => sShl p (i.zeroExtend 32))
def semShri (u : SUnit) (d a : BitVec 6) (i : BitVec 5) : Ctx → SlotOut :=
  scalar1 u 1 d a (fun p => sShr p (i.zeroExtend 32))
def semSari (u : SUnit) (d a : BitVec 6) (i : BitVec 5) : Ctx → SlotOut :=
  scalar1 u 1 d a (fun p => sSar p (i.zeroExtend 32))
def semRoli (u : SUnit) (d a : BitVec 6) (i : BitVec 5) : Ctx → SlotOut :=
  scalar1 u 1 d a (fun p => sRol p (i.zeroExtend 32))
def semMuli (u : SUnit) (d a : BitVec 6) (i : BitVec 9) : Ctx → SlotOut :=
  scalar1 u 3 d a (· * imm9 i)

/-- The mask of a field of len bits (R190). -/
def fieldMask (len : Nat) : Word := .ofNat 32 (2 ^ len - 1)

def semBfx (u : SUnit) (d a : BitVec 6) (p : BitVec 5) (n : BitVec 4) : Ctx → SlotOut :=
  scalar1 u 1 d a (fun v => (v >>> p.toNat) &&& fieldMask (n.toNat + 1))

/-- `bfi` reads its destination (R190, R199). -/
def semBfi (u : SUnit) (d a : BitVec 6) (p : BitVec 5) (n : BitVec 4) (x : Ctx) : SlotOut :=
  let v := x.rs a
  let o := x.rs d
  let f := fieldMask (n.toNat + 1) <<< p.toNat
  scalarOut (unitPort u) 1 d (idS a ++ idS d)
    ⟨(o.val &&& ~~~f) ||| ((v.val <<< p.toNat) &&& f), Tag.max o.tag v.tag⟩

def semLi (u : SUnit) (d : BitVec 6) (i : BitVec 15) (_ : Ctx) : SlotOut :=
  scalarOut (unitPort u) 1 d [] ⟨i.signExtend 32, 0⟩

/-- A compare of two scalars to a predicate (R192). -/
def cmp2 (p : BitVec 3) (a b : BitVec 6) (f : Word → Word → Bool) (x : Ctx) : SlotOut :=
  let v := x.rs a
  let w := x.rs b
  predOut 1 p.toNat (idS a ++ idS b) (f v.val w.val) (Tag.max v.tag w.tag)
/-- A compare with an immediate (R192). -/
def cmp1 (p : BitVec 3) (a : BitVec 6) (f : Word → Bool) (x : Ctx) : SlotOut :=
  let v := x.rs a
  predOut 1 p.toNat (idS a) (f v.val) v.tag

def semCmpEq (_ : SUnit) (p : BitVec 3) (a b : BitVec 6) : Ctx → SlotOut := cmp2 p a b (· == ·)
def semCmpNe (_ : SUnit) (p : BitVec 3) (a b : BitVec 6) : Ctx → SlotOut := cmp2 p a b (· != ·)
def semCmpLt (_ : SUnit) (p : BitVec 3) (a b : BitVec 6) : Ctx → SlotOut := cmp2 p a b BitVec.slt
def semCmpLe (_ : SUnit) (p : BitVec 3) (a b : BitVec 6) : Ctx → SlotOut := cmp2 p a b BitVec.sle
def semCmpLtu (_ : SUnit) (p : BitVec 3) (a b : BitVec 6) : Ctx → SlotOut := cmp2 p a b BitVec.ult
def semCmpLeu (_ : SUnit) (p : BitVec 3) (a b : BitVec 6) : Ctx → SlotOut := cmp2 p a b BitVec.ule
def semCmpiEq (_ : SUnit) (p : BitVec 3) (a : BitVec 6) (i : BitVec 9) : Ctx → SlotOut :=
  cmp1 p a (· == imm9 i)
def semCmpiLt (_ : SUnit) (p : BitVec 3) (a : BitVec 6) (i : BitVec 9) : Ctx → SlotOut :=
  cmp1 p a (fun v => v.slt (imm9 i))
def semCmpiLtu (_ : SUnit) (p : BitVec 3) (a : BitVec 6) (i : BitVec 9) : Ctx → SlotOut :=
  cmp1 p a (fun v => v.ult (imm9 i))
def semCmpiNe (_ : SUnit) (p : BitVec 3) (a : BitVec 6) (i : BitVec 9) : Ctx → SlotOut :=
  cmp1 p a (· != imm9 i)

/-- Two predicates to one (R193). -/
def pred2 (d a b : BitVec 3) (f : Bool → Bool → Bool) (x : Ctx) : SlotOut :=
  let v := x.rp a
  let w := x.rp b
  predOut 1 d.toNat (idP a.toNat ++ idP b.toNat) (f v.val w.val) (Tag.max v.tag w.tag)

def semPand (_ : SUnit) (d a b : BitVec 3) : Ctx → SlotOut := pred2 d a b (· && ·)
def semPor (_ : SUnit) (d a b : BitVec 3) : Ctx → SlotOut := pred2 d a b (· || ·)
def semPxor (_ : SUnit) (d a b : BitVec 3) : Ctx → SlotOut := pred2 d a b (· ^^ ·)
def semPandn (_ : SUnit) (d a b : BitVec 3) : Ctx → SlotOut := pred2 d a b (fun p q => p && !q)

/-- A check of two copies (R194). -/
def checkOut (reads : List RegId) (v w : SReg) : SlotOut :=
  { nopOut with
    reads := reads
    res := if v.val = w.val ∧ v.tag = w.tag then .ok [] id .seq else .trap trCheckMismatch v.val }

def semCmpt (_ : SUnit) (a b : BitVec 6) (x : Ctx) : SlotOut :=
  checkOut (idS a ++ idS b) (x.rs a) (x.rs b)
def semCmpti (_ : SUnit) (a : BitVec 6) (i : BitVec 9) (x : Ctx) : SlotOut :=
  checkOut (idS a) (x.rs a) ⟨imm9 i, 0⟩

def semPtest (_ : SUnit) (p : BitVec 3) (a : BitVec 6) (x : Ctx) : SlotOut :=
  predOut 1 p.toNat (idS a) ((x.rs a).tag != 0) 0
def semPclr (u : SUnit) (d a : BitVec 6) (x : Ctx) : SlotOut :=
  scalarOut (unitPort u) 1 d (idS a) ⟨(x.rs a).val, 0⟩

/-! ### FP32 (R196 to R198) -/

/-- The stochastic source k7 when SR is selected (R105): its register, its value. -/
def Ctx.srK7 (x : Ctx) (mode : Nat) : List RegId × SReg :=
  if mode = 6 then ([.s 55], x.rs 55) else ([], .zero)

/-- A scalar FP result: a tagged one raises no flag (R157). -/
def fpOut (u : SUnit) (d : BitVec 6) (reads : List RegId) (r : FRes) (t : Tag) : SlotOut :=
  scalarOut (unitPort u) 3 d reads ⟨.ofNat 32 r.bits, t⟩ (if t = 0 then r.flags else 0)

def fp2 (u : SUnit) (rm : BitVec 3) (d a b : BitVec 6) (f : Nat → Nat → Nat → Nat → FRes)
    (x : Ctx) : SlotOut :=
  let mode := x.mode rm
  let (ids, r) := x.srK7 mode
  let p := x.rs a
  let q := x.rs b
  fpOut u d (idS a ++ idS b ++ ids) (f mode r.val.toNat p.val.toNat q.val.toNat)
    (maxTag [p.tag, q.tag, r.tag])

def semFadd (u : SUnit) (d a b : BitVec 6) (rm : BitVec 3) : Ctx → SlotOut := fp2 u rm d a b (fpAdd fp32)
def semFsub (u : SUnit) (d a b : BitVec 6) (rm : BitVec 3) : Ctx → SlotOut := fp2 u rm d a b (fpSub fp32)
def semFmul (u : SUnit) (d a b : BitVec 6) (rm : BitVec 3) : Ctx → SlotOut := fp2 u rm d a b (fpMul fp32)

/-- `ffma` reads its destination (R196, R199). -/
def semFfma (u : SUnit) (d a b : BitVec 6) (rm : BitVec 3) (x : Ctx) : SlotOut :=
  let mode := x.mode rm
  let (ids, r) := x.srK7 mode
  let p := x.rs a
  let q := x.rs b
  let o := x.rs d
  fpOut u d (idS a ++ idS b ++ idS d ++ ids)
    (fpFma fp32 mode r.val.toNat p.val.toNat q.val.toNat o.val.toNat)
    (maxTag [p.tag, q.tag, o.tag, r.tag])

/-- FP operations of latency 3 that raise no flag. -/
def semFmin (u : SUnit) (d a b : BitVec 6) : Ctx → SlotOut :=
  scalar2 u 3 d a b (fun p q => .ofNat 32 (fpMinMax false p.toNat q.toNat))
def semFmax (u : SUnit) (d a b : BitVec 6) : Ctx → SlotOut :=
  scalar2 u 3 d a b (fun p q => .ofNat 32 (fpMinMax true p.toNat q.toNat))
def semFabs (u : SUnit) (d a : BitVec 6) : Ctx → SlotOut :=
  scalar1 u 3 d a (fun p => .ofNat 32 (fpAbs p.toNat))
def semFneg (u : SUnit) (d a : BitVec 6) : Ctx → SlotOut :=
  scalar1 u 3 d a (fun p => .ofNat 32 (fpNeg p.toNat))

/-- A conversion whose stochastic source is b (R105, R197). -/
def cvt1 (u : SUnit) (rm : BitVec 3) (d a b : BitVec 6) (f : Nat → Nat → Word → FRes) (x : Ctx) :
    SlotOut :=
  let mode := x.mode rm
  let r : SReg := if mode = 6 then x.rs b else .zero
  let p := x.rs a
  fpOut u d (idS a ++ (if mode = 6 then idS b else [])) (f mode r.val.toNat p.val)
    (Tag.max p.tag r.tag)

/-- An integer result as a word. -/
def intRes (r : Int × BitVec 5) : FRes := ⟨(BitVec.ofInt 32 r.1).toNat, r.2⟩

def semFcvtWF (u : SUnit) (d a b : BitVec 6) (rm : BitVec 3) : Ctx → SlotOut :=
  cvt1 u rm d a b (fun m r v => intRes (fpToInt (-(2 ^ 31)) (2 ^ 31 - 1) m r v.toNat))
def semFcvtFW (u : SUnit) (d a b : BitVec 6) (rm : BitVec 3) : Ctx → SlotOut :=
  cvt1 u rm d a b (fun m r v => intToFp m r v.toInt)
def semFcvtFWu (u : SUnit) (d a b : BitVec 6) (rm : BitVec 3) : Ctx → SlotOut :=
  cvt1 u rm d a b (fun m r v => intToFp m r v.toNat)
def semFcvtWuF (u : SUnit) (d a b : BitVec 6) (rm : BitVec 3) : Ctx → SlotOut :=
  cvt1 u rm d a b (fun m r v => intRes (fpToInt 0 (2 ^ 32 - 1) m r v.toNat))

/-- An FP compare (R153, R198). -/
def fcmp (op : Nat) (p : BitVec 3) (a b : BitVec 6) (x : Ctx) : SlotOut :=
  let v := x.rs a
  let w := x.rs b
  let t := Tag.max v.tag w.tag
  let r := fpCmp op v.val.toNat w.val.toNat
  predOut 3 p.toNat (idS a ++ idS b) r.1 t (if t = 0 then r.2 else 0)

def semFcmpEq (_ : SUnit) (p : BitVec 3) (a b : BitVec 6) : Ctx → SlotOut := fcmp 0 p a b
def semFcmpLt (_ : SUnit) (p : BitVec 3) (a b : BitVec 6) : Ctx → SlotOut := fcmp 1 p a b
def semFcmpLe (_ : SUnit) (p : BitVec 3) (a b : BitVec 6) : Ctx → SlotOut := fcmp 2 p a b
def semFcmpUn (_ : SUnit) (p : BitVec 3) (a b : BitVec 6) : Ctx → SlotOut := fcmp 3 p a b
def semFclass (u : SUnit) (d a : BitVec 6) : Ctx → SlotOut :=
  scalar1 u 3 d a (fun p => .ofNat 32 (fpClass p.toNat))

end Sys2Proof.Machine
end

