-- ==== Sys2Proof/Machine/Matrix.lean ====
section
/-!
DEFINITION. The matrix unit and tile registers (R313 to R338): the X-slot instructions, the routines
with their arithmetic (R158 to R161), swaps, claims and lazy loads.
-/
namespace Sys2Proof.Machine

/-! ### Tiles and commands -/

def Tile.rows (t : Tile) : Nat := bits t.deckle 0 8 + 1
def Tile.cols (t : Tile) : Nat := bits t.deckle 8 8 + 1
def Tile.isInt (t : Tile) : Bool := bits t.deckle 16 3 == 1
def Tile.unset : Tile := ⟨.uncfg, 0⟩
def MatUnit.tile (m : MatUnit) (t : Nat) : Tile := (m.tiles[t]?).getD .unset
/-- The active bank (R313). -/
def MatUnit.active (m : MatUnit) : Nat := if m.act then 1 else 0

/-- Bits of element e of tile t (R326). -/
def State.tileGet (s : State) (c t e : Nat) : Word := .ofNat 32 (s.peekN (tileKey c t (4 * e)) 4)
def State.tilePut (s : State) (c t e : Nat) (v : Word) : State := s.pokes (tileKey c t (4 * e)) (bytesLE 4 v.toNat)

def State.updMat (s : State) (c : Nat) (f : MatUnit → MatUnit) : State :=
  s.updCore c (fun k => { k with mat := f k.mat })
def MatUnit.setTile (m : MatUnit) (t : Nat) (x : Tile) : MatUnit := { m with tiles := m.tiles.setIfInBounds t x }
def badEl (t e : Nat) : Nat := 16384 * t + e
/-- Element e of tile t becomes sound or uncorrectable (R323). -/
def MatUnit.mark (m : MatUnit) (t e : Nat) (bad : Bool) : MatUnit :=
  { m with badEls := if bad then insertSorted (badEl t e) m.badEls else m.badEls.filter (· ≠ badEl t e) }
/-- Every element of a tile becomes sound. -/
def MatUnit.clear (m : MatUnit) (t : Nat) : MatUnit := { m with badEls := m.badEls.filter (fun e => e / 16384 != t) }

/-- A tile with every element +0 and this state and deckle (R331, R332). -/
def State.zeroTile (s : State) (c t : Nat) (x : Tile) : State :=
  (s.wipe (tileKey c t 0) 65536).updMat c (fun m => (m.clear t).setTile t x)

/-- Fields of parameter words (R317). -/
def Cmd.p (q : Cmd) (r lo n : Nat) : Nat := bits ((q.mp[r]?).getD 0) lo n
def Cmd.tile (q : Cmd) : Nat := q.p 1 9 3
def Cmd.M (q : Cmd) : Nat := q.p 1 16 9
def Cmd.N (q : Cmd) : Nat := q.p 1 25 9
def Cmd.K (q : Cmd) : Nat := q.p 1 34 10
/-- A command names a tile (R318, R327). -/
def Cmd.names (q : Cmd) (t : Nat) : Bool := !q.swap && (decide (32 ≤ q.routine) || q.tile == t)
/-- It touches nothing (R319 item 3). -/
def Cmd.empty (q : Cmd) : Bool := decide (q.routine < 5) && (q.M == 0 || q.N == 0)
/-- Its steps of 16 rows (R318); a vendor routine runs as one. -/
def Cmd.steps (q : Cmd) : Nat := if q.empty then 0 else if 32 ≤ q.routine then 1 else (q.M + 15) / 16
def Cmd.ended (q : Cmd) : Bool := q.stopped || decide (q.steps ≤ q.step)

/-! ### Number forms (R137, R158 to R161) -/

/-- A float format by its code. -/
def mFmt (code : Nat) : Fmt :=
  match code with
  | 0 => e4m3
  | 1 => e5m2
  | 2 => e2m1
  | _ => bf16
def mIsInt (code : Nat) : Bool := code == 3 || code == 4
/-- The integer of a code (R137). -/
def mInt (code x : Nat) : Int := if code = 3 then sextI x 8 else (x : Int)
/-- The greatest K of a bank format (R314). -/
def kLimit (bfmt : Nat) : Nat := if bfmt = 2 then 512 else if bfmt = 5 then 128 else 256

def pow2 (e : Int) : Nat := 2 ^ e.toNat

/-- The group sum of R159 with the flags of R320; ps are the operands. -/
def groupSum (ps : List (Fp × Fp)) (sa sb : Nat) : FRes :=
  let prods := ps.map (fun p => p.1.mul p.2)
  let infs := prods.filter (fun p => p.1.isInf)
  if sa = 255 ∨ sb = 255 ∨ ps.any (fun p => p.1.isNaN || p.2.isNaN) then ⟨fp32.nanBits, 0⟩
  else if prods.any (·.2) ∨ (infs.any (fun p => p.1.sign) ∧ infs.any (fun p => !p.1.sign)) then ⟨fp32.nanBits, flagNV⟩
  else match infs with
    | (p, _) :: _ => ⟨fp32.signed p.sign fp32.infBits, 0⟩
    | [] =>
      let nz := prods.filterMap (fun p => match p.1 with
        | .fin s m e => if m = 0 then none else some (s, m, e)
        | _ => none)
      match nz with
      | [] => ⟨0, 0⟩
      | (_, m0, e0) :: _ =>
        let emax := nz.foldl (fun (a : Int) p => max a (p.2.2 + Nat.log2 p.2.1)) (e0 + Nat.log2 m0)
        let q := emax - 60
        let units (p : Bool × Nat × Int) : Int :=
          let v : Int := if p.1 then -(p.2.1 : Int) else (p.2.1 : Int)
          if q ≤ p.2.2 then v * (pow2 (p.2.2 - q) : Int) else v / (pow2 (q - p.2.2) : Int)
        let sum := nz.foldl (fun (a : Int) p => a + units p) 0
        if sum = 0 then ⟨0, 0⟩
        else roundFin fp32 false 0 0 (decide (sum < 0)) sum.natAbs (q + (sa : Int) - 127 + (sb : Int) - 127)

/-- The scratchpad address of A[m][k] (R320). -/
def Cmd.aAddr (q : Cmd) (m k : Nat) : Nat :=
  let addr := q.p 0 0 26
  let strd := q.p 0 32 26
  let fmt := q.p 1 0 3
  let w := if fmt = 5 then 2 else 1
  if q.p 1 6 1 = 0 then (if fmt = 2 then addr + m * strd + k / 2 else addr + m * strd + k * w)
  else addr + k * strd + m * w

/-- The bytes of A[m][k] (R320). -/
def Cmd.aBytes (q : Cmd) (m k : Nat) : List Nat :=
  if q.p 1 0 3 = 5 then [q.aAddr m k, q.aAddr m k + 1] else [q.aAddr m k]

/-- The code at A[m][k] (R137, R320). -/
def State.aCode (s : State) (c : Nat) (q : Cmd) (m k : Nat) : Nat :=
  let a := q.aAddr m k
  match q.p 1 0 3 with
  | 2 => nbits (s.padRead c q.kid a 1) (4 * (k % 2)) 4
  | 5 => s.padRead c q.kid a 2
  | _ => s.padRead c q.kid a 1

/-- The code of B[k][n] in the active bank (R314). -/
def State.bCode (s : State) (c : Nat) (q : Cmd) (k n : Nat) : Nat :=
  let b := (s.core c).mat.active
  let at_ (r : Nat) : Nat := (s.byte (bankKey c b (192 * r + n))).toNat
  match q.p 1 3 3 with
  | 2 => nbits (at_ (k / 2)) (4 * (k % 2)) 4
  | 5 => at_ (2 * k) + 256 * at_ (2 * k + 1)
  | _ => at_ k

/-- The bank rows that hold B[k][n] (R314). -/
def bRows (bfmt k : Nat) : List Nat := if bfmt = 2 then [k / 2] else if bfmt = 5 then [2 * k, 2 * k + 1] else [k]

/-- An uncorrectable word of the scratchpad as a routine reads it (R215). -/
def State.padBad (s : State) (c : Nat) (kid : Word) (a : Nat) : Bool := s.wordTag c kid a == 3

/-- One output element of routines 0 to 2: its bits, flags, and whether a source was uncorrectable (R320, R323). An
element with an uncorrectable source sets no flag but UE (log 68). -/
def State.mmaElement (s : State) (c : Nat) (q : Cmd) (m n : Nat) : Word × BitVec 5 × Bool :=
  let ovw := q.routine == 1 || (q.routine == 2 && q.p 1 7 2 == 1)
  let af := q.p 1 0 3
  let bf := q.p 1 3 3
  let u := (s.core c).mat
  let tile := u.tile q.tile
  let e := m * tile.cols + n
  let ks := List.range q.K
  let G := if af = 5 then 16 else 32
  let groups := (q.K + G - 1) / G
  let spa := q.p 4 0 26
  let spb := q.p 4 32 26
  let scales : List Nat := if q.routine = 2
    then (List.range groups).flatMap (fun g => [spa + 16 * m + g, spb + 256 * g + n]) else []
  let bad := ks.any (fun k => (q.aBytes m k).any (s.padBad c q.kid) ||
      (bRows bf k).any (fun r => u.badRows.contains (256 * u.active + r))) ||
    scales.any (s.padBad c q.kid) || (!ovw && u.badEls.contains (badEl q.tile e))
  let c0 : Word := if ovw then 0 else s.tileGet c q.tile e
  if bad then (0, 0, true)
  else
    let members (g : Nat) : List Nat := ks.filter (fun k => k / G == g)
    let r := (List.range groups).foldl (fun (acc : Nat × BitVec 5) g =>
      if mIsInt af then
        let sum := (members g).foldl (fun (a : Int) k => a + mInt af (s.aCode c q m k) * mInt bf (s.bCode c q k n)) 0
        (((acc.1 : Int) + sum).emod (2 ^ 32) |>.toNat, acc.2)
      else
        let sa := if q.routine = 2 then s.padRead c q.kid (spa + 16 * m + g) 1 else 127
        let sb := if q.routine = 2 then s.padRead c q.kid (spb + 256 * g + n) 1 else 127
        let gs := groupSum ((members g).map (fun k =>
          ((mFmt af).decode (s.aCode c q m k), (mFmt bf).decode (s.bCode c q k n)))) sa sb
        let a := fpAdd fp32 0 0 acc.1 gs.bits
        (a.bits, acc.2 ||| gs.flags ||| a.flags)) (c0.toNat, 0)
    (.ofNat 32 r.1, r.2, false)

/-- The scratchpad bytes that a step of routines 0 to 2 reads (R320, R322). -/
def Cmd.readsOf (q : Cmd) (rows : List Nat) : List Nat :=
  let groups := (q.K + (if q.p 1 0 3 = 5 then 15 else 31)) / (if q.p 1 0 3 = 5 then 16 else 32)
  rows.flatMap (fun m => (List.range q.K).flatMap (q.aBytes m) ++
    (if q.routine = 2 then (List.range groups).map (fun g => q.p 4 0 26 + 16 * m + g) else [])) ++
  (if q.routine = 2 then (List.range groups).flatMap (fun g =>
    (List.range q.N).map (fun n => q.p 4 32 26 + 256 * g + n)) else [])

/-- The rows of step n. -/
def Cmd.stepRows (q : Cmd) (n : Nat) : List Nat := (List.range 16).map (16 * n + ·) |>.filter (· < q.M)

/-- `MST` bits set (R320 to R323, R335). -/
def State.mstOr (s : State) (c : Nat) (b : BitVec 8) : State := s.updMat c (fun m => { m with mst := m.mst ||| b })
def mstRFR : BitVec 8 := 0x80
def mstUE : BitVec 8 := 0x40

/-- Elements of a tile written by a routine or load: element, bits, uncorrectable (R323, R326). -/
def State.tileWrites (s : State) (c t : Nat) (l : List (Nat × Word × Bool)) : State :=
  let s1 := l.foldl (fun s w => (s.tilePut c t w.1 w.2.1).updMat c (fun m => m.mark t w.1 w.2.2)) s
  let s2 := s1.updMat c (fun m => m.setTile t { m.tile t with st := .dirty })
  if l.any (·.2.2) then s2.mstOr c mstUE else s2

/-- One step of routines 0 to 2; none when a read is refused (R320, R322). -/
def State.stepProduct (s : State) (c : Nat) (q : Cmd) : Option State :=
  let rows := q.stepRows q.step
  let ovw := q.routine == 1 || (q.routine == 2 && q.p 1 7 2 == 1)
  if q.K = 0 ∧ ¬ ovw then some s
  else if (q.readsOf rows).any (fun a => !(s.core c).readable q.kid a) then none
  else
    let cols := ((s.core c).mat.tile q.tile).cols
    let l := rows.flatMap (fun m => (List.range q.N).map (fun n => (m * cols + n, s.mmaElement c q m n)))
    let fl := l.foldl (fun (f : BitVec 5) w => f ||| w.2.2.1) 0
    some ((s.tileWrites c q.tile (l.map (fun w => (w.1, w.2.1, w.2.2.2)))).mstOr c (fl.zeroExtend 8))

/-! ### Conversions (R321) -/

/-- Element size and float format of a CFMT code. -/
def cSize (code : Nat) : Nat :=
  match code with
  | 0 => 4
  | 1 => 2
  | 2 => 2
  | 3 => 1
  | 4 => 1
  | 5 => 4
  | _ => 1
def cFmt (code : Nat) : Fmt :=
  match code with
  | 0 => fp32
  | 1 => bf16
  | 2 => fp16
  | 3 => e4m3
  | _ => e5m2
def cIsInt (code : Nat) : Bool := decide (5 ≤ code)

/-- conv between two CFMT codes (R321). -/
def convert (src dst : Nat) (sat : Bool) (mode u x : Nat) : FRes :=
  if cIsInt src then
    let v := sextI x (8 * cSize src)
    if cIsInt dst then
      let w := satS (8 * cSize dst) v
      ⟨(w.emod (2 ^ (8 * cSize dst))).toNat, if w = v then 0 else flagNV⟩
    else roundFin (cFmt dst) sat mode u (decide (v < 0)) v.natAbs 0
  else if cIsInt dst then
    let n := 8 * cSize dst
    let x32 := (fpCvt (cFmt src) fp32 false 0 0 x).bits
    let (v, f) := fpToInt (-(2 ^ (n - 1))) (2 ^ (n - 1) - 1) mode u x32
    ⟨(v.emod (2 ^ n)).toNat, f⟩
  else if src = 0 ∧ dst = 0 then ⟨x, 0⟩
  else fpCvt (cFmt src) (cFmt dst) sat mode u x

/-- The rounding mode of `tstore` and `tload` (R321). -/
def Cmd.roundMode (q : Cmd) : Nat :=
  if q.p 2 61 3 = 7 then (if q.mode = 7 then 0 else q.mode) else q.p 2 61 3

/-- rngx(SEED, 256r + c) (R188, R321). -/
def Cmd.rand (q : Cmd) (r c : Nat) : Nat := (rngMix (.ofNat 32 (q.p 3 0 32)) (.ofNat 32 (256 * r + c))).toNat

/-- The code of a tile's own format. -/
def Tile.code (t : Tile) : Nat := if t.isInt then 5 else 0

/-- Row r of `tstore`: word by word (R321 to R323); SAT acts on E4M3 and E5M2 alone (R317). An element with an
uncorrectable source sets no flag but UE (log 68). -/
def State.storeRow (q : Cmd) (c : Nat) (s : State) (r : Nat) : State :=
  let code := q.p 2 58 3
  let w := cSize code
  let u := (s.core c).mat
  let tile := u.tile q.tile
  let a0 := q.p 2 0 26 + r * q.p 2 32 26
  let els := (List.range q.N).map (fun n =>
    (convert tile.code code (q.p 3 32 1 == 1 && (code == 3 || code == 4)) q.roundMode (q.rand r n)
      (s.tileGet c q.tile (r * tile.cols + n)).toNat, u.badEls.contains (badEl q.tile (r * tile.cols + n))))
  let flags := els.foldl (fun (f : BitVec 5) e => if e.2 then f else f ||| e.1.flags) 0
  let bytes := els.flatMap (fun e => bytesLE w (if e.2 then 0 else e.1.bits))
  let n := bytes.length
  let s1 := (s.mstOr c (flags.zeroExtend 8)).mstOr c (if els.any (·.2) then mstUE else 0)
  (List.range ((a0 + n + 15) / 16 - a0 / 16)).foldl (fun s i =>
    let g := (a0 / 16 + i) * 16
    let lo := Nat.max a0 g
    let hi := Nat.min (a0 + n) (g + 16)
    if ¬ (s.core c).engineWritable q.kid lo then s.mstOr c mstRFR
    else
      s.enlist (.matrix c) q.kid false [] (s.padKey c q.kid lo) ⟨some (c, lo), none⟩ ((bytes.drop (lo - a0)).take (hi - lo))
        ((List.range (hi - lo)).map (fun j => ((els[(lo - a0 + j) / w]?).map (·.2)).getD false))) s1

/-- One step of `tload`; none when a read is refused (R321, R322). An element with an uncorrectable source sets no
flag but UE (log 68). -/
def State.stepLoad (s : State) (c : Nat) (q : Cmd) : Option State :=
  let code := q.p 2 58 3
  let w := cSize code
  let tile := (s.core c).mat.tile q.tile
  let at_ (r n : Nat) : Nat := q.p 2 0 26 + r * q.p 2 32 26 + n * w
  let els := (q.stepRows q.step).flatMap (fun r => (List.range q.N).map (fun n => (r, n)))
  if els.any (fun e => !(s.core c).readable q.kid (at_ e.1 e.2)) then none
  else
    let l := els.map (fun e =>
      let a := at_ e.1 e.2
      (e.1 * tile.cols + e.2,
       convert code tile.code false q.roundMode (q.rand e.1 e.2) (s.padRead c q.kid a w),
       s.padBad c q.kid a))
    let fl := l.foldl (fun (f : BitVec 5) e => if e.2.2 then f else f ||| e.2.1.flags) 0
    some ((s.tileWrites c q.tile (l.map (fun e =>
      (e.1, if e.2.2 then (0 : Word) else .ofNat 32 e.2.1.bits, e.2.2)))).mstOr c (fl.zeroExtend 8))

/-- A vendor routine: what its image defines is free (R318, log 9); its writes are inbound writes, uncorrectable
data propagates, and DZ is never set (R322, R323, R335). -/
def State.runVendor (s : State) (c : Nat) (q : Cmd) : State :=
  let s1 := (Config.vendorTiles s.tick).foldl (fun (s : State) e =>
    let t := (s.core c).mat.tile e.1
    if t.st = .uncfg ∨ t.rows * t.cols ≤ e.2.1 then s else s.tileWrites c e.1 [(e.2.1, e.2.2.1, e.2.2.2)]) s
  let s2 := (Config.vendorWrites s.tick).foldl (fun (s : State) e =>
    if (s.core c).engineWritable q.kid e.1
    then s.enlist (.matrix c) q.kid false [] (s.padKey c q.kid e.1) ⟨some (c, e.1), none⟩ [e.2.1] [e.2.2]
    else s.mstOr c mstRFR) s1
  let used := (Config.vendorTiles s.tick).any (·.2.2.2) || (Config.vendorWrites s.tick).any (·.2.2)
  (s2.mstOr c (Config.vendorMst s.tick &&& 0xD7)).mstOr c (if used then mstUE else 0)

/-! ### Running the head command -/

def State.headCmd (s : State) (c : Nat) : Option Cmd := (s.core c).mat.queue.head?

/-- The oldest command is replaced. -/
def State.setHead (s : State) (c : Nat) (q : Cmd) : State :=
  s.updMat c (fun m => { m with queue := q :: m.queue.drop 1 })

/-- A tile that the command names has still to be loaded (R338). -/
def State.cmdLazy (s : State) (c : Nat) (q : Cmd) : Bool :=
  (List.range 8).any (fun t => q.names t && !q.empty && ((s.core c).mat.tile t).st == .lazy)

/-- One step of a routine (R325). -/
def State.runStep (s : State) (c : Nat) (q : Cmd) : State :=
  let go (r : Option State) : State := match r with
    | some s1 => s1.setHead c { q with step := q.step + 1 }
    | none => (s.mstOr c mstRFR).setHead c { q with stopped := true }
  if q.routine < 3 then go (s.stepProduct c q)
  else if q.routine = 3 then go (some ((q.stepRows q.step).foldl (State.storeRow q c) s))
  else if q.routine = 4 then go (s.stepLoad c q)
  else go (some (s.runVendor c q))

/-- ROUTINE_STEP (R325): the oldest command runs one step, if it is a routine with steps to run. What the unit has
written before is in place for its reads (R317). -/
def State.routineStep (s : State) (c : Nat) : State :=
  match s.headCmd c with
  | some q => if q.swap ∨ q.ended ∨ s.cmdLazy c q then s else (s.performs (fun f => f.who == .matrix c)).runStep c q
  | none => s

/-- Up to n steps. -/
def State.routineRun (c : Nat) : Nat → State → State
  | 0, s => s
  | n + 1, s => State.routineRun c n (s.routineStep c)

/-- The oldest command is routine p and runs all its remaining steps (R318). -/
def State.runRoutine (s : State) (c : Nat) (p : Nat → Bool) : State :=
  match s.headCmd c with
  | some q => if q.swap ∨ ¬ p q.routine then s else State.routineRun c 16 s
  | none => s

/-- A command signals its barrier unless NS is set (R316, R324). -/
def State.signalCmd (s : State) (c : Nat) (q : Cmd) : State :=
  if q.f % 2 = 1 then s else s.arrive c q.bar q.kid

/-- ROUTINE_COMPLETE (R324). -/
def State.routineComplete (s : State) (c : Nat) : State :=
  match s.headCmd c with
  | some q =>
    if q.swap ∨ ¬ q.ended then s
    else ((s.landed (.matrix c)).updMat c (fun m => { m with queue := m.queue.drop 1 })).signalCmd c q
  | none => s

/-- A BANKFILL whose writes the banks have accepted is not complete (R316, R358). -/
def Core.filling (k : Core) : Bool :=
  ((k.jobs[0]?).getD []).any (fun j => j.stage == .checked && bits j.bytes 0 8 == 5)

/-- SWAP_COMPLETE (R316). -/
def State.swapComplete (s : State) (c : Nat) : State :=
  match s.headCmd c with
  | some q =>
    if ¬ q.swap ∨ (s.core c).filling then s
    else (s.updMat c (fun m => { m with act := !m.act, queue := m.queue.drop 1 })).signalCmd c q
  | none => s

/-! ### X-slot instructions -/

/-- The bundle holds while another cairn owns the unit (R329, R336). -/
def touching (x : Ctx) (o : SlotOut) : SlotOut :=
  if x.k.ownsUnit then o else { o with res := .hold .claim }

/-- The bundle holds while a command names tile t or the tile is to be loaded (R327, R338). -/
def onTile (x : Ctx) (t : Nat) (o : SlotOut) : SlotOut :=
  touching x (if x.k.mat.queue.any (fun q => q.names t) || (x.k.mat.tile t).st == .lazy
    then { o with res := .hold (.tile t) } else o)

/-- `mparm` (R330). -/
def semMparm (hi : Bool) (p : BitVec 3) (sx : BitVec 6) (x : Ctx) : SlotOut :=
  let v := x.rs sx
  { nopOut with
    reads := idS sx
    writes := [.mp p.toNat]
    effect := true
    res := .ok [⟨1, .mp p.toNat, .half hi v.val v.tag⟩] id .seq }

/-- The condition of R319 that OPERAND_FORMAT records; 0 for none. -/
def formatCode (q : Cmd) (t : Tile) : Nat :=
  let af := q.p 1 0 3
  let bf := q.p 1 3 3
  let cf := q.p 2 58 3
  let product := decide (q.routine < 3)
  let w := cSize cf
  if (product && (decide (6 ≤ af) || decide (6 ≤ bf))) || (!product && cf == 7) then 1
  else if product && (((af == 5) != (bf == 5)) || (mIsInt af != mIsInt bf) ||
      (q.routine == 2 && (decide (3 ≤ af) || decide (3 ≤ bf)))) then 2
  else if 256 < q.M ∨ (if product then 192 else 256) < q.N ∨ (product ∧ kLimit bf < q.K) then 3
  else if t.rows < q.M ∨ t.cols < q.N then 4
  else if product && (t.isInt != mIsInt af) then 5
  else if product && q.p 1 6 1 == 1 && (af == 2 || q.p 0 0 4 != 0 || q.p 0 32 4 != 0) then 6
  else if (q.routine == 2 && (q.p 4 0 4 != 0 || q.p 4 32 8 != 0)) ||
      (!product && (q.p 2 0 26 % w != 0 || q.p 2 32 26 % w != 0)) then 7
  else if q.routine == 2 && decide (2 ≤ q.p 1 7 2) then 8
  else 0

/-- A command joins the unit's queue at commit (R62, R315). -/
def acceptCmd (x : Ctx) (q : Cmd) (s : State) : State :=
  s.indexed x.c agMatrix x.idx (fun s => s.updMat x.c (fun m => { m with queue := m.queue ++ [q] }))

/-- A command that waits for room or is accepted (R315). -/
def cmdRes (x : Ctx) (q : Cmd) : SlotRes :=
  if 3 ≤ x.k.mat.queue.length ∧ ¬ x.s.suppressed x.c agMatrix x.idx then .hold .matrixQueue
  else .ok [] (acceptCmd x q) .seq

def mpIds : List RegId := (List.range 8).map .mp

/-- The command that a bundle of core c would give (R317). -/
def Ctx.cmd (x : Ctx) (swap : Bool) (r bar f : Nat) : Cmd :=
  ⟨swap, r, bar, f, x.k.ctl.fpm.toNat, 0, false, x.k.regs.mp.map (·.val), x.kid,
    match x.k.run with
    | some e => e.2
    | none => 0⟩

/-- `mcall` (R319). -/
def semMcall (r : BitVec 8) (b : BitVec 7) (n : BitVec 1) (x : Ctx) : SlotOut :=
  let q := x.cmd false r.toNat b.toNat n.toNat
  let t := x.k.mat.tile q.tile
  let known := decide (r.toNat < 5) || (match x.s.running x.c with
    | some (k, _) => decide (32 ≤ r.toNat) && k.images.contains r.toNat
    | none => false)
  let poisoned := (List.range 8).find? (fun i => ((x.k.regs.mp[i]?).getD ⟨0, 0⟩).tag != 0)
  touching x { nopOut with
    reads := mpIds
    indexed := true
    effect := true
    res :=
      if ¬ known then .ofTrap trIllegalRoutine
      else match poisoned with
        | some i => .trap trPoisonStore (.ofNat 32 i)
        | none =>
          if q.empty ∨ 32 ≤ r.toNat then cmdRes x q
          else if t.st = .uncfg then .ofTrap trUnconfiguredTile
          else if formatCode q t ≠ 0 then .trap trOperandFormat (.ofNat 32 (formatCode q t))
          else cmdRes x q }

/-- `mswap` (R316). -/
def semMswap (b : BitVec 7) (n : BitVec 1) (x : Ctx) : SlotOut :=
  touching x { nopOut with
    indexed := true
    effect := true
    res := cmdRes x (x.cmd true 0 b.toNat n.toNat) }

/-- `tcfg` (R331). -/
def semTcfg (t : BitVec 3) (sx : BitVec 6) (x : Ctx) : SlotOut :=
  let v := x.rs sx
  let cfg := v.val.getLsbD 31
  let wrong := bits v.val 19 12 != 0 || decide (2 ≤ bits v.val 16 3) ||
    decide (16384 < (bits v.val 0 8 + 1) * (bits v.val 8 8 + 1))
  onTile x t.toNat { nopOut with
    reads := idS sx
    effect := true
    res :=
      if v.tag ≠ 0 then .ofTrap trPoisonStore
      else if ¬ cfg then
        if v.val ≠ 0 then .trap trOperandFormat v.val
        else .ok [] (fun s => s.zeroTile x.c t.toNat .unset) .seq
      else if wrong then .trap trOperandFormat v.val
      else .ok [] (fun s => s.zeroTile x.c t.toNat ⟨.zero, v.val⟩) .seq }

/-- `tzero` (R332). -/
def semTzero (t : BitVec 3) (x : Ctx) : SlotOut :=
  let u := x.k.mat.tile t.toNat
  onTile x t.toNat { nopOut with
    effect := true
    res := if u.st = .uncfg then .ofTrap trUnconfiguredTile
      else .ok [] (fun s => s.zeroTile x.c t.toNat { u with st := .zero }) .seq }

/-- `tdrop` (R332). -/
def semTdrop (t : BitVec 3) (x : Ctx) : SlotOut :=
  onTile x t.toNat { nopOut with
    effect := true
    res := .ok [] (fun s => s.zeroTile x.c t.toNat .unset) .seq }

/-- The element that lane l of a slice names, if the tile has it (R333). -/
def Tile.slice (t : Tile) (col : Bool) (i e l : Nat) : Option Nat :=
  let r := if col then 64 * e + l else i
  let c := if col then i else 64 * e + l
  if r < t.rows ∧ c < t.cols then some (r * t.cols + c) else none
/-- The index or the segment lies outside the tile (R333). -/
def Tile.outside (t : Tile) (col : Bool) (i e : Nat) : Bool :=
  if col then decide (t.cols ≤ i) || decide (t.rows ≤ 64 * e) else decide (t.rows ≤ i) || decide (t.cols ≤ 64 * e)

/-- `trow.w` and `tcol.w` (R333). -/
def semSliceW (col : Bool) (v : BitVec 5) (t : BitVec 3) (i : BitVec 8) (e : BitVec 2) (x : Ctx) : SlotOut :=
  let u := x.k.mat.tile t.toNat
  let src := x.rv v
  let els := (List.range 64).filterMap (fun l => (u.slice col i.toNat e.toNat l).map (fun n => (n, l)))
  onTile x t.toNat { nopOut with
    reads := idV v
    effect := true
    res :=
      if u.st = .uncfg then .ofTrap trUnconfiguredTile
      else if u.outside col i.toNat e.toNat then .trap trOperandFormat (.ofNat 32 i.toNat)
      else if els.any (fun p => ltag src.tags p.2 != 0) then .ofTrap trPoisonStore
      else .ok [] (fun s => s.tileWrites x.c t.toNat (els.map (fun p => (p.1, lane 32 src.val p.2, false)))) .seq }

/-- `trow.r` and `tcol.r` (R333). -/
def semSliceR (col : Bool) (v : BitVec 5) (t : BitVec 3) (i : BitVec 8) (e : BitVec 2) (x : Ctx) : SlotOut :=
  let u := x.k.mat.tile t.toNat
  let el (l : Nat) : Option Nat := u.slice col i.toNat e.toNat l
  let isBad (l : Nat) : Bool := match el l with
    | some n => x.k.mat.badEls.contains (badEl t.toNat n)
    | none => false
  let val := packLanes 32 64 (fun l => match el l with
    | some n => if isBad l then 0 else x.s.tileGet x.c t.toNat n
    | none => 0)
  let o := vectorOut 3 4 v [] val (packTags (fun l => if isBad l then 3 else 0)) (BitVec.allOnes 256)
  onTile x t.toNat { o with
    effect := true
    res := if u.st = .uncfg then .ofTrap trUnconfiguredTile
      else if u.outside col i.toNat e.toNat then .trap trOperandFormat (.ofNat 32 i.toNat)
      else o.res }

def semTrowW := semSliceW false
def semTcolW := semSliceW true
def semTrowR := semSliceR false
def semTcolR := semSliceR true

/-- `mstat` (R334). -/
def semMstat (k : BitVec 3) (x : Ctx) : SlotOut :=
  let m := x.k.mat
  let sum (p : Tile → Bool) : Nat := (List.range 8).foldl (fun a t => if p (m.tile t) then a + 2 ^ t else a) 0
  let v := (if x.s.house.alarm then 2 ^ 20 else 0) + (if m.act then 2 ^ 19 else 0) + m.queue.length % 8 * 2 ^ 16 +
    sum (fun t => t.st == .dirty) * 256 + sum (fun t => t.st != .uncfg)
  touching x { kOut 2 k.toNat [] ⟨.ofNat 32 v, 0⟩ with effect := true }

/-! ### Claims and lazy loads (R336 to R338) -/

/-- Bits of a descriptor (R337). -/
def Cmd.descriptor (q : Cmd) : Nat :=
  q.routine + q.bar * 2 ^ 8 + q.f * 2 ^ 16 + (if q.swap then 2 ^ 24 else 0) + q.mode * 2 ^ 25 + q.step * 2 ^ 32
def Cmd.bytes (q : Cmd) : List Byte :=
  bytesLE 8 q.descriptor ++ q.mp.toList.flatMap (fun w => bytesLE 8 w.toNat) ++ zeros 8
def Cmd.ofBytes (l : List Byte) (kid : Word) (cix : Nat) : Cmd :=
  let d := ofBytesLE (l.take 8)
  ⟨nbit d 24, nbits d 0 8, nbits d 8 7, nbits d 16 6, nbits d 25 3, nbits d 32 5, false,
   .ofFn (fun i => .ofNat 64 (ofBytesLE ((l.drop (8 + 8 * i.val)).take 8))), kid, cix⟩

/-- The save area of a cairn that the device still keeps, with its kernel. -/
def State.areaOf (s : State) (who : Word × Nat) : Option (Kernel × Cairn) :=
  match s.kernel who.1 with
  | some k => (k.cairn who.2).map (fun q => (k, q))
  | none => none

/-- A tile's slot bytes (R338). -/
def State.tileBytes (s : State) (c t : Nat) : List Byte :=
  let u := (s.core c).mat.tile t
  s.peek (tileKey c t 0) (4 * u.rows * u.cols)

/-- Slot t of a cairn's save area (R338). -/
def Cairn.slotVa (q : Cairn) (t : Nat) : Nat := q.save + 0x4000 + 0x10000 * t

/-- A tile's slot-table entry after a writeback; `old` is the entry as it stands (R338). CHK of an entry with SV 0
covers the slot's bytes as they stand there (log 39). -/
def State.slotEntry (s : State) (c : Nat) (k : Kernel) (q : Cairn) (t : Nat) (old : List Byte) : List Byte :=
  let u := (s.core c).mat.tile t
  let plain (d : Word) : List Byte :=
    let e := bytesLE 4 d.toNat
    let n := 4 * (Tile.rows ⟨.zero, d⟩) * (Tile.cols ⟨.zero, d⟩)
    e ++ bytesLE 4 (crc32c (e ++ s.vread (k.req (q.slotVa t) 1 c) n)).toNat
  match u.st with
  | .uncfg => plain 0
  | .zero => plain u.deckle
  | .dirty =>
    let e := bytesLE 4 (u.deckle.toNat + 2 ^ 30)
    e ++ bytesLE 4 (crc32c (e ++ s.tileBytes c t)).toNat
  | _ => old

/-- The matrix control state and slot table that the writeback of core c's unit leaves (R336, R337). -/
def State.matBlock (s : State) (c : Nat) (n : Kernel) (r : Cairn) (old : List Byte) : List Byte :=
  let k := s.core c
  let q := k.mat.queue
  wordsLE [2 ^ 30 + (if q.isEmpty then 0 else 2 ^ 29) + c, s.mstWord k, q.length, 0] ++
    (q.flatMap Cmd.bytes ++ zeros 240).take 240 ++
    (List.range 8).flatMap (fun t => s.slotEntry c n r t ((old.drop (256 + 8 * t)).take 8))

/-- Steps 1 and 2 of a claim for the owner of core c's unit (R336); none while they must wait. -/
def State.evictUnit (s : State) (c : Nat) : State × Bool :=
  let m := (s.core c).mat
  let drop (s : State) : State := (s.landed (.matrix c)).updMat c (fun m => { m with
    owner := none, queue := [], badEls := [], tiles := .replicate 8 .unset, mst := 0 })
  match m.owner with
  | none => (drop s, true)
  | some who =>
    match s.areaOf who with
    | none => if m.queue.isEmpty then (drop s, true) else (s, false)
    | some (k, q) =>
      let pinnedReady := q.st == .ready && q.pin == 4 + c % 4
      let busy := match m.queue with
        | [] => false
        | h :: _ => !pinnedReady || (!h.swap && h.ended)
      if busy then (s, false)
      else if q.st = .done ∨ q.st = .lost then (drop s, true)
      else
        let dirty := (List.range 8).filter (fun t => (m.tile t).st == .dirty)
        let spans := (q.save, 1, 0x3550) :: (q.save, 2, 0x3550) ::
          dirty.map (fun t => (q.slotVa t, 2, 4 * (m.tile t).rows * (m.tile t).cols))
        match s.openAll k.asid k.kid.toNat c (.matrix c) spans with
        | .wait s1 => (s1, false)
        | .fail s1 => (drop (s1.loseCairn who.1 who.2), true)
        | .refused s1 => (drop (s1.loseCairn who.1 who.2), true)
        | .ready s1 =>
          let s2 := dirty.foldl (fun (s2 : State) t =>
            let s3 := s2.vwrite (k.req (q.slotVa t) 2 c) (s2.tileBytes c t)
            (List.range ((m.tile t).rows * (m.tile t).cols)).foldl (fun (s3 : State) e =>
              if m.badEls.contains (badEl t e) then
                match s3.locate (k.req (q.slotVa t + 4 * e) 2 c) with
                | .at p => s3.placeSpoil k.kid p 4
                | _ => s3
              else s3) s3) s1
          let area := s2.vread (k.req q.save 1 c) 0x3550
          let blk := s2.matBlock c k q ((area.drop 0x2300).take 320)
          let head := area.take 0x3C
          let body := (area.take 0x2300).drop 0x40 ++ blk ++ area.drop 0x2440
          let s3 := s2.vwrite (k.req q.save 2 c) (head ++ bytesLE 4 (crc32c (head ++ body)).toNat ++ body)
          let s4 : State := { s3 with cores := s3.cores.map (fun (e : Core) =>
            if e.run == some who then { e with matBlk := blk } else e) }
          (drop s4, true)

/-- Step 3 of a claim: core c's unit takes the state of its running cairn (R336). -/
def State.takeUnit (s : State) (c : Nat) (who : Word × Nat) : State :=
  let k := s.core c
  let blk := if k.matBlk.length = 320 then k.matBlk else zeros 320
  let w (o : Nat) : Nat := ofBytesLE ((blk.drop o).take 4)
  let tv := nbit (w 0) 30
  let tile (t : Nat) : Tile :=
    let d := w (256 + 8 * t)
    if ¬ tv ∨ d = 0 then .unset
    else ⟨if nbit d 30 then .lazy else .zero, .ofNat 32 (if nbit d 30 then d - 2 ^ 30 else d)⟩
  let cmds := (List.range (Nat.min 3 (w 8))).map (fun e => Cmd.ofBytes ((blk.drop (16 + 80 * e)).take 80) who.1 who.2)
  let s1 := (s.wipe (tileKey c 0 0) (8 * 65536)).updMat c (fun m => { m with
    owner := some who
    queue := cmds
    mst := .ofNat 8 (w 4) &&& 0xDF
    badEls := []
    tiles := .ofFn (fun i => tile i.val) })
  let s2 := if k.seq.hold = some .claim ∨ k.owesClaim then s1.excuseRope c else s1
  if k.seq.hold = some .claim then s2.updCore c (fun x => x.release s.cycle) else s2

/-- MATRIX_UNIT_CLAIM (R336). -/
def State.claimUnit (s : State) (c : Nat) : State :=
  let k := s.core c
  match k.run with
  | none => s
  | some who =>
    if k.mat.owner = some who ∨ ¬ (k.seq.hold = some .claim ∨ k.owesClaim) then s
    else
      match s.evictUnit c with
      | (s1, false) => s1
      | (s1, true) =>
        let blk := (s1.core c).matBlk
        let msv := ofBytesLE (blk.take 4)
        let y := nbits msv 0 8
        if nbit msv 31 ∧ y ≠ c ∧ (s1.core y).mat.owner = some who then
          match s1.evictUnit y with
          | (s2, false) => s2
          | (s2, true) => if (s2.core c).run = some who then s2.takeUnit c who else s2
        else if (s1.core c).run = some who then s1.takeUnit c who else s1

/-- A cairn's slot-table entry for tile t. -/
def State.slotTableEntry (s : State) (who : Word × Nat) (k : Kernel) (q : Cairn) (t : Nat) : List Byte :=
  match (List.range 256).find? (fun d => (s.core d).run == some who) with
  | some d => ((s.core d).matBlk.drop (256 + 8 * t)).take 8
  | none => s.vread (k.req (q.save + 0x2400 + 8 * t) 1 (noCore k.pn)) 8

/-- TILE_LAZY_LOAD (R310, R338). -/
def State.loadTile (s : State) (c t : Nat) : State :=
  let m := (s.core c).mat
  let u := m.tile t
  match m.owner with
  | none => s
  | some who =>
    if u.st ≠ .lazy ∨ ¬ ((s.core c).seq.hold = some (.tile t) ∨ m.queue.any (fun q => q.names t)) then s
    else match s.areaOf who with
      | none => s
      | some (k, q) =>
        let n := 4 * u.rows * u.cols
        let r := k.req (q.slotVa t) 1 c
        let entry := s.slotTableEntry who k q t
        let chk := ofBytesLE (entry.drop 4)
        let good (l : List Byte) : Bool := (crc32c (entry.take 4 ++ l)).toNat == chk
        let put (s : State) (l : List Byte) : State :=
          (s.pokes (tileKey c t 0) l).updMat c (fun m => m.setTile t { u with st := .clean })
        match s.openSpan r n (.matrix c) with
        | .wait s1 => s1
        | .ready s1 =>
          if ¬ s.primaryBad r n ∧ ¬ s1.vbad r n ∧ good (s1.vread r n) then put s1 (s1.vread r n)
          else if s1.belayed r ∧ s1.mirrorSound r n ∧ good (s1.mirrorRead r n) then put s1 (s1.mirrorRead r n)
          else s1.loseCairn who.1 who.2
        | .fail s1 => s1.loseCairn who.1 who.2
        | .refused s1 => s1.loseCairn who.1 who.2

end Sys2Proof.Machine
end

