-- ==== Sys2Proof/Machine/ExecMatrix.lean ====
section
/-!
DEFINITION. Slot 6 (R110, R316 to R334).
Each instruction is its slot operation, issued in a bundle of its own.
-/
namespace Sys2Proof.Machine

/-- MPARM_LO (R330). -/
def opMparmLo (g : BitVec 4) (p : BitVec 3) (sx : BitVec 6) : SlotOp :=
  .plain 6 (Instr.mparmLo g p sx).wf g (semMparm false p sx)
def execMparmLo (g : BitVec 4) (p : BitVec 3) (sx : BitVec 6) (s : State) : Out := issueLone (opMparmLo g p sx) true false s

/-- MPARM_HI (R330). -/
def opMparmHi (g : BitVec 4) (p : BitVec 3) (sx : BitVec 6) : SlotOp :=
  .plain 6 (Instr.mparmHi g p sx).wf g (semMparm true p sx)
def execMparmHi (g : BitVec 4) (p : BitVec 3) (sx : BitVec 6) (s : State) : Out := issueLone (opMparmHi g p sx) true false s

/-- MCALL (R319). -/
def opMcall (g : BitVec 4) (r : BitVec 8) (b : BitVec 7) (n : BitVec 1) : SlotOp :=
  .plain 6 (Instr.mcall g r b n).wf g (semMcall r b n)
def execMcall (g : BitVec 4) (r : BitVec 8) (b : BitVec 7) (n : BitVec 1) (s : State) : Out := issueLone (opMcall g r b n) true false s

/-- MSWAP (R316). -/
def opMswap (g : BitVec 4) (b : BitVec 7) (n : BitVec 1) : SlotOp :=
  .plain 6 (Instr.mswap g b n).wf g (semMswap b n)
def execMswap (g : BitVec 4) (b : BitVec 7) (n : BitVec 1) (s : State) : Out := issueLone (opMswap g b n) true false s

/-- TCFG (R331). -/
def opTcfg (g : BitVec 4) (t : BitVec 3) (sx : BitVec 6) : SlotOp :=
  .plain 6 (Instr.tcfg g t sx).wf g (semTcfg t sx)
def execTcfg (g : BitVec 4) (t : BitVec 3) (sx : BitVec 6) (s : State) : Out := issueLone (opTcfg g t sx) true false s

/-- TZERO (R332). -/
def opTzero (g : BitVec 4) (t : BitVec 3) : SlotOp :=
  .plain 6 (Instr.tzero g t).wf g (semTzero t)
def execTzero (g : BitVec 4) (t : BitVec 3) (s : State) : Out := issueLone (opTzero g t) true false s

/-- TROW_W (R333). -/
def opTrowW (g : BitVec 4) (v : BitVec 5) (t : BitVec 3) (i : BitVec 8) (e : BitVec 2) : SlotOp :=
  .plain 6 (Instr.trowW g v t i e).wf g (semTrowW v t i e)
def execTrowW (g : BitVec 4) (v : BitVec 5) (t : BitVec 3) (i : BitVec 8) (e : BitVec 2) (s : State) : Out := issueLone (opTrowW g v t i e) true false s

/-- TROW_R (R333). -/
def opTrowR (g : BitVec 4) (v : BitVec 5) (t : BitVec 3) (i : BitVec 8) (e : BitVec 2) : SlotOp :=
  .plain 6 (Instr.trowR g v t i e).wf g (semTrowR v t i e)
def execTrowR (g : BitVec 4) (v : BitVec 5) (t : BitVec 3) (i : BitVec 8) (e : BitVec 2) (s : State) : Out := issueLone (opTrowR g v t i e) true false s

/-- TCOL_W (R333). -/
def opTcolW (g : BitVec 4) (v : BitVec 5) (t : BitVec 3) (i : BitVec 8) (e : BitVec 2) : SlotOp :=
  .plain 6 (Instr.tcolW g v t i e).wf g (semTcolW v t i e)
def execTcolW (g : BitVec 4) (v : BitVec 5) (t : BitVec 3) (i : BitVec 8) (e : BitVec 2) (s : State) : Out := issueLone (opTcolW g v t i e) true false s

/-- TCOL_R (R333). -/
def opTcolR (g : BitVec 4) (v : BitVec 5) (t : BitVec 3) (i : BitVec 8) (e : BitVec 2) : SlotOp :=
  .plain 6 (Instr.tcolR g v t i e).wf g (semTcolR v t i e)
def execTcolR (g : BitVec 4) (v : BitVec 5) (t : BitVec 3) (i : BitVec 8) (e : BitVec 2) (s : State) : Out := issueLone (opTcolR g v t i e) true false s

/-- MSTAT (R334). -/
def opMstat (g : BitVec 4) (k : BitVec 3) : SlotOp :=
  .plain 6 (Instr.mstat g k).wf g (semMstat k)
def execMstat (g : BitVec 4) (k : BitVec 3) (s : State) : Out := issueLone (opMstat g k) true false s

/-- TDROP (R332). -/
def opTdrop (g : BitVec 4) (t : BitVec 3) : SlotOp :=
  .plain 6 (Instr.tdrop g t).wf g (semTdrop t)
def execTdrop (g : BitVec 4) (t : BitVec 3) (s : State) : Out := issueLone (opTdrop g t) true false s

end Sys2Proof.Machine
end

