-- ==== Sys2Proof/Machine/ExecScalar.lean ====
section
/-!
DEFINITION. `nop` and slots 1 and 2 (R107, R186 to R198).
Each instruction is its slot operation, issued in a bundle of its own.
-/
namespace Sys2Proof.Machine

/-- NOP (R79). -/
def opNopK (k : BitVec 3) (g : BitVec 4) : SlotOp :=
  ⟨k.toNat, (Instr.nopK k g).wf, g, true, false, none, fun _ => nopOut⟩
def execNopK (k : BitVec 3) (g : BitVec 4) (s : State) : Out := issueLone (opNopK k g) true false s

/-- ADD (R186). -/
def opAddR (u : SUnit) (g : BitVec 4) (d a b : BitVec 6) : SlotOp :=
  .plain u.slot (Instr.addR u g d a b).wf g (semAddR u d a b)
def execAddR (u : SUnit) (g : BitVec 4) (d a b : BitVec 6) (s : State) : Out := issueLone (opAddR u g d a b) true false s

/-- SUB (R186). -/
def opSubR (u : SUnit) (g : BitVec 4) (d a b : BitVec 6) : SlotOp :=
  .plain u.slot (Instr.subR u g d a b).wf g (semSubR u d a b)
def execSubR (u : SUnit) (g : BitVec 4) (d a b : BitVec 6) (s : State) : Out := issueLone (opSubR u g d a b) true false s

/-- MUL (R186). -/
def opMulR (u : SUnit) (g : BitVec 4) (d a b : BitVec 6) : SlotOp :=
  .plain u.slot (Instr.mulR u g d a b).wf g (semMulR u d a b)
def execMulR (u : SUnit) (g : BitVec 4) (d a b : BitVec 6) (s : State) : Out := issueLone (opMulR u g d a b) true false s

/-- MULHS (R186). -/
def opMulhs (u : SUnit) (g : BitVec 4) (d a b : BitVec 6) : SlotOp :=
  .plain u.slot (Instr.mulhs u g d a b).wf g (semMulhs u d a b)
def execMulhs (u : SUnit) (g : BitVec 4) (d a b : BitVec 6) (s : State) : Out := issueLone (opMulhs u g d a b) true false s

/-- MULHU (R186). -/
def opMulhu (u : SUnit) (g : BitVec 4) (d a b : BitVec 6) : SlotOp :=
  .plain u.slot (Instr.mulhu u g d a b).wf g (semMulhu u d a b)
def execMulhu (u : SUnit) (g : BitVec 4) (d a b : BitVec 6) (s : State) : Out := issueLone (opMulhu u g d a b) true false s

/-- DIV (R187). -/
def opDivR (u : SUnit) (g : BitVec 4) (d a b : BitVec 6) : SlotOp :=
  .plain u.slot (Instr.divR u g d a b).wf g (semDivR u d a b)
def execDivR (u : SUnit) (g : BitVec 4) (d a b : BitVec 6) (s : State) : Out := issueLone (opDivR u g d a b) true false s

/-- DIVU (R187). -/
def opDivu (u : SUnit) (g : BitVec 4) (d a b : BitVec 6) : SlotOp :=
  .plain u.slot (Instr.divu u g d a b).wf g (semDivu u d a b)
def execDivu (u : SUnit) (g : BitVec 4) (d a b : BitVec 6) (s : State) : Out := issueLone (opDivu u g d a b) true false s

/-- REM (R187). -/
def opRemR (u : SUnit) (g : BitVec 4) (d a b : BitVec 6) : SlotOp :=
  .plain u.slot (Instr.remR u g d a b).wf g (semRemR u d a b)
def execRemR (u : SUnit) (g : BitVec 4) (d a b : BitVec 6) (s : State) : Out := issueLone (opRemR u g d a b) true false s

/-- REMU (R187). -/
def opRemu (u : SUnit) (g : BitVec 4) (d a b : BitVec 6) : SlotOp :=
  .plain u.slot (Instr.remu u g d a b).wf g (semRemu u d a b)
def execRemu (u : SUnit) (g : BitVec 4) (d a b : BitVec 6) (s : State) : Out := issueLone (opRemu u g d a b) true false s

/-- AND (R186). -/
def opAndR (u : SUnit) (g : BitVec 4) (d a b : BitVec 6) : SlotOp :=
  .plain u.slot (Instr.andR u g d a b).wf g (semAndR u d a b)
def execAndR (u : SUnit) (g : BitVec 4) (d a b : BitVec 6) (s : State) : Out := issueLone (opAndR u g d a b) true false s

/-- OR (R186). -/
def opOrR (u : SUnit) (g : BitVec 4) (d a b : BitVec 6) : SlotOp :=
  .plain u.slot (Instr.orR u g d a b).wf g (semOrR u d a b)
def execOrR (u : SUnit) (g : BitVec 4) (d a b : BitVec 6) (s : State) : Out := issueLone (opOrR u g d a b) true false s

/-- XOR (R186). -/
def opXorR (u : SUnit) (g : BitVec 4) (d a b : BitVec 6) : SlotOp :=
  .plain u.slot (Instr.xorR u g d a b).wf g (semXorR u d a b)
def execXorR (u : SUnit) (g : BitVec 4) (d a b : BitVec 6) (s : State) : Out := issueLone (opXorR u g d a b) true false s

/-- ANDN (R186). -/
def opAndn (u : SUnit) (g : BitVec 4) (d a b : BitVec 6) : SlotOp :=
  .plain u.slot (Instr.andn u g d a b).wf g (semAndn u d a b)
def execAndn (u : SUnit) (g : BitVec 4) (d a b : BitVec 6) (s : State) : Out := issueLone (opAndn u g d a b) true false s

/-- SHL (R186). -/
def opShl (u : SUnit) (g : BitVec 4) (d a b : BitVec 6) : SlotOp :=
  .plain u.slot (Instr.shl u g d a b).wf g (semShl u d a b)
def execShl (u : SUnit) (g : BitVec 4) (d a b : BitVec 6) (s : State) : Out := issueLone (opShl u g d a b) true false s

/-- SHR (R186). -/
def opShr (u : SUnit) (g : BitVec 4) (d a b : BitVec 6) : SlotOp :=
  .plain u.slot (Instr.shr u g d a b).wf g (semShr u d a b)
def execShr (u : SUnit) (g : BitVec 4) (d a b : BitVec 6) (s : State) : Out := issueLone (opShr u g d a b) true false s

/-- SAR (R186). -/
def opSar (u : SUnit) (g : BitVec 4) (d a b : BitVec 6) : SlotOp :=
  .plain u.slot (Instr.sar u g d a b).wf g (semSar u d a b)
def execSar (u : SUnit) (g : BitVec 4) (d a b : BitVec 6) (s : State) : Out := issueLone (opSar u g d a b) true false s

/-- ROL (R186). -/
def opRol (u : SUnit) (g : BitVec 4) (d a b : BitVec 6) : SlotOp :=
  .plain u.slot (Instr.rol u g d a b).wf g (semRol u d a b)
def execRol (u : SUnit) (g : BitVec 4) (d a b : BitVec 6) (s : State) : Out := issueLone (opRol u g d a b) true false s

/-- MIN (R186). -/
def opMinR (u : SUnit) (g : BitVec 4) (d a b : BitVec 6) : SlotOp :=
  .plain u.slot (Instr.minR u g d a b).wf g (semMinR u d a b)
def execMinR (u : SUnit) (g : BitVec 4) (d a b : BitVec 6) (s : State) : Out := issueLone (opMinR u g d a b) true false s

/-- MAX (R186). -/
def opMaxR (u : SUnit) (g : BitVec 4) (d a b : BitVec 6) : SlotOp :=
  .plain u.slot (Instr.maxR u g d a b).wf g (semMaxR u d a b)
def execMaxR (u : SUnit) (g : BitVec 4) (d a b : BitVec 6) (s : State) : Out := issueLone (opMaxR u g d a b) true false s

/-- MINU (R186). -/
def opMinu (u : SUnit) (g : BitVec 4) (d a b : BitVec 6) : SlotOp :=
  .plain u.slot (Instr.minu u g d a b).wf g (semMinu u d a b)
def execMinu (u : SUnit) (g : BitVec 4) (d a b : BitVec 6) (s : State) : Out := issueLone (opMinu u g d a b) true false s

/-- MAXU (R186). -/
def opMaxu (u : SUnit) (g : BitVec 4) (d a b : BitVec 6) : SlotOp :=
  .plain u.slot (Instr.maxu u g d a b).wf g (semMaxu u d a b)
def execMaxu (u : SUnit) (g : BitVec 4) (d a b : BitVec 6) (s : State) : Out := issueLone (opMaxu u g d a b) true false s

/-- LEA (R186). -/
def opLea (u : SUnit) (g : BitVec 4) (d a b : BitVec 6) (x : BitVec 3) : SlotOp :=
  .plain u.slot (Instr.lea u g d a b x).wf g (semLea u d a b x)
def execLea (u : SUnit) (g : BitVec 4) (d a b : BitVec 6) (x : BitVec 3) (s : State) : Out := issueLone (opLea u g d a b x) true false s

/-- SEL (R186). -/
def opSel (u : SUnit) (g : BitVec 4) (d a b : BitVec 6) (p : BitVec 3) : SlotOp :=
  .plain u.slot (Instr.sel u g d a b p).wf g (semSel u d a b p)
def execSel (u : SUnit) (g : BitVec 4) (d a b : BitVec 6) (p : BitVec 3) (s : State) : Out := issueLone (opSel u g d a b p) true false s

/-- CLZ (R186). -/
def opClz (u : SUnit) (g : BitVec 4) (d a : BitVec 6) : SlotOp :=
  .plain u.slot (Instr.clz u g d a).wf g (semClz u d a)
def execClz (u : SUnit) (g : BitVec 4) (d a : BitVec 6) (s : State) : Out := issueLone (opClz u g d a) true false s

/-- CTZ (R186). -/
def opCtz (u : SUnit) (g : BitVec 4) (d a : BitVec 6) : SlotOp :=
  .plain u.slot (Instr.ctz u g d a).wf g (semCtz u d a)
def execCtz (u : SUnit) (g : BitVec 4) (d a : BitVec 6) (s : State) : Out := issueLone (opCtz u g d a) true false s

/-- POPC (R186). -/
def opPopc (u : SUnit) (g : BitVec 4) (d a : BitVec 6) : SlotOp :=
  .plain u.slot (Instr.popc u g d a).wf g (semPopc u d a)
def execPopc (u : SUnit) (g : BitVec 4) (d a : BitVec 6) (s : State) : Out := issueLone (opPopc u g d a) true false s

/-- RNGX (R188). -/
def opRngx (u : SUnit) (g : BitVec 4) (d a b : BitVec 6) : SlotOp :=
  .plain u.slot (Instr.rngx u g d a b).wf g (semRngx u d a b)
def execRngx (u : SUnit) (g : BitVec 4) (d a b : BitVec 6) (s : State) : Out := issueLone (opRngx u g d a b) true false s

/-- MOV (R186). -/
def opMov (u : SUnit) (g : BitVec 4) (d a : BitVec 6) : SlotOp :=
  .plain u.slot (Instr.mov u g d a).wf g (semMov u d a)
def execMov (u : SUnit) (g : BitVec 4) (d a : BitVec 6) (s : State) : Out := issueLone (opMov u g d a) true false s

/-- ADDI (R189). -/
def opAddi (u : SUnit) (g : BitVec 4) (d a : BitVec 6) (i : BitVec 9) : SlotOp :=
  .plain u.slot (Instr.addi u g d a i).wf g (semAddi u d a i)
def execAddi (u : SUnit) (g : BitVec 4) (d a : BitVec 6) (i : BitVec 9) (s : State) : Out := issueLone (opAddi u g d a i) true false s

/-- ANDI (R189). -/
def opAndi (u : SUnit) (g : BitVec 4) (d a : BitVec 6) (i : BitVec 9) : SlotOp :=
  .plain u.slot (Instr.andi u g d a i).wf g (semAndi u d a i)
def execAndi (u : SUnit) (g : BitVec 4) (d a : BitVec 6) (i : BitVec 9) (s : State) : Out := issueLone (opAndi u g d a i) true false s

/-- ORI (R189). -/
def opOri (u : SUnit) (g : BitVec 4) (d a : BitVec 6) (i : BitVec 9) : SlotOp :=
  .plain u.slot (Instr.ori u g d a i).wf g (semOri u d a i)
def execOri (u : SUnit) (g : BitVec 4) (d a : BitVec 6) (i : BitVec 9) (s : State) : Out := issueLone (opOri u g d a i) true false s

/-- XORI (R189). -/
def opXori (u : SUnit) (g : BitVec 4) (d a : BitVec 6) (i : BitVec 9) : SlotOp :=
  .plain u.slot (Instr.xori u g d a i).wf g (semXori u d a i)
def execXori (u : SUnit) (g : BitVec 4) (d a : BitVec 6) (i : BitVec 9) (s : State) : Out := issueLone (opXori u g d a i) true false s

/-- SHLI (R189). -/
def opShli (u : SUnit) (g : BitVec 4) (d a : BitVec 6) (i : BitVec 5) : SlotOp :=
  .plain u.slot (Instr.shli u g d a i).wf g (semShli u d a i)
def execShli (u : SUnit) (g : BitVec 4) (d a : BitVec 6) (i : BitVec 5) (s : State) : Out := issueLone (opShli u g d a i) true false s

/-- SHRI (R189). -/
def opShri (u : SUnit) (g : BitVec 4) (d a : BitVec 6) (i : BitVec 5) : SlotOp :=
  .plain u.slot (Instr.shri u g d a i).wf g (semShri u d a i)
def execShri (u : SUnit) (g : BitVec 4) (d a : BitVec 6) (i : BitVec 5) (s : State) : Out := issueLone (opShri u g d a i) true false s

/-- SARI (R189). -/
def opSari (u : SUnit) (g : BitVec 4) (d a : BitVec 6) (i : BitVec 5) : SlotOp :=
  .plain u.slot (Instr.sari u g d a i).wf g (semSari u d a i)
def execSari (u : SUnit) (g : BitVec 4) (d a : BitVec 6) (i : BitVec 5) (s : State) : Out := issueLone (opSari u g d a i) true false s

/-- ROLI (R189). -/
def opRoli (u : SUnit) (g : BitVec 4) (d a : BitVec 6) (i : BitVec 5) : SlotOp :=
  .plain u.slot (Instr.roli u g d a i).wf g (semRoli u d a i)
def execRoli (u : SUnit) (g : BitVec 4) (d a : BitVec 6) (i : BitVec 5) (s : State) : Out := issueLone (opRoli u g d a i) true false s

/-- MULI (R189). -/
def opMuli (u : SUnit) (g : BitVec 4) (d a : BitVec 6) (i : BitVec 9) : SlotOp :=
  .plain u.slot (Instr.muli u g d a i).wf g (semMuli u d a i)
def execMuli (u : SUnit) (g : BitVec 4) (d a : BitVec 6) (i : BitVec 9) (s : State) : Out := issueLone (opMuli u g d a i) true false s

/-- BFX (R190). -/
def opBfx (u : SUnit) (g : BitVec 4) (d a : BitVec 6) (p : BitVec 5) (n : BitVec 4) : SlotOp :=
  .plain u.slot (Instr.bfx u g d a p n).wf g (semBfx u d a p n)
def execBfx (u : SUnit) (g : BitVec 4) (d a : BitVec 6) (p : BitVec 5) (n : BitVec 4) (s : State) : Out := issueLone (opBfx u g d a p n) true false s

/-- BFI (R190). -/
def opBfi (u : SUnit) (g : BitVec 4) (d a : BitVec 6) (p : BitVec 5) (n : BitVec 4) : SlotOp :=
  .plain u.slot (Instr.bfi u g d a p n).wf g (semBfi u d a p n)
def execBfi (u : SUnit) (g : BitVec 4) (d a : BitVec 6) (p : BitVec 5) (n : BitVec 4) (s : State) : Out := issueLone (opBfi u g d a p n) true false s

/-- LI (R191). -/
def opLi (u : SUnit) (g : BitVec 4) (d : BitVec 6) (i : BitVec 15) : SlotOp :=
  .plain u.slot (Instr.li u g d i).wf g (semLi u d i)
def execLi (u : SUnit) (g : BitVec 4) (d : BitVec 6) (i : BitVec 15) (s : State) : Out := issueLone (opLi u g d i) true false s

/-- CMP_EQ (R192). -/
def opCmpEq (u : SUnit) (g : BitVec 4) (p : BitVec 3) (a b : BitVec 6) : SlotOp :=
  .plain u.slot (Instr.cmpEq u g p a b).wf g (semCmpEq u p a b)
def execCmpEq (u : SUnit) (g : BitVec 4) (p : BitVec 3) (a b : BitVec 6) (s : State) : Out := issueLone (opCmpEq u g p a b) true false s

/-- CMP_NE (R192). -/
def opCmpNe (u : SUnit) (g : BitVec 4) (p : BitVec 3) (a b : BitVec 6) : SlotOp :=
  .plain u.slot (Instr.cmpNe u g p a b).wf g (semCmpNe u p a b)
def execCmpNe (u : SUnit) (g : BitVec 4) (p : BitVec 3) (a b : BitVec 6) (s : State) : Out := issueLone (opCmpNe u g p a b) true false s

/-- CMP_LT (R192). -/
def opCmpLt (u : SUnit) (g : BitVec 4) (p : BitVec 3) (a b : BitVec 6) : SlotOp :=
  .plain u.slot (Instr.cmpLt u g p a b).wf g (semCmpLt u p a b)
def execCmpLt (u : SUnit) (g : BitVec 4) (p : BitVec 3) (a b : BitVec 6) (s : State) : Out := issueLone (opCmpLt u g p a b) true false s

/-- CMP_LE (R192). -/
def opCmpLe (u : SUnit) (g : BitVec 4) (p : BitVec 3) (a b : BitVec 6) : SlotOp :=
  .plain u.slot (Instr.cmpLe u g p a b).wf g (semCmpLe u p a b)
def execCmpLe (u : SUnit) (g : BitVec 4) (p : BitVec 3) (a b : BitVec 6) (s : State) : Out := issueLone (opCmpLe u g p a b) true false s

/-- CMP_LTU (R192). -/
def opCmpLtu (u : SUnit) (g : BitVec 4) (p : BitVec 3) (a b : BitVec 6) : SlotOp :=
  .plain u.slot (Instr.cmpLtu u g p a b).wf g (semCmpLtu u p a b)
def execCmpLtu (u : SUnit) (g : BitVec 4) (p : BitVec 3) (a b : BitVec 6) (s : State) : Out := issueLone (opCmpLtu u g p a b) true false s

/-- CMP_LEU (R192). -/
def opCmpLeu (u : SUnit) (g : BitVec 4) (p : BitVec 3) (a b : BitVec 6) : SlotOp :=
  .plain u.slot (Instr.cmpLeu u g p a b).wf g (semCmpLeu u p a b)
def execCmpLeu (u : SUnit) (g : BitVec 4) (p : BitVec 3) (a b : BitVec 6) (s : State) : Out := issueLone (opCmpLeu u g p a b) true false s

/-- CMPI_EQ (R192). -/
def opCmpiEq (u : SUnit) (g : BitVec 4) (p : BitVec 3) (a : BitVec 6) (i : BitVec 9) : SlotOp :=
  .plain u.slot (Instr.cmpiEq u g p a i).wf g (semCmpiEq u p a i)
def execCmpiEq (u : SUnit) (g : BitVec 4) (p : BitVec 3) (a : BitVec 6) (i : BitVec 9) (s : State) : Out := issueLone (opCmpiEq u g p a i) true false s

/-- CMPI_LT (R192). -/
def opCmpiLt (u : SUnit) (g : BitVec 4) (p : BitVec 3) (a : BitVec 6) (i : BitVec 9) : SlotOp :=
  .plain u.slot (Instr.cmpiLt u g p a i).wf g (semCmpiLt u p a i)
def execCmpiLt (u : SUnit) (g : BitVec 4) (p : BitVec 3) (a : BitVec 6) (i : BitVec 9) (s : State) : Out := issueLone (opCmpiLt u g p a i) true false s

/-- CMPI_LTU (R192). -/
def opCmpiLtu (u : SUnit) (g : BitVec 4) (p : BitVec 3) (a : BitVec 6) (i : BitVec 9) : SlotOp :=
  .plain u.slot (Instr.cmpiLtu u g p a i).wf g (semCmpiLtu u p a i)
def execCmpiLtu (u : SUnit) (g : BitVec 4) (p : BitVec 3) (a : BitVec 6) (i : BitVec 9) (s : State) : Out := issueLone (opCmpiLtu u g p a i) true false s

/-- CMPI_NE (R192). -/
def opCmpiNe (u : SUnit) (g : BitVec 4) (p : BitVec 3) (a : BitVec 6) (i : BitVec 9) : SlotOp :=
  .plain u.slot (Instr.cmpiNe u g p a i).wf g (semCmpiNe u p a i)
def execCmpiNe (u : SUnit) (g : BitVec 4) (p : BitVec 3) (a : BitVec 6) (i : BitVec 9) (s : State) : Out := issueLone (opCmpiNe u g p a i) true false s

/-- PAND (R193). -/
def opPand (u : SUnit) (g : BitVec 4) (p a b : BitVec 3) : SlotOp :=
  .plain u.slot (Instr.pand u g p a b).wf g (semPand u p a b)
def execPand (u : SUnit) (g : BitVec 4) (p a b : BitVec 3) (s : State) : Out := issueLone (opPand u g p a b) true false s

/-- POR (R193). -/
def opPor (u : SUnit) (g : BitVec 4) (p a b : BitVec 3) : SlotOp :=
  .plain u.slot (Instr.por u g p a b).wf g (semPor u p a b)
def execPor (u : SUnit) (g : BitVec 4) (p a b : BitVec 3) (s : State) : Out := issueLone (opPor u g p a b) true false s

/-- PXOR (R193). -/
def opPxor (u : SUnit) (g : BitVec 4) (p a b : BitVec 3) : SlotOp :=
  .plain u.slot (Instr.pxor u g p a b).wf g (semPxor u p a b)
def execPxor (u : SUnit) (g : BitVec 4) (p a b : BitVec 3) (s : State) : Out := issueLone (opPxor u g p a b) true false s

/-- PANDN (R193). -/
def opPandn (u : SUnit) (g : BitVec 4) (p a b : BitVec 3) : SlotOp :=
  .plain u.slot (Instr.pandn u g p a b).wf g (semPandn u p a b)
def execPandn (u : SUnit) (g : BitVec 4) (p a b : BitVec 3) (s : State) : Out := issueLone (opPandn u g p a b) true false s

/-- CMPT (R194). -/
def opCmpt (u : SUnit) (g : BitVec 4) (a b : BitVec 6) : SlotOp :=
  .plain u.slot (Instr.cmpt u g a b).wf g (semCmpt u a b)
def execCmpt (u : SUnit) (g : BitVec 4) (a b : BitVec 6) (s : State) : Out := issueLone (opCmpt u g a b) true false s

/-- CMPTI (R194). -/
def opCmpti (u : SUnit) (g : BitVec 4) (a : BitVec 6) (i : BitVec 9) : SlotOp :=
  .plain u.slot (Instr.cmpti u g a i).wf g (semCmpti u a i)
def execCmpti (u : SUnit) (g : BitVec 4) (a : BitVec 6) (i : BitVec 9) (s : State) : Out := issueLone (opCmpti u g a i) true false s

/-- PTEST (R195). -/
def opPtest (u : SUnit) (g : BitVec 4) (p : BitVec 3) (a : BitVec 6) : SlotOp :=
  .plain u.slot (Instr.ptest u g p a).wf g (semPtest u p a)
def execPtest (u : SUnit) (g : BitVec 4) (p : BitVec 3) (a : BitVec 6) (s : State) : Out := issueLone (opPtest u g p a) true false s

/-- PCLR (R195). -/
def opPclr (u : SUnit) (g : BitVec 4) (d a : BitVec 6) : SlotOp :=
  .plain u.slot (Instr.pclr u g d a).wf g (semPclr u d a)
def execPclr (u : SUnit) (g : BitVec 4) (d a : BitVec 6) (s : State) : Out := issueLone (opPclr u g d a) true false s

/-- FADD (R196). -/
def opFadd (u : SUnit) (g : BitVec 4) (d a b : BitVec 6) (r : BitVec 3) : SlotOp :=
  .plain u.slot (Instr.fadd u g d a b r).wf g (semFadd u d a b r)
def execFadd (u : SUnit) (g : BitVec 4) (d a b : BitVec 6) (r : BitVec 3) (s : State) : Out := issueLone (opFadd u g d a b r) true false s

/-- FSUB (R196). -/
def opFsub (u : SUnit) (g : BitVec 4) (d a b : BitVec 6) (r : BitVec 3) : SlotOp :=
  .plain u.slot (Instr.fsub u g d a b r).wf g (semFsub u d a b r)
def execFsub (u : SUnit) (g : BitVec 4) (d a b : BitVec 6) (r : BitVec 3) (s : State) : Out := issueLone (opFsub u g d a b r) true false s

/-- FMUL (R196). -/
def opFmul (u : SUnit) (g : BitVec 4) (d a b : BitVec 6) (r : BitVec 3) : SlotOp :=
  .plain u.slot (Instr.fmul u g d a b r).wf g (semFmul u d a b r)
def execFmul (u : SUnit) (g : BitVec 4) (d a b : BitVec 6) (r : BitVec 3) (s : State) : Out := issueLone (opFmul u g d a b r) true false s

/-- FFMA (R196). -/
def opFfma (u : SUnit) (g : BitVec 4) (d a b : BitVec 6) (r : BitVec 3) : SlotOp :=
  .plain u.slot (Instr.ffma u g d a b r).wf g (semFfma u d a b r)
def execFfma (u : SUnit) (g : BitVec 4) (d a b : BitVec 6) (r : BitVec 3) (s : State) : Out := issueLone (opFfma u g d a b r) true false s

/-- FMIN (R196). -/
def opFmin (u : SUnit) (g : BitVec 4) (d a b : BitVec 6) : SlotOp :=
  .plain u.slot (Instr.fmin u g d a b).wf g (semFmin u d a b)
def execFmin (u : SUnit) (g : BitVec 4) (d a b : BitVec 6) (s : State) : Out := issueLone (opFmin u g d a b) true false s

/-- FMAX (R196). -/
def opFmax (u : SUnit) (g : BitVec 4) (d a b : BitVec 6) : SlotOp :=
  .plain u.slot (Instr.fmax u g d a b).wf g (semFmax u d a b)
def execFmax (u : SUnit) (g : BitVec 4) (d a b : BitVec 6) (s : State) : Out := issueLone (opFmax u g d a b) true false s

/-- FABS (R196). -/
def opFabs (u : SUnit) (g : BitVec 4) (d a : BitVec 6) : SlotOp :=
  .plain u.slot (Instr.fabs u g d a).wf g (semFabs u d a)
def execFabs (u : SUnit) (g : BitVec 4) (d a : BitVec 6) (s : State) : Out := issueLone (opFabs u g d a) true false s

/-- FNEG (R196). -/
def opFneg (u : SUnit) (g : BitVec 4) (d a : BitVec 6) : SlotOp :=
  .plain u.slot (Instr.fneg u g d a).wf g (semFneg u d a)
def execFneg (u : SUnit) (g : BitVec 4) (d a : BitVec 6) (s : State) : Out := issueLone (opFneg u g d a) true false s

/-- FCVT_W_F (R197). -/
def opFcvtWF (u : SUnit) (g : BitVec 4) (d a b : BitVec 6) (r : BitVec 3) : SlotOp :=
  .plain u.slot (Instr.fcvtWF u g d a b r).wf g (semFcvtWF u d a b r)
def execFcvtWF (u : SUnit) (g : BitVec 4) (d a b : BitVec 6) (r : BitVec 3) (s : State) : Out := issueLone (opFcvtWF u g d a b r) true false s

/-- FCVT_F_W (R197). -/
def opFcvtFW (u : SUnit) (g : BitVec 4) (d a b : BitVec 6) (r : BitVec 3) : SlotOp :=
  .plain u.slot (Instr.fcvtFW u g d a b r).wf g (semFcvtFW u d a b r)
def execFcvtFW (u : SUnit) (g : BitVec 4) (d a b : BitVec 6) (r : BitVec 3) (s : State) : Out := issueLone (opFcvtFW u g d a b r) true false s

/-- FCVT_F_WU (R197). -/
def opFcvtFWu (u : SUnit) (g : BitVec 4) (d a b : BitVec 6) (r : BitVec 3) : SlotOp :=
  .plain u.slot (Instr.fcvtFWu u g d a b r).wf g (semFcvtFWu u d a b r)
def execFcvtFWu (u : SUnit) (g : BitVec 4) (d a b : BitVec 6) (r : BitVec 3) (s : State) : Out := issueLone (opFcvtFWu u g d a b r) true false s

/-- FCVT_WU_F (R197). -/
def opFcvtWuF (u : SUnit) (g : BitVec 4) (d a b : BitVec 6) (r : BitVec 3) : SlotOp :=
  .plain u.slot (Instr.fcvtWuF u g d a b r).wf g (semFcvtWuF u d a b r)
def execFcvtWuF (u : SUnit) (g : BitVec 4) (d a b : BitVec 6) (r : BitVec 3) (s : State) : Out := issueLone (opFcvtWuF u g d a b r) true false s

/-- FCMP_EQ (R198). -/
def opFcmpEq (u : SUnit) (g : BitVec 4) (p : BitVec 3) (a b : BitVec 6) : SlotOp :=
  .plain u.slot (Instr.fcmpEq u g p a b).wf g (semFcmpEq u p a b)
def execFcmpEq (u : SUnit) (g : BitVec 4) (p : BitVec 3) (a b : BitVec 6) (s : State) : Out := issueLone (opFcmpEq u g p a b) true false s

/-- FCMP_LT (R198). -/
def opFcmpLt (u : SUnit) (g : BitVec 4) (p : BitVec 3) (a b : BitVec 6) : SlotOp :=
  .plain u.slot (Instr.fcmpLt u g p a b).wf g (semFcmpLt u p a b)
def execFcmpLt (u : SUnit) (g : BitVec 4) (p : BitVec 3) (a b : BitVec 6) (s : State) : Out := issueLone (opFcmpLt u g p a b) true false s

/-- FCMP_LE (R198). -/
def opFcmpLe (u : SUnit) (g : BitVec 4) (p : BitVec 3) (a b : BitVec 6) : SlotOp :=
  .plain u.slot (Instr.fcmpLe u g p a b).wf g (semFcmpLe u p a b)
def execFcmpLe (u : SUnit) (g : BitVec 4) (p : BitVec 3) (a b : BitVec 6) (s : State) : Out := issueLone (opFcmpLe u g p a b) true false s

/-- FCMP_UN (R198). -/
def opFcmpUn (u : SUnit) (g : BitVec 4) (p : BitVec 3) (a b : BitVec 6) : SlotOp :=
  .plain u.slot (Instr.fcmpUn u g p a b).wf g (semFcmpUn u p a b)
def execFcmpUn (u : SUnit) (g : BitVec 4) (p : BitVec 3) (a b : BitVec 6) (s : State) : Out := issueLone (opFcmpUn u g p a b) true false s

/-- FCLASS (R198). -/
def opFclass (u : SUnit) (g : BitVec 4) (d a : BitVec 6) : SlotOp :=
  .plain u.slot (Instr.fclass u g d a).wf g (semFclass u d a)
def execFclass (u : SUnit) (g : BitVec 4) (d a : BitVec 6) (s : State) : Out := issueLone (opFclass u g d a) true false s

end Sys2Proof.Machine
end

