-- ==== Sys2Proof/Machine/Stream.lean ====
section
/-!
DEFINITION. Stream FIFOs and the stream switch: the slot-7 instructions of R341 to R348, pops and their
records (R345), hops (R349, R350), stalls and the vat (R365 to R367).
-/
namespace Sys2Proof.Machine

/-! ### FIFOs -/

def Core.fifo (k : Core) (q : Nat) : Fifo := (k.fifos[q]?).getD ⟨[], 0⟩
/-- Room for one more element (R339, R365). -/
def Core.room (k : Core) (q : Nat) : Nat := fifoBase q + (k.fifo q).extra - (k.fifo q).els.length
def Core.setFifo (k : Core) (q : Nat) (els : List Elem) : Core :=
  { k with fifos := k.fifos.setIfInBounds q ((k.fifo q).set q els) }
/-- An element joins a FIFO. -/
def State.putElem (s : State) (c q : Nat) (e : Elem) : State :=
  s.updCore c (fun k => k.setFifo q ((k.fifo q).els ++ [e]))
/-- The first element of a kernel (R340). -/
def Core.headOf (k : Core) (q : Nat) (kid : Word) : Option Elem := (k.fifo q).els.find? (fun e => e.kid == kid)
/-- It leaves the FIFO; at base occupancy the loans return (R365). -/
def State.takeElem (s : State) (c q : Nat) (kid : Word) : State :=
  s.updCore c (fun k => k.setFifo q ((k.fifo q).els.eraseP (fun e => e.kid == kid)))
/-- An engine of cluster cl has moved a byte or delivered an element (R365). -/
def State.moved (s : State) (cl : Nat) : State := s.updCluster cl (fun q => { q with moved := s.cycle })

/-- The number of the source that an engine's element carries. -/
def engineSrc : Nat := 256

/-- Bits of a mask carry a tag somewhere (R94). -/
def MReg.poisoned (m : MReg) : Bool := m.tags != 0
/-- A lane with an active byte is poisoned (R343). -/
def lanesPoisoned (v : VReg) (m : MReg) : Bool :=
  (List.range 64).any (fun l => ltag v.tags l != 0 && m.bits.extractLsb' (4 * l) 4 != 0)

/-! ### Pushes (R342, R343, R346) -/

/-- A push: admitted or OPERAND_FORMAT, poisoned or not, then held until there is room (R342, R343). -/
def pushOut (x : Ctx) (reads : List RegId) (agent q : Nat) (admitted : Bool) (poison : Option Nat)
    (room : Bool) (f : State → State) : SlotOut :=
  { nopOut with
    reads := reads
    indexed := true
    effect := true
    res :=
      if ¬ admitted then .trap trOperandFormat (.ofNat 32 q)
      else match poison with
        | some t => .ofTrap t
        | none => if room || x.s.suppressed x.c agent x.idx then .ok [] (fun s => s.indexed x.c agent x.idx f) .seq
          else .hold .push }

def isEndpoint (q : Nat) : Bool := decide (16 ≤ q)

/-- The route that governs pushes of kernel kid at endpoint q (R348). -/
def Core.routeOf (k : Core) (q : Nat) (kid : Word) : Option Route :=
  match (k.routes[q - 16]?).getD none with
  | some r => if r.kid = kid then some r else none
  | none => none
def Core.skid (k : Core) (q : Nat) : List (Dest × Elem) := (k.skids[q - 16]?).getD []
/-- Endpoint q of core c as a destination. -/
def ownSide (c q : Nat) : Dest := .endpoint (c % 4) (q - 16)
/-- Elements on their way to the endpoint's own inbound side stand before a push without a route (R349). -/
def Core.behind (k : Core) (c q : Nat) : Bool := (k.skid q).any (fun e => e.1 == ownSide c q)
/-- The outbound side of endpoint q has room (R343, R349). -/
def Core.outRoom (k : Core) (c q : Nat) (kid : Word) : Nat :=
  match k.routeOf q kid with
  | some _ => 2 - (k.skid q).length
  | none => if k.behind c q then Nat.min (k.room q) (2 - (k.skid q).length) else k.room q

/-- A route after one more element has passed (R348). -/
def Route.pass (r : Route) : Option Route :=
  match r.left with
  | none => some r
  | some n => if n ≤ 1 then none else some { r with left := some (n - 1) }

/-- An element is placed at endpoint q (R343, R348, R349). -/
def State.pushElem (s : State) (c q : Nat) (e : Elem) : State :=
  let toSkid (s : State) (d : Dest) : State := s.updCore c (fun k =>
    { k with skids := k.skids.setIfInBounds (q - 16) (k.skid q ++ [(d, e)]) })
  match (s.core c).routeOf q e.kid with
  | none => if (s.core c).behind c q then toSkid s (ownSide c q) else s.putElem c q e
  | some r => (toSkid s r.dest).updCore c (fun k => { k with routes := k.routes.setIfInBounds (q - 16) r.pass })

def semSpush (qx : BitVec 5) (sx : BitVec 6) (x : Ctx) : SlotOut :=
  let v := x.rs sx
  let q := qx.toNat
  pushOut x (idS sx) agSwitch q (isEndpoint q) (if v.tag ≠ 0 then some trPoisonStore else none)
    (decide (0 < x.k.outRoom x.c q x.kid)) (fun s => s.pushElem x.c q ⟨x.kid, .word v.val, 0, x.c⟩)

def semSpushv (qx : BitVec 5) (v : BitVec 5) (m : BitVec 3) (x : Ctx) : SlotOut :=
  let p := x.rv v
  let n := x.rm m.toNat
  let q := qx.toNat
  pushOut x (idV v ++ idM m.toNat) agSwitch q (isEndpoint q)
    (if lanesPoisoned p n || n.poisoned then some trPoisonStore else none)
    (decide (0 < x.k.outRoom x.c q x.kid))
    (fun s => s.pushElem x.c q ⟨x.kid, .vec (p.val &&& maskBits n.bits) 0, 0, x.c⟩)

/-- The card queues (R342). -/
def isCardQueue (q : Nat) : Bool := q == 0 || q == 2 || q == 4 || q == 6

def semScard (qx : BitVec 5) (sx : BitVec 6) (x : Ctx) : SlotOut :=
  let v := x.rs sx
  let q := qx.toNat
  pushOut x (idS sx) (agCard q) q (isCardQueue q) (if v.tag ≠ 0 then some trPoisonAddress else none)
    (decide (0 < x.k.room q))
    (fun s => s.putElem x.c q ⟨x.kid, .card (.ofNat 32 (v.val.toNat / 64 * 64)), 0, x.c⟩)

/-- The destination that a route word names (R348). -/
def routeDest (w : BitVec 10) : Dest :=
  match bits w 7 2 with
  | 0 => .endpoint (bits w 5 2) (bits w 0 4)
  | 1 => .copyPort (bits w 5 2)
  | _ => .transposePort
/-- A route word breaks a rule of R348. -/
def routeBad (w : BitVec 10) : Bool :=
  if w.getLsbD 9 then
    bits w 7 2 == 3 || w.getLsbD 4 || (bits w 7 2 != 0 && bits w 0 4 != 0) || (bits w 7 2 == 2 && bits w 5 2 != 0)
  else w != 0

def semSroute (qx : BitVec 5) (sx : BitVec 6) (w : BitVec 10) (x : Ctx) : SlotOut :=
  let v := x.rs sx
  let q := qx.toNat
  let r : Option Route := if w.getLsbD 9 then
    some ⟨x.kid, routeDest w, if v.val = 0 then none else some v.val.toNat⟩ else none
  let o := pushOut x (idS sx) agSwitch q (isEndpoint q) (if v.tag ≠ 0 then some trPoisonStore else none) true
    (fun s => s.updCore x.c (fun k => { k with routes := k.routes.setIfInBounds (q - 16) r }))
  { o with res := if isEndpoint q && routeBad w then .trap trOperandFormat (w.zeroExtend 32) else o.res }

/-! ### Pops (R344, R345) -/

/-- A committed pop in the pitch's records (R345); none in handler mode (R300). -/
def Core.notePop (k : Core) (r : PopRec) : Core :=
  if k.ctl.hm then k
  else { k with seq := { k.seq with
    popsDone := k.seq.popsDone + 1
    recs := if k.seq.recs.length < 16 then k.seq.recs ++ [r] else k.seq.recs
    popsOver := k.seq.popsOver || decide (16 ≤ k.seq.recs.length) } }

/-- The record that answers the next pop of a rewound pitch (R345). -/
def Core.popRecord (k : Core) : Option PopRec := if k.ctl.hm then none else k.seq.recs[k.seq.popsDone]?

/-- A pop: answered from its record, from the element, or held (R98, R344, R345). -/
def popOut (x : Ctx) (reads writes : List RegId) (ports : List RegId) (fresh : Option PopRec)
    (take : State → State) (out : PopRec → List Res) : SlotOut :=
  { nopOut with
    reads := reads
    writes := writes
    ports := ports
    effect := true
    res := match x.k.popRecord with
      | some r => .ok (out r) (fun s => s.updCore x.c (fun k =>
          { k with seq := { k.seq with popsDone := k.seq.popsDone + 1 } })) .seq
      | none => match fresh with
        | some r => .ok (out r) (fun s => (take s).updCore x.c (fun k => k.notePop r)) .seq
        | none => .hold .pop }

/-- The word of an element (R344). -/
def Elem.word (e : Elem) : SReg :=
  match e.pay with
  | .word w => ⟨w, e.tag⟩
  | .vec v t => ⟨lane 32 v 0, ltag t 0⟩
  | _ => ⟨0, e.tag⟩
/-- The vector of an element (R344). -/
def Elem.vector (e : Elem) : VReg :=
  match e.pay with
  | .word w => ⟨w.zeroExtend 2048, packTags (fun l => if l = 0 then e.tag else 0)⟩
  | .vec v t => ⟨v, t⟩
  | _ => .zero

/-- A scalar result of slot 7 (R82, R85, R341). -/
def slot7Res (d : BitVec 6) (lat : Nat) (v : SReg) : List Res :=
  (dstS d).map (fun r => ⟨lat, r, .word v.val v.tag⟩) ++ [⟨lat, .sPort 5, .word v.val v.tag⟩]

/-- The FIFOs that `spop` and `spopv` name (R342). -/
def spopAdmits (q : Nat) : Bool := q == 1 || q == 3 || q == 5 || q == 7 || q == 8 || isEndpoint q
def spopvAdmits (q : Nat) : Bool := q == 8 || isEndpoint q

/-- An instruction whose FIFO is not admitted (R342). -/
def served (ok : Bool) (q : Nat) (o : SlotOut) : SlotOut :=
  if ok then o else { o with res := .trap trOperandFormat (.ofNat 32 q) }

def semSpop (qx : BitVec 5) (sx : BitVec 6) (x : Ctx) : SlotOut :=
  let q := qx.toNat
  served (spopAdmits q) q (popOut x [] (dstS sx) [.sPort 5]
    ((x.k.headOf q x.kid).map (fun e => ⟨1, 0, 0, e.word, .zero, .zero⟩))
    (fun s => s.takeElem x.c q x.kid) (fun r => slot7Res sx 2 r.w0))

def semSpopv (qx : BitVec 5) (v : BitVec 5) (m : BitVec 3) (x : Ctx) : SlotOut :=
  let q := qx.toNat
  let n := x.rm m.toNat
  let res (val : VReg) : List Res := (dstV v).map (fun r => ⟨2, r, .vec val.val
    (laneTags 1 (actW 1 n) (fun i => Tag.max (elemTag 1 val.tags i) (mtag n.tags i))) (enOf 1 (actW 1 n))⟩)
  let all (t : Tag) : VTags := packTags (fun _ => t)
  let head := x.k.headOf q x.kid
  let o := popOut x (idM m.toNat) (dstV v) []
    (head.map (fun e => ⟨2, e.vector.val, VTags.worst e.vector.tags, .zero, .zero, .zero⟩))
    (fun s => s.takeElem x.c q x.kid) (fun r => res ⟨r.vec, all r.vtag⟩)
  served (spopvAdmits q) q (match x.k.popRecord, head, o.res with
    | none, some e, .ok _ f fl => { o with res := .ok (res e.vector) f fl }
    | _, _, _ => o)

/-- `sstat` (R347). -/
def semSstat (qx : BitVec 5) (sx : BitVec 6) (x : Ctx) : SlotOut :=
  let q := qx.toNat
  let free := if isEndpoint q then x.k.outRoom x.c q x.kid else if isCardQueue q then x.k.room q else 0
  let avail := if spopAdmits q || q == 9 || q == 10
    then ((x.k.fifo q).els.filter (fun e => e.kid == x.kid)).length else 0
  served (decide (q ≤ 10) || isEndpoint q) q
    { nopOut with
      writes := dstS sx
      ports := [.sPort 5]
      res := .ok (slot7Res sx 2 ⟨.ofNat 32 (free % 65536 * 65536 + avail % 65536), 0⟩) id .seq }

/-! ### Hops (R349, R350) -/

/-- The bytes that an element adds to a port's stream (R350). -/
def Elem.streamBytes (e : Elem) : List Byte :=
  match e.pay with
  | .word w => bytesLE 4 w.toNat
  | .vec v _ => bytesLE 256 v.toNat
  | _ => []

/-- The bytes of a port's stream, whosever they are (R350). -/
def Cluster.runs (q : Cluster) (p : Nat) : List (Word × List Byte) := (q.streams[p]?).getD []
/-- The bytes that a card of kernel kid finds at the head of a port's stream: it waits while bytes of another
kernel stand before its own (R340, R350, log 38). -/
def Cluster.stream (q : Cluster) (p : Nat) (kid : Word) : List Byte :=
  ((q.runs p).takeWhile (fun e => e.1 == kid)).flatMap (·.2)
def State.setRuns (s : State) (cl p : Nat) (l : List (Word × List Byte)) : State :=
  s.updCluster cl (fun q => { q with streams := q.streams.setIfInBounds p l })
/-- A stream without its first n bytes. -/
def dropRuns : Nat → List (Word × List Byte) → List (Word × List Byte)
  | _, [] => []
  | n, (k, l) :: t => if l.length ≤ n then dropRuns (n - l.length) t else (k, l.drop n) :: t
def State.eatStream (s : State) (cl p n : Nat) : State := s.setRuns cl p (dropRuns n ((s.cluster cl).runs p))
/-- A port takes an element's bytes, if it has room for them (R349, R350). -/
def State.feedStream (s : State) (cl p : Nat) (e : Elem) : Option State :=
  let l := (s.cluster cl).runs p
  if Config.portBytes < (l.flatMap (·.2)).length + e.streamBytes.length then none
  else some (s.setRuns cl p (l ++ [(e.kid, e.streamBytes)]))

/-- SWITCH_HOP (R349): the first element of endpoint q's skid buffer enters its destination. -/
def State.switchHop (s : State) (c q : Nat) : State :=
  match (s.core c).skid q with
  | [] => s
  | (d, e) :: t =>
    let s1 := s.updCore c (fun k => { k with skids := k.skids.setIfInBounds (q - 16) t })
    match d with
    | .endpoint pos ep =>
      let c2 := c / 4 * 4 + pos
      if (s.core c2).room (16 + ep) = 0 then s else (s1.putElem c2 (16 + ep) e).moved (c / 4)
    | .copyPort p => ((s1.feedStream (c / 4) p e).map (·.moved (c / 4))).getD s
    | .transposePort => ((s1.feedStream (c / 4) 4 e).map (·.moved (c / 4))).getD s

/-! ### Stalls (R365, R366) -/

/-- The bundle of core c is held at a push or a pop of its own (R366). -/
def Core.atPort (k : Core) : Bool :=
  match k.run, k.seq.hold with
  | some _, some .push => true
  | some _, some .pop => true
  | _, _ => false

/-- Core c is held at a push, a pop or `barwait` (R365). -/
def Core.atWait (k : Core) : Bool := k.atPort || (k.run.isSome && k.seq.hold == some .barwait)
/-- An idle core with no cairn that it could pick, or a core whose bundle, which may be its rope's, is held at a push,
a pop or `barwait` (R365). -/
def State.stuck (s : State) (c : Nat) : Bool :=
  let k := s.core c
  let since := decide (k.seq.holdSince + 1024 ≤ s.cycle)
  match k.run with
  | none => since && !s.somePick c
  | some _ => since && (k.atWait || (k.seq.hold == some .partner && (s.ropeCores c).any (fun d => (s.core d).atWait)))

/-- FIFOs of the architecture (R339, R368). -/
def fifoNumbers : List Nat := List.range 11 ++ (List.range 17).map (16 + ·)

/-- The smallest full FIFO of a cluster: capacity, position, number (R365). -/
def State.smallestFull (s : State) (cl : Nat) : Option (Nat × Nat × Nat) :=
  ((List.range 4).flatMap (fun j => fifoNumbers.map (fun q => (j, q)))).foldl
    (fun (o : Option (Nat × Nat × Nat)) e =>
      let k := s.core (4 * cl + e.1)
      if k.room e.2 ≠ 0 then o
      else
        let cap := fifoBase e.2 + (k.fifo e.2).extra
        match o with
        | some (n, r) => if cap < n then some (cap, e) else some (n, r)
        | none => some (cap, e)) none

/-- VAT_EXHAUSTED in the ropes of a list of cores: each member is a delivery, and TRM names the push or pop where one
is held (R67, R366, R367). -/
def State.exhausted (s : State) (tra : Word) : List Nat → State
  | [] => s
  | c :: t =>
    if (s.core c).atPort then
      let cs := s.ropeCores c
      let s1 := s.updCluster (c / 4) (fun q => { q with exh := Nat.min 255 (q.exh + cs.length) })
      let s2 := cs.foldl (fun s d => s.updCore d (fun k => k.release s.cycle)) s1
      (s2.deliver cs (posRef (s2.core (cs.headD c)).seq.fetch.pos) (fun d => ⟨trVatExhausted, tra, if (s.core d).atPort then 0x80 else 0⟩)).exhausted tra t
    else s.exhausted tra t

/-- CLUSTER_STALL (R365, R366). -/
def State.clusterStall (s : State) (cl : Nat) : State :=
  if ¬ (List.range 4).all (fun j => s.stuck (4 * cl + j)) ∨ s.cycle < (s.cluster cl).moved + 1024 then s
  else match s.smallestFull cl with
    | none => s
    | some (_, j, q) =>
      if 16 ≤ s.vatFree cl then
        let s1 := s.updCore (4 * cl + j) (fun k =>
          { k with fifos := k.fifos.setIfInBounds q { k.fifo q with extra := (k.fifo q).extra + 16 } })
        (s1.updCluster cl (fun q => { q with grow := Nat.min 255 (q.grow + 1) })).moved cl
      else s.exhausted (.ofNat 32 (256 * j + q)) [4 * cl, 4 * cl + 1, 4 * cl + 2, 4 * cl + 3]

/-- A held bundle of core c may issue again: nothing holds it any longer (R343, R365). -/
def State.held (s : State) (c : Nat) (p : Hold → Bool) : Bool :=
  match (s.core c).run, (s.core c).seq.hold with
  | some _, some h => p h
  | _, _ => false

end Sys2Proof.Machine
end

