-- ==== Sys2Proof/Machine/Cards.lean ====
section
/-!
DEFINITION. The card engines: reading and checking a card (R346, R351, R352), COPY, GATHER, TRANSPOSE,
MULTICAST, BANKFILL (R353 to R358, R459), OFFLOAD and RELOAD (R359 to R361), DECOMP (R362) and the report
(R363, R364).
-/
namespace Sys2Proof.Machine

/-! ### Engine accesses -/

/-- Which of n bytes stand in uncorrectable words. -/
def State.badBytes (s : State) (r : WalkRequest) (n : Nat) : List Bool :=
  if ¬ s.vbad r n then List.replicate n false
  else (List.range n).map (fun i => s.vbad { r with va := r.va + i } 1)

/-- The pieces of a span, each inside one 16-byte word. -/
def splitWords (va n : Nat) : List (Nat × Nat) := splitBy 16 va n

/-- How an engine's write of one piece ends (R212, R427). -/
inductive Put where
  /-- bytes written, and whether a word was refused -/
  | done (s : State) (n : Nat) (refused : Bool)
  | wait (s : State)
  | fail (s : State)

/-- Open the words of a piece of which a region refuses some: the answer is `ready` when each of them is either
writable or refused (R212). -/
def State.openWords (r : WalkRequest) (who : Requester) : List (Nat × Nat) → State → Span
  | [], s => .ready s
  | (va, n) :: t, s => match s.openLine { r with va := va } n who with
    | .ready s1 => s1.openWords r who t
    | .refused s1 => s1.openWords r who t
    | o => o

/-- Open a piece for writing: `ready` when each of its words is either writable or refused (R212). -/
def State.openPut (s : State) (r : WalkRequest) (who : Requester) (n : Nat) : Span :=
  match s.openSpan { r with access := 2 } n who with
  | .refused s1 => (match s1.openWords { r with access := 2 } who (splitWords r.va n) with
    | .ready s2 => .refused s2
    | o => o)
  | o => o

/-- Write the words of a piece that no region refuses; with `now` they perform as they are accepted, and bytes at
keys of `skip` are left out (R236). -/
def State.putWords (s : State) (r : WalkRequest) (who : Requester) (now : Bool) (skip : List Nat) (l : List Byte)
    (bad : List Bool) : State × Nat :=
  (splitWords r.va l.length).foldl (fun (acc : State × Nat) p =>
    let rr : WalkRequest := { r with va := p.1, access := 2 }
    let i := p.1 - r.va
    match acc.1.openSpan rr p.2 who with
    | .ready s2 => (s2.engineWrite rr who now skip ((l.drop i).take p.2) ((bad.drop i).take p.2), acc.2 + p.2)
    | _ => acc) (s, 0)

/-- Write a piece, word by word where a region refuses some (R212). -/
def State.putPiece (s : State) (r : WalkRequest) (who : Requester) (skip : List Nat) (l : List Byte) (bad : List Bool) : Put :=
  match s.openPut r who l.length with
  | .ready s1 => .done (s1.engineWrite { r with access := 2 } who false skip l bad) l.length false
  | .wait s1 => .wait s1
  | .fail s1 => .fail s1
  | .refused s1 =>
    let e := s1.putWords r who false skip l bad
    .done e.1 e.2 true

/-! ### Cards -/

def stDone : Nat := 0
def stOverlap : Nat := 1
def stBadCard : Nat := 2
def stRefused : Nat := 3
def stFault : Nat := 4
def stUncorrectable : Nat := 5
def stActiveBank : Nat := 6
def stPoolFull : Nat := 7
def stBadImage : Nat := 8
def stDecompError : Nat := 9
def stSize : Nat := 10

/-- A field of a card: n bytes from byte b on. -/
def Job.f (j : Job) (b n : Nat) : Nat := bits j.bytes (8 * b) (8 * n)
def Job.sf (j : Job) (b : Nat) : Int := sextI (j.f b 4) 32
def Job.type (j : Job) : Nat := j.f 0 1
def Job.sp (j : Job) : Bool := nbit (j.f 1 1) 2
def Job.dp (j : Job) : Bool := nbit (j.f 1 1) 3
def Job.req (j : Job) (va access : Nat) : WalkRequest := ⟨va, j.asid, access, j.kid.toNat, j.src⟩

/-- A side from base + lo to base + hi stays inside the 50-bit space of its home (R352). -/
def sideOk (base : Nat) (lo hi : Int) : Bool :=
  decide (0 ≤ (base % 2 ^ 50 : Nat) + lo ∧ (base % 2 ^ 50 : Nat) + hi < 2 ^ 50)

/-- Lowest and highest offset of a strided side (R353). -/
def strideLo (l : List (Nat × Int)) : Int := l.foldl (fun a p => a + min 0 ((p.1 - 1 : Int) * p.2)) 0
def strideHi (l : List (Nat × Int)) : Int := l.foldl (fun a p => a + max 0 ((p.1 - 1 : Int) * p.2)) 0

/-- Counts and strides of a COPY card. -/
def Job.copyS (j : Job) : List (Nat × Int) := [(j.f 28 2, j.sf 36), (j.f 30 2, j.sf 40), (j.f 32 2, j.sf 44)]
def Job.copyD (j : Job) : List (Nat × Int) := [(j.f 28 2, j.sf 48), (j.f 30 2, j.sf 52), (j.f 32 2, j.sf 56)]
def Job.copyTotal (j : Job) : Nat := j.f 24 4 * j.f 28 2 * j.f 30 2 * j.f 32 2

/-- Two spans meet (R356). -/
def meets (alo ahi blo bhi : Int) : Bool := decide (alo ≤ bhi ∧ blo ≤ ahi)

/-- The status that checking a card gives before it moves a byte (R351 to R362). -/
def State.checkCard (s : State) (c fifo : Nat) (j : Job) : Nat :=
  let t := j.type
  let admitted := match fifo with
    | 0 => decide (1 ≤ t ∧ t ≤ 5)
    | 2 => t == 8
    | 4 => t == 6 || t == 7
    | _ => decide (1 ≤ t ∧ t ≤ 4)
  let z (b n : Nat) : Bool := j.f b n == 0
  let head := admitted && j.f 1 1 < 16 && (!j.sp || t == 1 || t == 3) && (!j.dp || t == 1) &&
    j.f 2 1 < 128 && z 3 5
  let body := match t with
    | 1 => z 34 2 && z 60 4 &&
      (!j.sp || (j.f 8 8 < 4 && z 36 4 && z 40 4 && z 44 4)) &&
      (!j.dp || (j.f 16 8 < 128 && nbits (j.f 16 8) 4 1 == 0)) &&
      !j.copyD.any (fun p => decide (1 < p.1) && p.2 == 0) &&
      (j.copyTotal == 0 ||
        ((j.sp || sideOk (j.f 8 8) (strideLo j.copyS) (strideHi j.copyS + (j.f 24 4 : Int) - 1)) &&
         (j.dp || sideOk (j.f 16 8) (strideLo j.copyD) (strideHi j.copyD + (j.f 24 4 : Int) - 1))))
    | 2 => z 48 16 && (j.f 32 4 == 0 || j.f 36 4 == 0 ||
      (sideOk (j.f 24 8) 0 (4 * (j.f 32 4 : Int) - 1) &&
       sideOk (j.f 16 8) 0 (((j.f 32 4 : Int) - 1) * j.f 44 4 + j.f 36 4 - 1)))
    | 3 => z 29 3 && z 40 24 && decide (j.f 28 1 < 4) &&
      (j.f 24 2 == 0 || j.f 26 2 == 0 ||
        ((j.sp || sideOk (j.f 8 8) 0 (((j.f 24 2 : Int) - 1) * j.f 32 4 + j.f 26 2 * 2 ^ j.f 28 1 - 1)) &&
         sideOk (j.f 16 8) 0 (((j.f 26 2 : Int) - 1) * j.f 36 4 + j.f 24 2 * 2 ^ j.f 28 1 - 1)))
    | 4 => decide (j.f 24 1 < 16) && z 25 3 && z 44 20 && j.f 8 8 % 256 == 0 &&
      nbits (j.f 8 8) 54 10 == s.modNum.toNat && decide (nbits (j.f 8 8) 50 4 < 8) &&
      j.f 32 4 % 256 == 0 && j.f 32 4 < 2 ^ 26 && j.f 36 4 % 256 == 0 && j.f 40 4 % 256 == 0 &&
      (List.range 64).all (fun cl => !nbit (j.f 16 8) cl || s.clusterPart cl == some (s.corePart c)) &&
      (j.f 28 4 == 0 ||
        (decide (j.f 32 4 + (j.f 28 4 - 1) * j.f 36 4 + 255 < 2 ^ 26) &&
         sideOk (j.f 8 8) 0 (((j.f 28 4 : Int) - 1) * j.f 40 4 + 255)))
    | 5 => decide (j.f 16 1 < 2) && z 17 1 && decide (j.f 18 2 < 256) && decide (j.f 18 2 + j.f 20 2 ≤ 256) &&
      z 22 2 && z 28 36 && (j.f 20 2 == 0 || sideOk (j.f 8 8) 0 (((j.f 20 2 : Int) - 1) * j.f 24 4 + 191))
    | 8 => decide (j.f 28 4 < 2 ^ 27) && z 32 32 && (j.f 24 4 == 0 || sideOk (j.f 8 8) 0 ((j.f 24 4 : Int) - 1))
    | _ => j.f 8 8 % 256 == 0 && j.f 16 8 % 64 == 0 && decide (1 ≤ j.f 28 4 ∧ j.f 28 4 ≤ 262144) &&
      j.f 32 4 % 256 == 0 && z 36 28 && sideOk (j.f 8 8) 0 (((j.f 28 4 : Int) - 1) * j.f 32 4 + 255) &&
      sideOk (j.f 16 8) 0 63
  if ¬ (head && body) then stBadCard
  else match t with
    | 3 =>
      let z := 2 ^ j.f 28 1
      if ¬ j.sp ∧ j.f 24 2 ≠ 0 ∧ j.f 26 2 ≠ 0 ∧
        meets (j.f 16 8) (j.f 16 8 + (j.f 26 2 - 1) * j.f 36 4 + j.f 24 2 * z - 1 : Nat)
          (j.f 8 8) (j.f 8 8 + (j.f 24 2 - 1) * j.f 32 4 + j.f 26 2 * z - 1 : Nat) then stOverlap else stDone
    | 5 => if j.f 16 1 = (if (s.core c).mat.act then 1 else 0) then stActiveBank else stDone
    | 8 =>
      if j.f 24 4 ≠ 0 ∧ j.f 28 4 ≠ 0 ∧
        meets (j.f 16 8) (j.f 16 8 + j.f 28 4 - 1 : Nat) (j.f 8 8) (j.f 8 8 + j.f 24 4 - 1 : Nat)
      then stOverlap else stDone
    | _ => stDone

def Core.jobsOf (k : Core) (fifo : Nat) : List Job := (k.jobs[fifo / 2]?).getD []
def State.setJobs (s : State) (c fifo : Nat) (l : List Job) : State :=
  s.updCore c (fun k => { k with jobs := k.jobs.setIfInBounds (fifo / 2) l })

/-- CARD_READ (R346, R351, R352): the engine accepts the oldest card; it may have accepted others (R236, R364). -/
def State.cardRead (s : State) (c fifo : Nat) : State :=
  let k := s.core c
  match (k.fifo fifo).els with
  | [] => s
  | e :: rest =>
      let a := match e.pay with
        | .card a => a.toNat
        | _ => 0
      let words := [a, a + 16, a + 32, a + 48]
      let bytes : BitVec 512 := .ofNat 512 (ofBytesLE (words.flatMap (fun w => bytesLE 16 (s.padRead c e.kid w 16))))
      let asid := match s.kernel e.kid with
        | some n => n.asid
        | none => 0
      let j : Job := ⟨s.tick, bytes, e.kid, asid, e.src, nbit (bits bytes 8 8) 0,
        if nbit (bits bytes 8 8) 1 then some (bits bytes 16 7) else none, 0, 0, false, false, none, 0, [], .checked⟩
      let j1 : Job :=
        if words.any (fun w => !k.readable e.kid w) then
          { j with sts := true, bar := none, stage := .finished stRefused 0 }
        else if words.any (fun w => s.wordTag c e.kid w == 3) then
          { j with sts := true, bar := none, stage := .finished stUncorrectable 0 }
        else
          let r := s.checkCard c fifo j
          if r = stDone then j else { j with stage := .finished r 0 }
      ((s.updCore c (fun k => k.setFifo fifo rest)).setJobs c fifo (k.jobsOf fifo ++ [j1])).moved (c / 4)

/-! ### One piece of a card's work -/

/-- What one piece of work answers. -/
inductive Piece where
  | more (s : State) (j : Job)
  | wait (s : State) (j : Job)
  /-- the card ends with this status -/
  | stop (s : State) (j : Job) (status : Nat)

/-- The status of a card whose work came to its end (R212, R459). -/
def Job.final (j : Job) : Nat :=
  if j.refused then stRefused else if j.ue then stUncorrectable else j.verdict

/-- The engine behind a card queue, at work on a card. -/
def Job.who (j : Job) (c fifo : Nat) : Requester := .card c fifo j.no

/-- The engine's read of n bytes: the bytes (0 from uncorrectable words) and which are uncorrectable. -/
def State.readSpan (s : State) (r : WalkRequest) (n : Nat) : List Byte × List Bool :=
  let bad := s.badBytes r n
  ((s.vread r n).zipWith (fun b x => if x then 0 else b) bad, bad)

/-- An engine's read of pages that it has opened: they are pinned until its command reports (R431, log 76), and
what the command has written there itself is in place. -/
def State.engineRead (s : State) (r : WalkRequest) (n : Nat) (who : Requester) : State × List Byte × List Bool :=
  let s1 := (s.ownFirst r n who).pinSpan r n who
  (s1, s1.readSpan r n)

/-- Up to n bytes at dst: as many words of the line as the engine moves at once (R232, log 7). -/
def State.pieceLen (s : State) (dst n : Nat) : Nat := Nat.min n (16 * Config.grain s.tick - dst % 16)

/-- Bytes that have been read are written as one piece of a destination line. -/
def State.deliverPiece (s : State) (who : Requester) (j : Job) (dst : Nat) (l : List Byte) (bad : List Bool) : Piece :=
  match s.putPiece (j.req dst 2) who j.ahead l bad with
  | .wait s1 => .wait s1 j
  | .fail s1 => .stop s1 j stFault
  | .done s1 n ref => .more s1 { j with
      done := j.done + l.length, count := j.count + n, refused := j.refused || ref, ue := j.ue || bad.any id }

/-- One piece from one address to another, inside a destination line. -/
def State.movePiece (s : State) (who : Requester) (j : Job) (src dst n : Nat) : Piece :=
  match s.openSpan (j.req src 1) n who with
  | .wait s1 => .wait s1 j
  | .fail s1 => .stop s1 j stFault
  | .refused s1 => .stop s1 j stRefused
  | .ready s1 =>
    let (s2, l, bad) := s1.engineRead (j.req src 1) n who
    s2.deliverPiece who j dst l bad

/-- The address of run number r of a strided side (R353). -/
def runAddr (base : Nat) (l : List (Nat × Int)) (r : Nat) : Nat :=
  match l with
  | [a, b, c] =>
    ((base : Int) + (r % a.1 : Nat) * a.2 + (r / a.1 % b.1 : Nat) * b.2 + (r / (a.1 * b.1) % c.1 : Nat) * c.2).toNat
  | _ => base

/-- The bytes of a COPY's source from position p on, at most n of them (R353): none while it waits. -/
def State.copySource (s : State) (c : Nat) (who : Requester) (j : Job) (p : Nat) :
    Nat → List (Nat × Nat) → List Byte → List Bool → Span × List Byte × List Bool
  | _, [], l, b => (.ready s, l, b)
  | fuel, (src, n) :: t, l, b =>
    match s.openSpan (j.req src 1) n who with
    | .ready s1 =>
      let (s2, l1, b1) := s1.engineRead (j.req src 1) n who
      s2.copySource c who j p fuel t (l ++ l1) (b ++ b1)
    | o => (o, l, b)

/-- The source pieces of n bytes of a COPY from position p on. -/
def Job.copyRuns (j : Job) : Nat → Nat → Nat → List (Nat × Nat)
  | 0, _, _ => []
  | fuel + 1, p, n =>
    if n = 0 then []
    else
      let e0 := j.f 24 4
      let m := Nat.min n (e0 - p % e0)
      (runAddr (j.f 8 8) j.copyS (p / e0) + p % e0, m) :: j.copyRuns fuel (p + m) (n - m)

/-- How many of n bytes may be read at src before the first that the card itself writes at dst must be in place:
a byte read after the card wrote it carries the written value (R353). -/
def State.copyFree (s : State) (j : Job) (src dst n : Nat) : Nat :=
  let d := s.byteKeys (j.req dst 2) n
  let l := s.byteKeys (j.req src 1) n
  ((List.range n).find? (fun i => match l.getD i none with
    | some k => (d.take i).contains (some k)
    | none => false)).getD n

/-- One piece of a COPY (R350, R353). -/
def State.copyPiece (s : State) (c fifo : Nat) (j : Job) : Piece :=
  let who := j.who c fifo
  let total := j.copyTotal
  let p := j.done
  if total ≤ p then .stop s j j.final
  else
    let e0 := j.f 24 4
    let off := p % e0
    let dst := runAddr (j.f 16 8) j.copyD (p / e0) + off
    let src := runAddr (j.f 8 8) j.copyS (p / e0) + off
    let n0 := if j.dp then Nat.min 256 (total - p) else s.pieceLen dst (Nat.min (e0 - off) (256 - dst % 256))
    let n := if j.dp || j.sp then n0 else s.copyFree j src dst n0
    let port := j.f 8 8 % 4
    let got : Option (Span × List Byte × List Bool) :=
      if j.sp then
        let st := (s.cluster (c / 4)).stream port j.kid
        if st.length < n then none
        else some (.ready (s.eatStream (c / 4) port n), st.take n, List.replicate n false)
      else some (s.copySource c who j p 0 (j.copyRuns n p n) [] [])
    match got with
    | none => .wait s j
    | some (.wait s1, _, _) => .wait s1 j
    | some (.fail s1, _, _) => .stop s1 j stFault
    | some (.refused s1, _, _) => .stop s1 j stRefused
    | some (.ready s1, l, bad) =>
      if j.dp then
        let d := c / 4 * 4 + nbits (j.f 16 8) 5 2
        let q := 16 + nbits (j.f 16 8) 0 4
        if (s1.core d).room q = 0 then .wait s j
        else
          let tags := packTags (fun i => if ((bad.drop (4 * i)).take 4).any id then 3 else 0)
          .more (s1.putElem d q ⟨j.kid, .vec (.ofNat 2048 (ofBytesLE l)) tags, 0, engineSrc⟩)
            { j with done := p + n, count := j.count + n, ue := j.ue || bad.any id }
      else match s1.deliverPiece who j dst l bad with
        | .wait s2 j2 => .wait (if j.sp then s2.setRuns (c / 4) port ((s.cluster (c / 4)).runs port) else s2) j2
        | r => r

/-- The indices of a GATHER, read before anything is written (R354). -/
def State.gatherPrep (s : State) (c fifo : Nat) (j : Job) : Piece :=
  let r := j.req (j.f 24 8) 1
  let n := 4 * j.f 32 4
  match s.openSpan r n (j.who c fifo) with
  | .wait s1 => .wait s1 j
  | .fail s1 => .stop s1 j stFault
  | .refused s1 => .stop s1 j stRefused
  | .ready s1 =>
    if s1.vbad r n then .stop s1 j stUncorrectable
    else
      let l := s1.vread r n
      let s1 := s1.pinSpan r n (j.who c fifo)
      let ix := (List.range (j.f 32 4)).map (fun i => ofBytesLE ((l.drop (4 * i)).take 4))
      let lo := j.f 8 8 + ix.foldl Nat.min (ix.headD 0) * j.f 40 4
      let hi := j.f 8 8 + ix.foldl Nat.max 0 * j.f 40 4 + j.f 36 4 - 1
      let dhi := j.f 16 8 + (j.f 32 4 - 1) * j.f 44 4 + j.f 36 4 - 1
      if ¬ sideOk (j.f 8 8) ((lo : Int) - j.f 8 8) ((hi : Int) - j.f 8 8) then .stop s1 j stBadCard
      else if meets (j.f 16 8) dhi (j.f 24 8) (j.f 24 8 + n - 1 : Nat) ∨ meets (j.f 16 8) dhi lo hi
      then .stop s1 j stOverlap
      else .more s1 { j with prep := some ix }

/-- One piece of a GATHER (R354). -/
def State.gatherPiece (s : State) (c fifo : Nat) (j : Job) : Piece :=
  let e0 := j.f 36 4
  if j.f 32 4 = 0 ∨ e0 = 0 then .stop s j stDone
  else match j.prep with
    | none => s.gatherPrep c fifo j
    | some ix =>
      let p := j.done
      if j.f 32 4 * e0 ≤ p then .stop s j j.final
      else
        let src := j.f 8 8 + ix.getD (p / e0) 0 * j.f 40 4 + p % e0
        let dst := j.f 16 8 + p / e0 * j.f 44 4 + p % e0
        s.movePiece (j.who c fifo) j src dst (s.pieceLen dst (Nat.min (e0 - p % e0) (256 - dst % 256)))

/-- One element of a TRANSPOSE; with SP the whole matrix is taken from the stream first (R350, R355). -/
def State.transposePiece (s : State) (c fifo : Nat) (j : Job) : Piece :=
  let rows := j.f 24 2
  let cols := j.f 26 2
  let z := 2 ^ j.f 28 1
  let i := j.done / z
  if rows * cols ≤ i then .stop s j j.final
  else
    let cc := i / rows
    let r := i % rows
    let dst := j.f 16 8 + cc * j.f 36 4 + r * z
    if j.sp then
      let l := j.prep.getD []
      if l.length < rows * cols * z then
        let st := ((s.cluster (c / 4)).stream 4 j.kid).take (rows * cols * z - l.length)
        if st.isEmpty then .wait s j
        else .more (s.eatStream (c / 4) 4 st.length) { j with prep := some (l ++ st.map (·.toNat)) }
      else s.deliverPiece (j.who c fifo) j dst (((l.drop ((r * cols + cc) * z)).take z).map (.ofNat 8)) (List.replicate z false)
    else s.movePiece (j.who c fifo) j (j.f 8 8 + r * j.f 32 4 + cc * z) dst z

/-- A line delivered into one target's scratchpad, word by word (R38, R357, R387). -/
def State.padLine (s : State) (kid : Word) (who : Requester) (skip : List Nat) (c a : Nat) (l : List Byte)
    (bad : List Bool) : State × Nat :=
  (List.range (l.length / 16)).foldl (fun (acc : State × Nat) g =>
    let w := a + 16 * g
    if ¬ (acc.1.core c).engineWritable kid w then acc
    else
      (acc.1.enlist who kid false skip (acc.1.padKey c kid w) ⟨some (c, w), none⟩ ((l.drop (16 * g)).take 16)
        ((bad.drop (16 * g)).take 16), acc.2 + 16)) (s.noteWrote kid (some (256 + c)), 0)

/-- One line of a MULTICAST (R357). -/
def State.multicastPiece (s : State) (c fifo : Nat) (j : Job) : Piece :=
  let k := j.done / 256
  if j.f 28 4 ≤ k then .stop s j j.final
  else
    let r := j.req (j.f 8 8 + k * j.f 40 4) 1
    match s.openSpan r 256 (j.who c fifo) with
    | .wait s1 => .wait s1 j
    | .fail s1 => .stop s1 j stFault
    | .refused s1 => .stop s1 j stRefused
    | .ready s1 =>
      let (s1, l, bad) := s1.engineRead r 256 (j.who c fifo)
      let targets := (List.range 256).filter (fun t => nbit (j.f 16 8) (t / 4) && nbit (j.f 24 1) (t % 4))
      let e := targets.foldl (fun (acc : State × Nat) t =>
        let p := acc.1.padLine j.kid (j.who c fifo) j.ahead t (j.f 32 4 + k * j.f 36 4) l bad
        (p.1, acc.2 + p.2)) (s1, 0)
      .more e.1 { j with
        done := j.done + 256
        count := j.count + e.2
        refused := j.refused || decide (e.2 < 256 * targets.length)
        ue := j.ue || bad.any id }

/-- One row of a BANKFILL (R358). -/
def State.bankfillPiece (s : State) (c fifo : Nat) (j : Job) : Piece :=
  let i := j.done / 192
  if j.f 20 2 ≤ i then .stop s j j.final
  else
    let r := j.req (j.f 8 8 + i * j.f 24 4) 1
    match s.openSpan r 192 (j.who c fifo) with
    | .wait s1 => .wait s1 j
    | .fail s1 => .stop s1 j stFault
    | .refused s1 => .stop s1 j stRefused
    | .ready s1 =>
      let (s1, l, bad) := s1.engineRead r 192 (j.who c fifo)
      let row := j.f 18 2 + i
      let id_ := 256 * j.f 16 1 + row
      let s2 := (s1.pokes (bankKey c (j.f 16 1) (192 * row)) l).updCore c (fun k => { k with mat := { k.mat with
        badRows := if bad.any id then insertSorted id_ k.mat.badRows else k.mat.badRows.filter (· ≠ id_) } })
      .more s2 { j with done := j.done + 192, count := j.count + 192, ue := j.ue || bad.any id }

/-! ### Zero-value compression (R359 to R361) -/

/-- The image of one row (R360). -/
def rowImage (l : List Byte) : List Byte :=
  let w (i : Nat) : Nat := ofBytesLE ((l.drop (4 * i)).take 4)
  let map := (List.range 64).foldl (fun a i => if w i ≠ 0 then a + 2 ^ i else a) 0
  bytesLE 8 map ++ (List.range 64).flatMap (fun i => if w i ≠ 0 then bytesLE 4 (w i) else [])

/-- How a card goes on where a span that it opens is not ready: nothing has been written yet, so that a card that
waits starts again. -/
def Span.else_ (o : Span) (j : Job) : Piece :=
  match o with
  | .wait s1 => .wait s1 j
  | .fail s1 => .stop s1 j stFault
  | .refused s1 => .stop s1 j stRefused
  | .ready s1 => .more s1 j

/-- An offload set (R359). -/
structure OffSet where
  slotBase : Nat
  slotSize : Nat
  nimg : Nat
  table : Nat
  pool : Nat
  nchunk : Nat
  head : Nat
  free : Nat
  deriving DecidableEq, Repr

def OffSet.ofBytes (l : List Byte) : OffSet :=
  let f (b n : Nat) : Nat := ofBytesLE ((l.drop b).take n)
  ⟨f 0 8, f 8 4, f 12 4, f 16 8, f 24 8, f 32 4, f 36 4, f 40 4⟩
def OffSet.chunk (o : OffSet) (i : Nat) : Nat := o.pool + 4096 * i
def noChunk : Nat := 0xFFFFFFFF

/-- Chunk i of the pool stays inside the 50-bit space of its home (R352). -/
def OffSet.chunkIn (o : OffSet) (i : Nat) : Bool := sideOk o.pool (4096 * i : Nat) (4096 * i + 4095 : Nat)

/-- The chunks of a chain, by their links (R359); a chunk outside its home's space ends it. -/
def State.chain (j : Job) (who : Requester) (o : OffSet) : Nat → Nat → List Nat → State → Except Span (State × List Nat)
  | 0, _, l, s => .ok (s, l)
  | fuel + 1, i, l, s =>
    if i = noChunk ∨ o.nchunk ≤ i then .ok (s, l)
    else if ¬ o.chunkIn i then .ok (s, l ++ [i])
    else
      let r := j.req (o.chunk i + 4092) 1
      match s.openSpan r 4 who with
      | .ready s1 => State.chain j who o fuel (ofBytesLE (s1.vread r 4)) (l ++ [i]) (s1.pinSpan r 4 who)
      | x => .error x

/-- Spans opened for writing, word by word where a region refuses some (R212). -/
def State.openPuts (j : Job) (who : Requester) : List (Nat × List Byte) → State → Span
  | [], s => .ready s
  | (va, l) :: t, s => match s.openPut (j.req va 2) who l.length with
    | .ready s1 => State.openPuts j who t s1
    | .refused s1 => State.openPuts j who t s1
    | o => o

/-- The writes of an OFFLOAD, each opened; they perform as they are accepted, since the home of the set serialises
them (R359). The answer says whether a word was refused (R212). -/
def State.putAll (j : Job) (who : Requester) (l : List (Nat × List Byte)) (s : State) : State × Bool :=
  l.foldl (fun (acc : State × Bool) w =>
    let e := acc.1.putWords (j.req w.1 2) who true j.ahead w.2 []
    (e.1, acc.2 || decide (e.2 < w.2.length))) (s, false)

/-- What an image of n bytes and its chunks touch stays inside the 50-bit spaces of its homes (R352). -/
def OffSet.inside (o : OffSet) (img n : Nat) (chunks : List Nat) : Bool :=
  (Nat.min n o.slotSize == 0 || sideOk o.slotBase (img * o.slotSize : Nat) (img * o.slotSize + Nat.min n o.slotSize - 1 : Nat)) &&
  chunks.all o.chunkIn
/-- The table entry of an image stays inside it. -/
def OffSet.entryIn (o : OffSet) (img : Nat) : Bool := sideOk o.table (16 * img : Nat) (16 * img + 15 : Nat)

/-- Links of chunks i1, i2, … ending in `last` (R359). -/
def linkWrites (o : OffSet) : List Nat → Nat → List (Nat × List Byte)
  | [], _ => []
  | [i], last => [(o.chunk i + 4092, bytesLE 4 last)]
  | i :: k :: t, last => (o.chunk i + 4092, bytesLE 4 k) :: linkWrites o (k :: t) last

/-- An image's bytes in its slot and chunks (R360). -/
def imageWrites (o : OffSet) (img : Nat) (l : List Byte) (chunks : List Nat) : List (Nat × List Byte) :=
  let slot := l.take o.slotSize
  (if slot.isEmpty then [] else [(o.slotBase + img * o.slotSize, slot)]) ++
    ((List.range chunks.length).zip chunks).filterMap (fun p =>
      let b := (l.drop (o.slotSize + 4092 * p.1)).take 4092
      if b.isEmpty then none else some (o.chunk p.2, b))

/-- The row images of OFFLOAD up to the first row that cannot be read soundly (R361). -/
def State.rowImages (j : Job) (who : Requester) : Nat → Nat → List Byte → State → Except Span (State × List Byte × Bool)
  | 0, _, l, s => .ok (s, l, false)
  | n + 1, i, l, s =>
    let r := j.req (j.f 8 8 + i * j.f 32 4) 1
    match s.openSpan r 256 who with
    | .ready s1 => if s1.vbad r 256 then .ok (s1, l, true)
      else State.rowImages j who n (i + 1) (l ++ rowImage (s1.vread r 256)) (s1.pinSpan r 256 who)
    | x => .error x

/-- Set descriptor and table entry of an OFFLOAD or RELOAD, opened and read. -/
def State.openSet (s : State) (who : Requester) (j : Job) : Except Span (State × OffSet × List Byte) :=
  let rd := j.req (j.f 16 8) 1
  match s.openSpan rd 64 who with
  | .ready s1 =>
    let o := OffSet.ofBytes (s1.vread rd 64)
    let re := j.req (o.table + 16 * j.f 24 4) 1
    match s1.openSpan re 16 who with
    | .ready s2 => .ok ((s2.pinSpan rd 64 who).pinSpan re 16 who, o, s2.vread re 16)
    | x => .error x
  | x => .error x

/-- OFFLOAD (R361). The chunks of the entry's previous image stand before the free ones (log 37). -/
def State.offload (s : State) (c fifo : Nat) (j : Job) : Piece :=
  let who := j.who c fifo
  match s.openSet who j with
  | .error x => x.else_ j
  | .ok (s1, o, entry) =>
    if o.nimg ≤ j.f 24 4 ∨ ¬ o.entryIn (j.f 24 4) then .stop s1 j stBadCard
    else if s1.vbad (j.req (j.f 16 8) 1) 64 ∨ s1.vbad (j.req (o.table + 16 * j.f 24 4) 1) 16 then
      .stop s1 j stUncorrectable
    else
      let first := if ofBytesLE (entry.take 4) = 0 then noChunk else ofBytesLE ((entry.drop 8).take 4)
      match State.chain j who o o.nchunk first [] s1 with
      | .error x => x.else_ j
      | .ok (s2, old) => match State.chain j who o o.nchunk o.head [] s2 with
        | .error x => x.else_ j
        | .ok (s3, free) => match State.rowImages j who (j.f 28 4) 0 [] s3 with
          | .error x => x.else_ j
          | .ok (s4, image, bad) =>
            let avail := old ++ free
            let need := (image.length - o.slotSize + 4091) / 4092
            let fits := decide (need ≤ avail.length)
            let good := fits && !bad
            let used := avail.take need
            let taken := if good then used else []
            let left := if good then avail.drop need else avail
            let ent := if good
              then wordsLE [image.length, j.f 28 4, taken.headD noChunk, (crc32c image).toNat]
              else wordsLE [0, 0, noChunk, 0]
            let desc := wordsLE [left.headD noChunk, o.free + old.length - taken.length]
            -- the last of the old chunks that stay free leads to the free list as it stood
            let joint := match old.getLast? with
              | some i => if taken.length < old.length then [(o.chunk i + 4092, bytesLE 4 (free.headD noChunk))] else []
              | none => []
            let writes := imageWrites o (j.f 24 4) image used ++ linkWrites o taken noChunk ++ joint ++
              [(j.f 16 8 + 36, desc), (o.table + 16 * j.f 24 4, ent)]
            if ¬ o.inside (j.f 24 4) image.length (old ++ used) then .stop s4 j stBadCard
            else match State.openPuts j who writes s4 with
              | .ready s5 =>
                let e := State.putAll j who writes s5
                let s6 := e.1.moved (c / 4)
                if bad ∧ fits then .stop s6 { j with count := 0 } stUncorrectable
                else if ¬ fits then .stop s6 { j with count := 0 } stPoolFull
                else .stop s6 { j with count := image.length } (if e.2 then stRefused else stDone)
              | x => x.else_ j

/-- Bytes read from several spans, with the uncorrectable ones. -/
def State.readAll (j : Job) (who : Requester) : List (Nat × Nat) → List Byte → List Bool → State →
    Except Span (State × List Byte × List Bool)
  | [], l, b, s => .ok (s, l, b)
  | (va, n) :: t, l, b, s => match s.openSpan (j.req va 1) n who with
    | .ready s1 =>
      let (s2, l1, b1) := s1.engineRead (j.req va 1) n who
      State.readAll j who t (l ++ l1) (b ++ b1) s2
    | x => .error x

/-- The rows that an image gives, each with whether an uncorrectable word feeds it (R360, R361). -/
def imageRows : Nat → List Byte → List Bool → Bool → List (List Byte × Bool)
  | 0, _, _, _ => []
  | n + 1, l, b, lost =>
    let map := ofBytesLE (l.take 8)
    let lost1 := lost || (b.take 8).any id
    let k := popcount 64 map
    let words := (l.drop 8).take (4 * k)
    let row := (List.range 64).flatMap (fun i =>
      if nbit map i then (words.drop (4 * popcount i map)).take 4 ++ zeros (4 - ((words.drop (4 * popcount i map)).take 4).length)
      else zeros 4)
    (row, lost1 || ((b.drop 8).take (4 * k)).any id) :: imageRows n (l.drop (8 + 4 * k)) (b.drop (8 + 4 * k)) lost1

/-- RELOAD before its first write: the image read and checked (R361). -/
def State.reloadPrep (s : State) (c fifo : Nat) (j : Job) : Piece :=
  let who := j.who c fifo
  match s.openSet who j with
  | .error x => x.else_ j
  | .ok (s1, o, entry) =>
    let size := ofBytesLE (entry.take 4)
    if o.nimg ≤ j.f 24 4 ∨ ¬ o.entryIn (j.f 24 4) then .stop s1 j stBadCard
    else if s1.vbad (j.req (j.f 16 8) 1) 64 ∨ s1.vbad (j.req (o.table + 16 * j.f 24 4) 1) 16 then
      .stop s1 j stUncorrectable
    else if size = 0 ∨ ofBytesLE ((entry.drop 4).take 4) ≠ j.f 28 4 then .stop s1 j stBadImage
    else match State.chain j who o ((size - o.slotSize + 4091) / 4092) (ofBytesLE ((entry.drop 8).take 4)) [] s1 with
      | .error x => x.else_ j
      | .ok (s2, chunks) =>
        if ¬ o.inside (j.f 24 4) size chunks then .stop s2 j stBadCard
        else
          let spans := (o.slotBase + j.f 24 4 * o.slotSize, Nat.min size o.slotSize) ::
            ((List.range chunks.length).zip chunks).map (fun p =>
              (o.chunk p.2, Nat.min 4092 (size - o.slotSize - 4092 * p.1)))
          match State.readAll j who spans [] [] s2 with
          | .error x => x.else_ j
          | .ok (s3, l, bad) =>
            if ¬ bad.any id ∧ (l.length ≠ size ∨ (crc32c l).toNat ≠ ofBytesLE ((entry.drop 12).take 4)) then
              .stop s3 j stBadImage
            else
              let rows := imageRows (j.f 28 4) l bad false
              .more s3 { j with prep := some (rows.flatMap (fun r => (if r.2 then 1 else 0) :: r.1.map (·.toNat))) }

/-- One row of a RELOAD (R361). -/
def State.reloadPiece (s : State) (c fifo : Nat) (j : Job) : Piece :=
  match j.prep with
  | none => s.reloadPrep c fifo j
  | some l =>
    let i := j.done / 256
    if j.f 28 4 ≤ i then .stop s j j.final
    else
      let row := (l.drop (257 * i)).take 257
      let bad := row.headD 0 != 0
      s.deliverPiece (j.who c fifo) j (j.f 8 8 + i * j.f 32 4) ((row.drop 1).map (.ofNat 8)) (List.replicate 256 bad)

/-! ### Decompression (R362) -/

/-- The reader of a block: bytes left, their position, the output reversed, its length. -/
structure Lz where
  rest : List Byte
  pos : Nat
  out : List Byte
  len : Nat

/-- Why decoding ended: status, and whether the bytes of the sequence are taken back. -/
abbrev LzStop := Nat × Bool

/-- The next input byte (R362). -/
def Lz.get (z : Lz) (bad : Nat) : Except LzStop (Nat × Lz) :=
  match z.rest with
  | [] => .error (stDecompError, true)
  | b :: t => if z.pos = bad then .error (stUncorrectable, false) else .ok (b.toNat, { z with rest := t, pos := z.pos + 1 })

/-- Extension bytes of a length (R362). -/
def Lz.extend (bad : Nat) : Nat → Nat → Lz → Except LzStop (Nat × Lz)
  | 0, _, _ => .error (stDecompError, true)
  | fuel + 1, v, z => match z.get bad with
    | .error e => .error e
    | .ok (b, z1) => if b = 255 then Lz.extend bad fuel (v + b) z1 else .ok (v + b, z1)

def Lz.length (z : Lz) (bad nib : Nat) : Except LzStop (Nat × Lz) :=
  if nib = 15 then Lz.extend bad (z.rest.length + 1) 15 z else .ok (nib, z)

/-- A match copied byte by byte; true when the output would pass its limit. -/
def Lz.copy (cap off : Nat) : Nat → Lz → Lz × Bool
  | 0, z => (z, false)
  | n + 1, z =>
    if cap ≤ z.len then (z, true)
    else Lz.copy cap off n { z with out := z.out.getD (off - 1) 0 :: z.out, len := z.len + 1 }

/-- One sequence; none when the block ends with it, else the status that ends the card. -/
def Lz.sequence (z : Lz) (cap bad : Nat) : Except (LzStop × Lz) (Lz × Bool) :=
  match z.get bad with
  | .error e => .error (e, z)
  | .ok (tok, z1) =>
    match z1.length bad (tok / 16) with
    | .error e => .error (e, z1)
    | .ok (lit, z2) =>
      if z2.rest.length < lit then .error ((stDecompError, true), z2)
      else
        let clean := if z2.pos ≤ bad ∧ bad < z2.pos + lit then bad - z2.pos else lit
        let take := Nat.min clean (cap - z2.len)
        let z3 : Lz := ⟨z2.rest.drop lit, z2.pos + lit, (z2.rest.take take).reverse ++ z2.out, z2.len + take⟩
        if cap - z2.len < clean then .error ((stSize, false), z3)
        else if clean < lit then .error ((stUncorrectable, false), z3)
        else if z3.rest.isEmpty then .ok (z3, true)
        else match z3.get bad with
          | .error e => .error (e, z3)
          | .ok (o1, z4) => match z4.get bad with
            | .error e => .error (e, z4)
            | .ok (o2, z5) => match z5.length bad (tok % 16) with
              | .error e => .error (e, z5)
              | .ok (m, z6) =>
                let off := o1 + 256 * o2
                if off = 0 ∨ z6.len < off then .error ((stDecompError, false), z6)
                else match Lz.copy cap off (m + 4) z6 with
                  | (z7, true) => .error ((stSize, false), z7)
                  | (z7, false) => .ok (z7, z7.rest.isEmpty)

/-- A block decoded: its output and status (R362). -/
def lz4 (cap bad : Nat) : Nat → Lz → List Byte × Nat
  | 0, z => (z.out.reverse, stDone)
  | fuel + 1, z =>
    if z.rest.isEmpty then (z.out.reverse, stDone)
    else match z.sequence cap bad with
      | .ok (z1, true) => (z1.out.reverse, stDone)
      | .ok (z1, false) => lz4 cap bad fuel z1
      | .error ((st, back), z1) => ((if back then z.out else z1.out).reverse, st)

/-- One piece of a DECOMP: the block is decoded first, then written (R362); what it decodes to is what its
destination will touch (R352, log 36). -/
def State.decompPiece (s : State) (c fifo : Nat) (j : Job) : Piece :=
  match j.prep with
  | none =>
    let r := j.req (j.f 8 8) 1
    let n := j.f 24 4
    match s.openSpan r n (j.who c fifo) with
    | .wait s1 => .wait s1 j
    | .fail s1 => .stop s1 j stFault
    | .refused s1 => .stop s1 j stRefused
    | .ready s1 =>
      let s2 := (s1.ownFirst r n (j.who c fifo)).pinSpan r n (j.who c fifo)
      let bad := s2.badBytes r n
      let first := (bad.findIdx? id).getD n
      let (l, st) := lz4 (j.f 28 4) first (n + 1) ⟨s2.vread r n, 0, [], 0⟩
      if ¬ l.isEmpty ∧ ¬ sideOk (j.f 16 8) 0 ((l.length : Int) - 1) then .stop s2 j stBadCard
      else .more s2 { j with prep := some (l.map (·.toNat)), verdict := st }
  | some l =>
    if l.length ≤ j.done then .stop s j j.final
    else
      let dst := j.f 16 8 + j.done
      let n := s.pieceLen dst (Nat.min (l.length - j.done) (256 - dst % 256))
      s.deliverPiece (j.who c fifo) j dst (((l.drop j.done).take n).map (.ofNat 8)) (List.replicate n false)

/-! ### A card's whole work -/

def State.cardPiece (s : State) (c fifo : Nat) (j : Job) : Piece :=
  match j.type with
  | 1 => s.copyPiece c fifo j
  | 2 => s.gatherPiece c fifo j
  | 3 => s.transposePiece c fifo j
  | 4 => s.multicastPiece c fifo j
  | 5 => s.bankfillPiece c fifo j
  | 6 => s.offload c fifo j
  | 7 => s.reloadPiece c fifo j
  | _ => s.decompPiece c fifo j

/-- Some pieces one after another, until the card waits or ends; the end itself is no piece. -/
def cardLoop (c fifo : Nat) : Nat → Job → State → State × Job
  | fuel, j, s => match s.cardPiece c fifo j, fuel with
    | .more _ _, 0 => (s, j)
    | .more s1 j1, n + 1 => cardLoop c fifo n j1 (s1.moved (c / 4))
    | .wait s1 j1, _ => (s1, j1)
    | .stop s1 j1 st, _ => (s1, { j1 with stage := .finished st j1.count })

/-- The card is accepted and its work is not done. -/
def Job.open_ (j : Job) : Bool := j.stage == .checked
/-- Two cards that take what they use in order of acceptance: the banks, one copy or transpose port, one endpoint
(R236, R350, log 36). -/
def Job.bound (a b : Job) : Bool :=
  a.type == b.type && (a.type == 5 || (a.sp && b.sp && a.f 8 8 == b.f 8 8) || (a.dp && b.dp && a.f 16 8 == b.f 16 8))
/-- The cards of a list that may do work now: not behind one that they are bound to. -/
def openCards : List Job → List Job → List Job
  | _, [] => []
  | prior, j :: t =>
    let rest := openCards (prior ++ [j]) t
    if j.open_ && !prior.any (fun p => p.open_ && p.bound j) then j :: rest else rest

/-- The bytes, by key, that a card has written in this step. -/
def State.freshBytes (s : State) (who : Requester) : List Nat :=
  (s.flight.filter (fun f => f.who == who && f.since == s.tick)).flatMap (fun f =>
    (List.range f.data.length).map (fun i => 16 * f.key + f.off + i))

/-- One of the open cards of a queue, if it is of type t, does one piece of its work and some more; what it writes,
no card accepted before it writes after it (R236, R353 to R362, log 36). -/
def State.runCard (s : State) (c fifo t : Nat) : State :=
  let l := (s.core c).jobsOf fifo
  let ready := openCards [] l
  match ready[Config.nextCard s.tick % ready.length]? with
  | none => s
  | some j =>
    if j.type ≠ t then s
    else
      let r := cardLoop c fifo (1 + Config.pieces s.tick) j s
      let fresh := r.1.freshBytes (j.who c fifo)
      let before := l.takeWhile (fun x => x.no != j.no)
      r.1.setJobs c fifo (((r.1.core c).jobsOf fifo).map (fun x =>
        if x.no = j.no then r.2
        else if x.open_ && before.any (fun y => y.no == x.no) then { x with ahead := fresh ++ x.ahead } else x))

/-- The kernel still takes elements and signals (R340, R412). -/
def State.live (s : State) (kid : Word) : Bool :=
  match s.kernel kid with
  | some k => k.outcome == none
  | none => false

/-- CARD_REPORT (R363, R364): status element and barrier of the oldest card, once it is finished. -/
def State.cardReport (s : State) (c fifo : Nat) : State :=
  match (s.core c).jobsOf fifo with
  | [] => s
  | j :: t => match j.stage with
    | .checked => s
    | .finished st n =>
      let push := j.sts && s.live j.kid
      if push ∧ (s.core c).room (fifo + 1) = 0 then s
      else
        let s1 := (s.landed (j.who c fifo)).setJobs c fifo t
        let w : Word := .ofNat 32 (st * 2 ^ 27 + Nat.min n (2 ^ 27 - 1))
        let s2 := if push then (s1.putElem c (fifo + 1) ⟨j.kid, .word w, 0, engineSrc⟩).moved (c / 4) else s1
        match j.bar with
        | some b => s2.arrive c b j.kid
        | none => s2

end Sys2Proof.Machine
end

