-- ==== Sys2Proof/Machine/Accumulate.lean ====
section
/-!
DEFINITION. Scatter-accumulate: `sacc` and `sflush` (R368 to R370), merging (R371), application (R372,
R374), staging (R373, R376) and dropped updates (R377).
-/
namespace Sys2Proof.Machine

/-! ### The instructions -/

/-- Element size of an operation (R369). -/
def accSize (aop : Nat) : Nat := if aop = 2 then 2 else 4

/-- The identity of the scatter-accumulate queue for the vat (R368). -/
def accQueue : Nat := 32

def semSacc (i v : BitVec 5) (o : BitVec 4) (m : BitVec 3) (d : BitVec 1) (x : Ctx) : SlotOut :=
  let k4 := (x.k.regs.s[52]?).getD .zero
  let k5 := (x.k.regs.s[53]?).getD .zero
  let I := x.rv i
  let V := x.rv v
  let N := x.rm m.toNat
  let act := (List.range 64).filter (actW 4 N)
  let e : Elem := ⟨x.kid, .acc (k5.val ++ k4.val) I.val V.val N.bits o.toNat (d == 1), 0, x.c⟩
  let reads := idV i ++ idV v ++ idM m.toNat ++ [.s 52, .s 53]
  let poison :=
    if k4.tag ≠ 0 ∨ k5.tag ≠ 0 ∨ act.any (fun l => ltag I.tags l != 0) then some trPoisonAddress
    else if act.any (fun l => ltag V.tags l != 0 || mtag N.tags (4 * l) != 0) then some trPoisonStore
    else none
  let out := pushOut x reads agAcc accQueue true poison (decide (0 < x.k.room accQueue))
    (fun s => s.putElem x.c accQueue e)
  if act.isEmpty then { nopOut with reads := reads, effect := true } else out

def semSflush (x : Ctx) : SlotOut :=
  pushOut x [] agAcc accQueue true none (decide (0 < x.k.room accQueue))
    (fun s => s.putElem x.c accQueue ⟨x.kid, .flush, 0, x.c⟩)

/-! ### Values (R369, R372) -/

/-- combine(x, y) (R369). -/
def combine (aop : Nat) (x y : Word) : Word :=
  match aop with
  | 0 => x + y
  | 1 => .ofNat 32 (fpAdd fp32 0 0 x.toNat y.toNat).bits
  | 2 => .ofNat 32 (fpAdd fp32 0 0 x.toNat y.toNat).bits
  | 3 => if x.slt y then y else x
  | 4 => if y.slt x then y else x
  | 5 => x ||| y
  | _ => x &&& y

/-- A lane's value as the engine merges it: BF16 widened exactly (R371). -/
def accWiden (aop : Nat) (v : Word) : Word := if aop = 2 then v <<< 16 else v

/-- The new value of a target (R372). -/
def newValue (aop : Nat) (old : Nat) (u : Word) : Nat :=
  if aop = 2 then
    let (x, nv) := Fp.sum 0 [bf16.decode old, fp32.decode u.toNat]
    (deliver bf16 false 0 0 nv x).bits
  else (combine aop (.ofNat 32 old) u).toNat

/-! ### Applying and staging -/

/-- How an update ends: done, or waiting for service. -/
abbrev Upd := Except State State

/-- A dropped update (R377). -/
def State.accFault (s : State) (kid : Word) : State := s.updKernel kid (fun k => { k with accFault := true })

/-- The KID under which a request of address space a from another module reaches word w of core c's scratchpad
(R438). -/
def State.ridgeKid (s : State) (c w asid : Nat) : Word :=
  match (s.core c).regions.toList.find? (fun r => r.v && r.covers w && (match s.kernel r.own with
    | some k => k.asid == asid
    | none => false)) with
  | some r => r.own
  | none => 0

/-- The KID of one piece of a ridge request. -/
def State.pieceKid (s : State) (r : WalkRequest) : Nat :=
  match s.locate r with
  | .at (.tower c a) => (s.ridgeKid c (a / 16 * 16) r.asid).toNat
  | _ => 0

/-- An update's access to its target: of a core of this module under its KID, else as a ridge request, of which
`core` names the partition (R377, R438). -/
def State.accReq (s : State) (kid : Word) (asid va srcMod core : Nat) : WalkRequest :=
  if srcMod = s.modNum.toNat then ⟨va, asid, 3, kid.toNat, core⟩
  else ⟨va, asid, 3, s.pieceKid ⟨va, asid, 3, 0, core⟩, core⟩

/-- Updates of one element address applied in order, as one run (R246, R372, R374, R377): each reads the value
that precedes it in coherence order and takes its place next to it, and is an inbound write (R243, R378). -/
def State.applyRun (s : State) (who : Requester) (kid : Word) (asid va srcMod core : Nat) (l : List (Nat × Word)) : Upd :=
  let n := l.foldl (fun a u => Nat.max a (accSize u.1)) 2
  let r := s.accReq kid asid va srcMod core
  if nbits va 50 4 ≥ 10 then .ok (s.accFault kid)
  else match s.openSpan r n who with
    | .wait s1 => .error s1
    | .fail s1 => .ok (s1.accFault kid)
    | .refused s1 => .ok (s1.accFault kid)
    | .ready s0 =>
      let s1 := s0.ownFirst r n who
      if s1.vbad r n then .ok (s1.accFault kid)
      else .ok (l.foldl (fun (s : State) u =>
        let z := accSize u.1
        s.engineWrite r who true [] (bytesLE z (newValue u.1 (ofBytesLE (s.vread r z)) u.2)) []) s1)

/-- The capacity class of a home: stacks below 16, clusters from 16 on, other modules beyond (R376). -/
def homeClass (own va : Nat) (core : Nat) : Nat :=
  let md := nbits va 54 10
  let unit := nbits va 50 4
  (if md = own then 0 else 1000 * (md + 1)) + (if unit < 8 then unit else 16 + core / 4)
def homeLimit (h : Nat) : Nat := if h % 1000 < 16 then 32768 else 4096

/-- The same element of memory. -/
def Staged.same (a b : Staged) : Bool := a.kid == b.kid && (a.va == b.va || a.key == b.key)

/-- An ordered update is staged at its home, or applied at arrival when the home is full (R373, R376). -/
def State.stage (s : State) (who : Requester) (e : Staged) : Upd :=
  let r := s.accReq e.kid e.asid e.va e.srcMod e.agent
  if nbits e.va 50 4 ≥ 10 then .ok (s.accFault e.kid)
  else match s.openSpan r (accSize e.aop) who with
    | .wait s1 => .error s1
    | .fail s1 => .ok (s1.accFault e.kid)
    | .refused s1 => .ok (s1.accFault e.kid)
    | .ready s1 =>
      let key := match s1.locate r with
        | .at p => s1.placeKey e.kid p
        | _ => 0
      let core := match s1.locate r with
        | .at (.tower c _) => c
        | _ => nbits e.va 26 8
      let e1 := { e with key := key, home := homeClass s1.modNum.toNat e.va core }
      let twin (x : Staged) : Bool :=
        x.same e1 && x.srcMod == e.srcMod && x.srcCore == e.srcCore && x.aop == e.aop && x.due.isEmpty
      if s1.staged.any twin then
        .ok { s1 with staged := s1.staged.map (fun x => if twin x then { x with val := combine e.aop x.val e.val } else x) }
      else if (s1.staged.filter (fun x => x.home == e1.home)).length ≥ homeLimit e1.home then
        (s1.updKernel e.kid (fun k => { k with orderLost := true })).applyRun who e.kid e.asid e.va e.srcMod e.agent [(e.aop, e.val)]
      else .ok { s1 with staged := s1.staged ++ [e1] }

/-- Entries of one location in the order of application (R374). -/
def Staged.before (a b : Staged) : Bool :=
  decide (a.srcMod < b.srcMod) || (a.srcMod == b.srcMod &&
    (decide (a.srcCore < b.srcCore) || (a.srcCore == b.srcCore && decide (a.aop < b.aop))))
def stagedInsert (x : Staged) : List Staged → List Staged
  | [] => [x]
  | y :: t => if y.before x then y :: stagedInsert x t else x :: y :: t
def stagedSort : List Staged → List Staged
  | [] => []
  | x :: t => stagedInsert x (stagedSort t)

/-- ACCUMULATE_APPLICATION (R374): the staged entries that p chooses, location by location. -/
def State.applyStaged (who : Requester) (p : Staged → Bool) : Nat → State → Upd
  | 0, s => .ok s
  | fuel + 1, s =>
    match s.staged.find? p with
    | none => .ok s
    | some e =>
      let mine (x : Staged) : Bool := p x && x.same e
      match s.applyRun who e.kid e.asid e.va e.srcMod e.agent ((stagedSort (s.staged.filter mine)).map (fun x => (x.aop, x.val))) with
      | .error s1 => .error s1
      | .ok s1 => State.applyStaged who p fuel { s1 with staged := s1.staged.filter (fun x => !mine x) }

/-- Every staged entry of a kernel. -/
def State.applyAll (s : State) (who : Requester) (kid : Word) : Upd :=
  State.applyStaged who (fun e => e.kid == kid) (s.staged.length + 1) s

/-! ### Arrival at the engine -/

/-- The address of lane l (R370). -/
def accAddr (base : Dword) (idx : Vec) (aop l : Nat) : Nat :=
  let a := (base.toNat + (lane 32 idx l).toNat * accSize aop) % 2 ^ 64
  a - a % accSize aop

/-- The lanes of a mask (R84). -/
def accLanes (act : Mask) : List Nat := (List.range 64).filter (fun l => act.getLsbD (4 * l))

/-- The mask without some lanes. -/
def dropLanes (act : Mask) (l : List Nat) : Mask := packMask (fun j => act.getLsbD j && !l.contains (j / 4))

/-- One merged update after another; an update that waits keeps its lanes in the element (R371, R377). -/
def State.accRun (c : Nat) (e : Elem) (base : Dword) (idx val : Vec) (aop : Nat) (ord : Bool) (asid : Nat) :
    Nat → Mask → State → State × Mask
  | 0, act, s => (s, act)
  | fuel + 1, act, s =>
    match accLanes act with
    | [] => (s, act)
    | l0 :: t =>
      let a := accAddr base idx aop l0
      let group := t.filter (fun l => accAddr base idx aop l == a)
      let u := group.foldl (fun v l => combine aop v (accWiden aop (lane 32 val l))) (accWiden aop (lane 32 val l0))
      let who := Requester.acc c
      let r := if ord
        then s.stage who ⟨e.kid, a, 0, asid, s.modNum.toNat, e.src, e.src, aop, u, 0, []⟩
        else s.applyRun who e.kid asid a s.modNum.toNat e.src [(aop, u)]
      match r with
      | .error s1 => (s1, act)
      | .ok s1 => State.accRun c e base idx val aop ord asid fuel (dropLanes act (l0 :: group)) s1

/-- ACCUMULATE_ARRIVAL (R368, R371 to R373): the engine takes the oldest update element of core c. -/
def State.accArrival (s : State) (c : Nat) : State :=
  match ((s.core c).fifo accQueue).els with
  | [] => s
  | e :: rest => match e.pay with
    | .acc base idx val act aop ord =>
      let asid := match s.kernel e.kid with
        | some k => k.asid
        | none => 0
      let r := State.accRun c e base idx val aop ord asid 64 act s
      let els := if (accLanes r.2).isEmpty then rest else { e with pay := .acc base idx val r.2 aop ord } :: rest
      (r.1.updCore c (fun k => k.setFifo accQueue els)).moved (c / 4)
    | _ => s

/-- SFLUSH_ARRIVAL (R375): the oldest element of core c is a flush. As it reaches the homes it marks what is staged
there; it is complete when all of that, and nothing staged later, has been applied. -/
def State.flushArrival (s : State) (c : Nat) : State :=
  match ((s.core c).fifo accQueue).els with
  | [] => s
  | e :: rest =>
    let work (s : State) : State :=
      match State.applyStaged (.acc c) (fun x => x.kid == e.kid && x.due.contains c) (s.staged.length + 1) s with
      | .error s1 => s1
      | .ok s1 => (s1.updCore c (fun k => k.setFifo accQueue rest)).moved (c / 4)
    match e.pay with
    | .flush => work
        { (s.updCore c (fun k => k.setFifo accQueue ({ e with pay := .flushing } :: rest))) with
          staged := s.staged.map (fun x => if x.kid == e.kid then { x with due := insertSorted c x.due } else x) }
    | .flushing => work s
    | _ => s

end Sys2Proof.Machine
end

