-- ==== Sys2Proof/Machine/Sweep.lean ====
section
/-!
DEFINITION. Page-major attention (R379 to R397): subscriptions, the passes of a sweep, landing and
descriptors, the merge buffer with the combine of R163, and the slot-7 instructions of R393.
-/
namespace Sys2Proof.Machine

/-! ### The online-softmax combine (R163) -/

def negInf : Nat := 0xFF800000
def Partial.empty : Partial := ⟨.ofNat 32 negInf, 0, 0⟩

def fmul (a b : Nat) : Nat := (fpMul fp32 0 0 a b).bits
def ffma (a b d : Nat) : Nat := (fpFma fp32 0 0 a b d).bits
def fexp2 (a : Nat) : Nat := (fpSpecial 0 0 0 a).bits

/-- Partial 1 accumulated, partial 2 added (R163). -/
def Partial.combine (p q : Partial) : Partial :=
  let m1 := p.m.toNat
  let m2 := q.m.toNat
  if m1 = negInf ∧ m2 = negInf then .empty
  else
    let m := if (fp32.decode m1).isNaN || (fp32.decode m2).isNaN then fp32.nanBits else fpMinMax true m1 m2
    let a := fexp2 (fpSub fp32 0 0 m1 m).bits
    let b := fexp2 (fpSub fp32 0 0 m2 m).bits
    let mix (x y : Nat) : Nat := ffma x a (fmul y b)
    ⟨.ofNat 32 m, .ofNat 32 (mix p.l.toNat q.l.toNat),
     packLanes 32 64 (fun i => .ofNat 32 (mix (lane 32 p.o i).toNat (lane 32 q.o i).toNat))⟩

/-! ### Query slots and the merge buffer's entries -/

def Core.slot (k : Core) (n : Nat) : Option QSlot := (k.slots[n]?).getD none
def Core.setSlot (k : Core) (n : Nat) (q : Option QSlot) : Core := { k with slots := k.slots.setIfInBounds n q }

/-- Entries of cluster cl's merge buffer that are neither reserved nor taken (R389). -/
def State.poolFree (s : State) (cl : Nat) : Nat :=
  2048 - ((List.range 4).foldl (fun a j => (s.core (4 * cl + j)).slots.toList.foldl (fun a q => match q with
    | some x => a + x.reserved + x.waiting.length
    | none => a) a) 0)

/-- The pages of a query in the main pass, or in the catch-up pass (R384). -/
def SweepQuery.passPages (q : SweepQuery) (catchup : Bool) : List Nat :=
  q.order.filter (fun p => decide (p / 64 < q.boundary) == catchup)

def State.findSweep (s : State) (kid : Word) (swid : Nat) : Option Sweep :=
  s.sweeps.find? (fun w => w.kid == kid && w.swid == swid)
def State.updSweep (s : State) (kid : Word) (swid : Nat) (f : Sweep → Sweep) : State :=
  { s with sweeps := s.sweeps.map (fun w => if w.kid == kid && w.swid == swid then f w else w) }

/-- The pages of a pass, ascending, each once (R385). -/
def Sweep.passOf (w : Sweep) (catchup : Bool) : List Nat :=
  w.members.foldl (fun a q => (q.passPages catchup).foldl (fun a p => insertSorted p a) a) []
/-- The pages of a pass that are not issued. -/
def Sweep.remaining (w : Sweep) (catchup : Bool) : List Nat :=
  (w.passOf catchup).filter (fun p => !(w.done catchup).contains p)

/-- Sweeps that are CLOSED are forgotten (R380). -/
def State.closeSweeps (s : State) : State :=
  { s with sweeps := s.sweeps.filter (fun w =>
      !(w.st == .catchup && (w.remaining true).isEmpty && w.flying.isEmpty && w.members.all (·.ended) &&
        !s.cores.toList.any (fun k => k.lands.toList.any (fun b => b.refs != 0 && b.kid == w.kid && b.swid == w.swid)))) }

/-! ### Descriptors (R388) -/

def rBusy : Nat := 1
def rTooLate : Nat := 2
def rNoSpace : Nat := 3
def rMismatch : Nat := 4
def rBadCard : Nat := 5
def rBadList : Nat := 6
def rBadPage : Nat := 7

def State.descriptor (s : State) (c : Nat) (kid : Word) (w : Nat) : State :=
  (s.putElem c 9 ⟨kid, .word (.ofNat 32 w), 0, engineSrc⟩).moved (c / 4)
def refusedWord (slot reason : Nat) : Nat := 2 ^ 30 + slot * 2 ^ 20 + reason

/-! ### Subscription (R381 to R384) -/

/-- The query of number no leaves its slot, if it still holds it (R382, R383). -/
def Core.freeSlot (k : Core) (slot no : Nat) : Core :=
  match k.slot slot with
  | some q => if q.no = no then k.setSlot slot none else k
  | none => k

/-- BAD_PAGE: the sweep is aborted (R382). -/
def State.abortSweep (s : State) (w : Sweep) : State :=
  let s1 := w.members.foldl (fun s q => (s.updCore q.core (fun k => k.freeSlot q.slot q.no)).descriptor q.core w.kid
    (refusedWord q.slot rBadPage)) s
  { s1 with sweeps := s1.sweeps.filter (fun x => !(x.kid == w.kid && x.swid == w.swid)) }

/-- NSUB subscriptions have been accepted (R380). -/
def Sweep.full (w : Sweep) : Bool := decide (w.nsub ≤ w.counted)

/-- The transition to MAIN once NSUB subscriptions are accepted (R380, R382). -/
def State.toMain (s : State) (w : Sweep) : State :=
  if w.st ≠ .opened ∨ ¬ w.full then s
  else
    let room := w.members.all (fun q =>
      decide ((w.members.filter (fun x => x.core == q.core)).length ≤ (s.core q.core).room 9))
    let r : WalkRequest := ⟨w.ptab, w.asid, 1, w.kid.toNat, noCore w.pn⟩
    -- a sweep whose descriptors find no room is not aborted yet, and a failure stands until then
    let abort (t : State) : State := if room then t.abortSweep w else s
    match s.openSpan r (8 * w.npage) (.sweep w.kid w.swid (2 ^ 20)) with
    | .wait s1 => s1
    | .fail s1 => abort s1
    | .refused s1 => abort s1
    | .ready s1 =>
      let l := s1.vread r (8 * w.npage)
      let pages := (List.range w.npage).map (fun p => ofBytesLE ((l.drop (8 * p)).take 8))
      let ok (v : Nat) : Bool := v % 256 == 0 && nbits v 54 10 == s.modNum.toNat && decide (nbits v 50 4 < 8) &&
        (s.part w.pn).stackSet.getLsbD (nbits v 50 4)
      if s1.vbad r (8 * w.npage) || !pages.all ok then abort s1
      else s1.updSweep w.kid w.swid (fun x => { x with st := .main, pages := pages })

/-- The join boundary J (R384). -/
def Sweep.boundary (w : Sweep) : Nat :=
  match w.issued with
  | [] => 0
  | l => l.foldl Nat.max 0 / 64 + 1

/-- Runs that hold a page of a list, each once. -/
def runsOf (l : List Nat) : List Nat := l.foldl (fun a p => insertSorted (p / 64) a) []

/-- The sweep card at address a as kernel kid's engine reads it; none when it cannot be read (R381, R382). -/
def State.sweepCard (s : State) (c : Nat) (kid : Word) (a : Nat) : Option (BitVec 512) :=
  let words := [a, a + 16, a + 32, a + 48]
  if words.any (fun w => !(s.core c).readable kid w || s.wordTag c kid w == 3) then none
  else some (.ofNat 512 (ofBytesLE (words.flatMap (fun w => bytesLE 16 (s.padRead c kid w 16)))))

/-- SUBSCRIPTION (R381 to R384, R394): the oldest sweep card of core c, read once. -/
def State.subscription (s0 : State) (c : Nat) : State :=
  match (s0.core c).subs with
  | [] => s0
  | e :: rest => match e.pay with
    | .sub aw slot join =>
      let kid := e.kid
      let card := ((s0.core c).subCard).getD (s0.sweepCard c kid aw.toNat)
      let s := s0.updCore c (fun k => { k with subCard := some card })
      let k := s.core c
      let x := (card.getD 0).toNat
      let f (b n : Nat) : Nat := nbits x (8 * b) (8 * n)
      let swid := f 3 1
      let npage := f 8 4
      let nsub := f 12 2
      let nlist := f 32 4
      let land := f 36 4
      let badCard := card.isNone || f 0 1 != 9 || (f 1 1 != 0 && f 1 1 != 2) || decide (128 ≤ f 2 1) || decide (2 < f 4 1) ||
        f 5 1 != 0 || f 6 2 == 0 || decide (128 < f 6 2) || npage == 0 || decide (2 ^ 20 < npage) || nsub == 0 ||
        decide (4096 < nsub) || f 14 2 != 0 || nlist == 0 || decide (npage < nlist) || land % 32768 != 0 ||
        decide (0x03FC0000 < land) || f 40 24 != 0
      let sw := s.findSweep kid swid
      let late : Bool := match sw with
        | none => false
        | some w => match w.st with
          | .opened => w.full && !join
          | .main => !join
          | .catchup => true
      let mismatch : Bool := match sw with
        | none => false
        | some w => w.fmt != f 4 1 || w.pb != f 6 2 || w.npage != npage || w.nsub != nsub || w.ptab != f 16 8 ||
          w.lands.any (fun l => l.1 == c && l.2 != land)
      let asid := match s.kernel kid with
        | some n => n.asid
        | none => 0
      let take (s : State) : State := s.updCore c (fun k => { k with subs := rest, subCard := none })
      -- a refusal whose descriptor finds no room is not made yet, and a failure stands until then
      let refuse (t : State) (r : Nat) : State :=
        if (s.core c).room 9 = 0 then s else (take t).descriptor c kid (refusedWord slot r)
      if badCard then refuse s rBadCard
      else if (k.slot slot).isSome then refuse s rBusy
      else if late then refuse s rTooLate
      else if mismatch then refuse s rMismatch
      else
        let r : WalkRequest := ⟨f 24 8, asid, 1, kid.toNat, c⟩
        match s.openSpan r (4 * nlist) (.sweepCard c) with
        | .wait s1 => s1
        | .fail s1 => refuse s1 rBadList
        | .refused s1 => refuse s1 rBadList
        | .ready s1 =>
          let l := s1.vread r (4 * nlist)
          let pages := (List.range nlist).map (fun p => ofBytesLE ((l.drop (4 * p)).take 4))
          let rising := (pages.zip (pages.drop 1)).all (fun p => decide (p.1 < p.2))
          if s1.vbad r (4 * nlist) || !rising || pages.any (fun p => decide (npage ≤ p)) then refuse s1 rBadList
          else
            let inMain : Bool := match sw with
              | some w => w.st == .main || w.full
              | none => false
            let J : Nat := match sw with
              | some w => if inMain then w.boundary else 0
              | none => 0
            let need := 2 + (if inMain then ((runsOf pages).filter (fun n => decide (J ≤ n))).length else 0)
            if s1.poolFree (c / 4) < need then refuse s1 rNoSpace
            else
              let q : QSlot := ⟨kid, swid, s.tick, pages.filter (fun p => decide (J ≤ p / 64)) ++
                pages.filter (fun p => decide (p / 64 < J)), J, need,
                if f 1 1 = 2 then some (f 2 1) else none, 0, [], [], none, [], false, false, false⟩
              let w0 : Sweep := sw.getD ⟨kid, swid, s1.corePart c, asid, .opened, f 4 1, f 6 2, npage, nsub, f 16 8,
                0, [], [], [], [], [], []⟩
              let w1 : Sweep := { w0 with
                counted := if join then w0.counted else w0.counted + 1
                members := w0.members ++ [⟨c, slot, s.tick, pages, J, false⟩]
                lands := if w0.lands.any (fun l => l.1 == c) then w0.lands else w0.lands ++ [(c, land)] }
              let s2 := (take s1).updCore c (fun k => k.setSlot slot (some q))
              let others := s2.sweeps.filter (fun x => !(x.kid == kid && x.swid == swid))
              let s3 : State := { s2 with sweeps := others ++ [w1] }
              (s3.toMain w1).moved (c / 4)
    | _ => s0

/-! ### Issue and landing (R385 to R387) -/

/-- The queries that take the page in this pass, and their cores (R385). -/
def Sweep.takers (w : Sweep) (p : Nat) (catchup : Bool) : List SweepQuery :=
  w.members.filter (fun q => (q.passPages catchup).contains p)
def Sweep.pageTargets (w : Sweep) (p : Nat) (catchup : Bool) : List Nat :=
  (w.takers p catchup).foldl (fun a q => insertSorted q.core a) []

/-- Once every page of the main pass is issued the sweep is in CATCHUP (R380). -/
def State.enterCatchup (s : State) (kid : Word) (swid : Nat) : State :=
  match s.findSweep kid swid with
  | some w => if w.st = .main ∧ (w.remaining false).isEmpty then
      (s.updSweep kid swid (fun x => { x with st := .catchup })).closeSweeps else s
  | none => s

/-- PAGE_ISSUE (R385, R386): the engine of the page's stack reads it, if the page's turn has come. -/
def State.pageIssue (s : State) (kid : Word) (swid p : Nat) : State :=
  match s.findSweep kid swid with
  | none => s
  | some w => match w.st with
    | .opened => s.toMain w
    | st =>
      let catchup := st == .catchup
      let left := w.remaining catchup
      let va := w.pages.getD p 0
      let stack (q : Nat) : Nat := nbits (w.pages.getD q 0) 50 3
      if ¬ left.contains p ∨ left.any (fun q => decide (q < p) && stack q == stack p) ∨
        left.any (fun q => decide (q + 64 < p)) then s
      else
        let n := w.pb * 256
        let r : WalkRequest := ⟨va, w.asid, 1, kid.toNat, noCore w.pn⟩
        let issue (s : State) (l : List Byte) (bad : List Nat) : State :=
          (s.updSweep kid swid (fun x => { x with
            issued := if catchup then x.issued else p :: x.issued
            again := if catchup then p :: x.again else x.again
            flying := x.flying ++ [⟨p, catchup, l, bad, w.pageTargets p catchup, []⟩] })).enterCatchup kid swid
        match s.openSpan r n (.sweep kid swid p) with
        | .wait s1 => s1
        | .fail s1 => issue s1 (List.replicate n 0) (List.range (n / 16))
        | .refused s1 => issue s1 (List.replicate n 0) (List.range (n / 16))
        | .ready s1 => issue s1 (s1.vread r n)
            ((List.range (n / 16)).filter (fun i => s1.vbad { r with va := va + 16 * i } 16))

/-- Pages destined for core c in a pass that have not landed there. -/
def Sweep.unlanded (w : Sweep) (c : Nat) (catchup : Bool) : List Nat :=
  let mine := w.members.foldl (fun a q =>
    if q.core = c then (q.passPages catchup).foldl (fun a p => insertSorted p a) a else a) []
  mine.filter (fun p => !(w.done catchup).contains p ||
    w.flying.any (fun f => f.page == p && f.catchup == catchup && f.targets.contains c))

/-- The page that lands next on core c, with its pass (R387). -/
def Sweep.nextPage (w : Sweep) (c : Nat) : Option (Nat × Bool) :=
  match w.unlanded c false, w.unlanded c true with
  | p :: _, _ => some (p, false)
  | [], p :: _ => some (p, true)
  | [], [] => none

/-- A page in flight is changed. -/
def State.updFlying (s : State) (w : Sweep) (f : Flying) (g : Flying → Option Flying) : State :=
  s.updSweep w.kid w.swid (fun x => { x with flying := x.flying.filterMap (fun y =>
    if y.page == f.page && y.catchup == f.catchup then g y else some y) })

/-- A page begins to land in a free buffer (R387): its words are inbound writes (R243). -/
def State.landPage (s : State) (w : Sweep) (f : Flying) (c b : Nat) : State :=
  let at_ := ((w.lands.find? (fun l => l.1 == c)).map (·.2)).getD 0 + 32768 * b
  let e := (List.range w.pb).foldl (fun (acc : State × Nat) i =>
    let bad := (List.range 256).map (fun j => f.badWords.contains (16 * i + j / 16))
    let r := acc.1.padLine w.kid (.landing c w.kid w.swid) [] c (at_ + 256 * i) ((f.bytes.drop (256 * i)).take 256) bad
    (r.1, acc.2 + r.2)) (s, 0)
  let ue := f.badWords.any (fun i => (s.core c).engineWritable w.kid (at_ + 16 * i))
  e.1.updFlying w f (fun y => some { y with landing := y.landing ++ [⟨c, b, ue, decide (e.2 < 256 * w.pb)⟩] })

/-- Numbers in ascending order, each as often as it comes. -/
def insertAsc (n : Nat) : List Nat → List Nat
  | [] => [n]
  | m :: t => if m ≤ n then m :: insertAsc n t else n :: m :: t

/-- Every write of the page is complete: a descriptor and a reference for each accepted query (R387, R388). -/
def State.pageLanded (s : State) (w : Sweep) (f : Flying) (l : Landing) : State :=
  let slots := ((w.takers f.page f.catchup).filter (fun q => q.core == l.core)).foldl (fun a q => insertAsc q.slot a) []
  if (s.core l.core).room 9 < slots.length then s
  else
    let s1 := s.landed (.landing l.core w.kid w.swid)
    let s2 := s1.updCore l.core (fun k => { k with lands := k.lands.setIfInBounds l.buf ⟨slots.length, w.kid, w.swid⟩ })
    let base := (if l.ue then 2 ^ 29 else 0) + (if l.rf then 2 ^ 28 else 0) + (if f.catchup then 2 ^ 27 else 0) +
      l.buf * 2 ^ 24 + f.page
    let s3 := slots.foldl (fun s n => s.descriptor l.core w.kid (base + n * 2 ^ 20)) s2
    s3.updFlying w f (fun y =>
      let t := y.targets.erase l.core
      if t.isEmpty then none else some { y with targets := t, landing := y.landing.filter (fun x => x.core != l.core) })

/-- A landing buffer of core c that carries no reference and into which no page lands. -/
def State.freeBuffer (s : State) (c : Nat) : Option Nat :=
  (List.range 8).find? (fun b => (match (s.core c).lands[b]? with
    | some x => x.refs == 0
    | none => false) &&
    !s.sweeps.any (fun w => w.flying.any (fun f => f.landing.any (fun l => l.core == c && l.buf == b))))

/-- PAGE_LANDING (R387): the next page of the sweep begins to land on core c, if it has been read and a buffer is
free; once it lands, its landing is completed. -/
def State.pageLanding (s : State) (kid : Word) (swid c : Nat) : State :=
  match s.findSweep kid swid with
  | none => s
  | some w => match w.nextPage c with
    | none => s
    | some (p, cu) =>
      match w.flying.find? (fun f => f.page == p && f.catchup == cu && f.targets.contains c) with
      | none => s
      | some f => match f.landing.find? (fun l => l.core == c) with
        | some l => s.pageLanded w f l
        | none => match s.freeBuffer c with
          | some b => s.landPage w f c b
          | none => s

/-! ### Partials and results (R390, R391) -/

/-- The result word (R396). -/
def QSlot.resultWord (q : QSlot) (slot : Nat) : Word :=
  .ofNat 32 ((if q.ue then 2 ^ 31 else 0) + (if q.st then 2 ^ 30 else 0) + (if q.boundary ≠ 0 then 2 ^ 29 else 0) +
    slot * 2 ^ 20 + Nat.min q.order.length 0xFFFFF)

/-- The next accepted partial enters the run accumulator; a finished run is set aside (R390). -/
def QSlot.step (q : QSlot) : Option QSlot :=
  match q.order[q.next]? with
  | none => none
  | some p => match q.waiting.find? (fun e => e.1 == p) with
    | none => none
    | some (_, x) =>
      let acc := (q.acc.getD .empty).combine (x.getD .empty)
      let ends := match q.order[q.next + 1]? with
        | some p2 => p2 / 64 != p / 64
        | none => true
      some { q with
        next := q.next + 1
        waiting := q.waiting.filter (fun e => e.1 != p)
        ue := q.ue || x.isNone
        acc := if ends then none else some acc
        runs := if ends then q.runs ++ [(p / 64, some acc)] else q.runs }

/-- Runs in ascending order, combined (R390). -/
def QSlot.total (q : QSlot) : Partial :=
  let low := q.runs.filter (fun r => decide (r.1 < q.boundary))
  let high := q.runs.filter (fun r => decide (q.boundary ≤ r.1))
  (low ++ high).foldl (fun t r => t.combine (r.2.getD .empty)) .empty

/-- PARTIAL_COMBINE (R390, R391). -/
def State.partialCombine (s : State) (c slot : Nat) : State :=
  match (s.core c).slot slot with
  | none => s
  | some q => match q.step with
    | none => s
    | some q1 =>
      if q1.next < q1.order.length then s.updCore c (fun k => k.setSlot slot (some q1))
      else if (s.core c).room 10 = 0 then s
      else
        let t := q1.total
        let s1 := (s.updCore c (fun k => k.setSlot slot (some { q1 with merged := true }))).putElem c 10
          ⟨q.kid, .merged t.o t.m t.l (q1.resultWord slot) q1.no, if q1.ue then 3 else 0, engineSrc⟩
        let s2 := ((s1.updSweep q.kid q.swid (fun w => { w with members := w.members.map (fun m =>
          if m.core = c ∧ m.slot = slot ∧ m.no = q.no then { m with ended := true } else m) })).moved (c / 4)).closeSweeps
        match q.bar with
        | some b => s2.arrive c b q.kid
        | none => s2

/-- A stray partial marks its query's result (R391). -/
def State.markStray (s : State) (c slot : Nat) (q : QSlot) : State :=
  s.updCore c (fun k =>
    let k1 := k.setSlot slot (some { q with st := true })
    k1.setFifo 10 ((k1.fifo 10).els.map (fun e => match e.pay with
      | .merged o m l r no =>
        if e.kid = q.kid ∧ bits r 20 4 = slot ∧ no = q.no then { e with pay := .merged o m l (r ||| 0x40000000) no } else e
      | _ => e)))

/-- A partial reaches the merge buffer; none marks a damaged page (R391, R395). -/
def State.placePartial (s : State) (c : Nat) (kid key : Word) (x : Option Partial) : State :=
  let slot := bits key 20 4
  let page := bits key 0 20
  match (s.core c).slot slot with
  | none => s
  | some q =>
    if q.kid ≠ kid then s
    else if ¬ q.order.contains page ∨ q.accepted.contains page then s.markStray c slot q
    else s.updCore c (fun k => k.setSlot slot (some { q with
      waiting := q.waiting ++ [(page, x)]
      accepted := page :: q.accepted }))

/-! ### Instructions (R393 to R397) -/

/-- An unpinned cairn (R393). -/
def Ctx.unpinned (x : Ctx) : Bool :=
  match x.s.running x.c with
  | some (_, q) => decide (q.pin < 4)
  | none => false
/-- OPERAND_FORMAT for an unpinned cairn (R393). -/
def pinned (x : Ctx) (o : SlotOut) : SlotOut :=
  if x.unpinned then { o with res := .trap trOperandFormat 0xFFFFFFFF } else o

/-- `swsub` and `swjoin` (R394). -/
def subscribeOut (join : Bool) (qx : BitVec 5) (sx : BitVec 6) (n : BitVec 4) (x : Ctx) : SlotOut :=
  let v := x.rs sx
  let o := pinned x (pushOut x (idS sx) agSweep 9 true (if v.tag ≠ 0 then some trPoisonAddress else none) true
    (fun s => s.updCore x.c (fun k => { k with
      subs := k.subs ++ [⟨x.kid, .sub (.ofNat 32 (v.val.toNat / 64 * 64)) n.toNat join, 0, x.c⟩] })))
  served (qx == 9) qx.toNat o

def semSwsub := subscribeOut false
def semSwjoin := subscribeOut true

def semSwpop (sx : BitVec 6) (x : Ctx) : SlotOut :=
  pinned x (popOut x [] (dstS sx) [.sPort 5]
    ((x.k.headOf 9 x.kid).map (fun e => ⟨3, 0, 0, e.word, .zero, .zero⟩))
    (fun s => s.takeElem x.c 9 x.kid) (fun r => slot7Res sx 2 r.w0))

def semSwdone (sx : BitVec 6) (x : Ctx) : SlotOut :=
  let v := x.rs sx
  pinned x (pushOut x (idS sx) agSweep 9 true (if v.tag ≠ 0 then some trPoisonStore else none) true
    (fun s => (s.updCore x.c (fun k =>
      let b := bits v.val 24 3
      match k.lands[b]? with
      | some l => { k with lands := k.lands.setIfInBounds b (if l.refs ≤ 1 then ⟨0, 0, 0⟩ else { l with refs := l.refs - 1 }) }
      | none => k)).closeSweeps))

def semMgpush (v : BitVec 5) (m : BitVec 3) (x : Ctx) : SlotOut :=
  let k2 := x.rs 50
  let k3 := x.rs 51
  let k6 := x.rs 54
  let p := x.rv v
  let N := x.rm m.toNat
  let act := (List.range 64).filter (actW 4 N)
  let dmg := k6.val.getLsbD 29
  let poisoned := k6.tag != 0 || (!dmg && (k2.tag != 0 || k3.tag != 0 ||
    act.any (fun l => ltag p.tags l != 0 || mtag N.tags (4 * l) != 0)))
  let part : Option Partial := if dmg then none else
    some ⟨k2.val, k3.val, packLanes 32 64 (fun l => if N.bits.getLsbD (4 * l) then lane 32 p.val l else 0)⟩
  pinned x (pushOut x (.s 54 :: (if dmg then [] else idV v ++ idM m.toNat ++ [.s 50, .s 51])) agMerge 10 true
    (if poisoned then some trPoisonStore else none) (decide (0 < x.s.poolFree (x.c / 4)))
    (fun s => s.placePartial x.c x.kid k6.val part))

def semMgpop (v : BitVec 5) (m : BitVec 3) (x : Ctx) : SlotOut :=
  let N := x.rm m.toNat
  let head := x.k.headOf 10 x.kid
  let rec? : Option PopRec := match head with
    | some e => match e.pay with
      | .merged o m l r _ => some ⟨4, o, e.tag, ⟨m, e.tag⟩, ⟨l, e.tag⟩, ⟨r, 0⟩⟩
      | _ => none
    | none => none
  pinned x (popOut x (idM m.toNat) (dstV v ++ [.s 50, .s 51, .s 54]) [] rec?
    (fun s =>
      let s1 := s.takeElem x.c 10 x.kid
      match head with
      | some ⟨_, .merged _ _ _ r no, _, _⟩ => s1.updCore x.c (fun k => k.freeSlot (bits r 20 4) no)
      | _ => s1)
    (fun r => (dstV v).map (fun d => ⟨2, d, .vec r.vec
        (laneTags 1 (actW 1 N) (fun i => Tag.max r.vtag (mtag N.tags i))) (enOf 1 (actW 1 N))⟩) ++
      [⟨2, .s 50, .word r.w0.val r.w0.tag⟩, ⟨2, .s 51, .word r.w1.val r.w1.tag⟩, ⟨2, .s 54, .word r.w2.val r.w2.tag⟩]))

end Sys2Proof.Machine
end

