-- ==== Sys2Proof/Machine/ExecStream.lean ====
section
/-!
DEFINITION. Slot 7 (R111, R343 to R396).
Each instruction is its slot operation, issued in a bundle of its own.
-/
namespace Sys2Proof.Machine

/-- SPUSH (R343). -/
def opSpush (g : BitVec 4) (qx : BitVec 5) (sx : BitVec 6) : SlotOp :=
  .plain 7 (qIn qx) g (semSpush qx sx)
def execSpush (g : BitVec 4) (qx : BitVec 5) (sx : BitVec 6) (s : State) : Out := issueLone (opSpush g qx sx) true false s

/-- SPUSHV (R343). -/
def opSpushv (g : BitVec 4) (qx v : BitVec 5) (m : BitVec 3) : SlotOp :=
  .plain 7 (qIn qx) g (semSpushv qx v m)
def execSpushv (g : BitVec 4) (qx v : BitVec 5) (m : BitVec 3) (s : State) : Out := issueLone (opSpushv g qx v m) true false s

/-- SPOP (R344). -/
def opSpop (g : BitVec 4) (qx : BitVec 5) (sx : BitVec 6) : SlotOp :=
  .plain 7 (qIn qx && sDst sx) g (semSpop qx sx)
def execSpop (g : BitVec 4) (qx : BitVec 5) (sx : BitVec 6) (s : State) : Out := issueLone (opSpop g qx sx) true false s

/-- SPOPV (R344). -/
def opSpopv (g : BitVec 4) (qx v : BitVec 5) (m : BitVec 3) : SlotOp :=
  .plain 7 (qIn qx && vDst v) g (semSpopv qx v m)
def execSpopv (g : BitVec 4) (qx v : BitVec 5) (m : BitVec 3) (s : State) : Out := issueLone (opSpopv g qx v m) true false s

/-- SCARD (R346). -/
def opScard (g : BitVec 4) (qx : BitVec 5) (sx : BitVec 6) : SlotOp :=
  .plain 7 (qIn qx) g (semScard qx sx)
def execScard (g : BitVec 4) (qx : BitVec 5) (sx : BitVec 6) (s : State) : Out := issueLone (opScard g qx sx) true false s

/-- SROUTE (R348). -/
def opSroute (g : BitVec 4) (qx : BitVec 5) (sx : BitVec 6) (c : BitVec 10) : SlotOp :=
  .plain 7 (qIn qx) g (semSroute qx sx c)
def execSroute (g : BitVec 4) (qx : BitVec 5) (sx : BitVec 6) (c : BitVec 10) (s : State) : Out := issueLone (opSroute g qx sx c) true false s

/-- SSTAT (R347). -/
def opSstat (g : BitVec 4) (qx : BitVec 5) (sx : BitVec 6) : SlotOp :=
  .plain 7 (qIn qx && sDst sx) g (semSstat qx sx)
def execSstat (g : BitVec 4) (qx : BitVec 5) (sx : BitVec 6) (s : State) : Out := issueLone (opSstat g qx sx) true false s

/-- SACC (R370). -/
def opSacc (g : BitVec 4) (i v : BitVec 5) (o : BitVec 4) (m : BitVec 3) (d : BitVec 1) : SlotOp :=
  .plain 7 (o.ult 7) g (semSacc i v o m d)
def execSacc (g : BitVec 4) (i v : BitVec 5) (o : BitVec 4) (m : BitVec 3) (d : BitVec 1) (s : State) : Out := issueLone (opSacc g i v o m d) true false s

/-- SFLUSH (R375). -/
def opSflush (g : BitVec 4) : SlotOp :=
  .plain 7 true g (semSflush)
def execSflush (g : BitVec 4) (s : State) : Out := issueLone (opSflush g) true false s

/-- SWSUB (R394). -/
def opSwsub (g : BitVec 4) (qx : BitVec 5) (sx : BitVec 6) (n : BitVec 4) : SlotOp :=
  .plain 7 (qIn qx) g (semSwsub qx sx n)
def execSwsub (g : BitVec 4) (qx : BitVec 5) (sx : BitVec 6) (n : BitVec 4) (s : State) : Out := issueLone (opSwsub g qx sx n) true false s

/-- SWJOIN (R394). -/
def opSwjoin (g : BitVec 4) (qx : BitVec 5) (sx : BitVec 6) (n : BitVec 4) : SlotOp :=
  .plain 7 (qIn qx) g (semSwjoin qx sx n)
def execSwjoin (g : BitVec 4) (qx : BitVec 5) (sx : BitVec 6) (n : BitVec 4) (s : State) : Out := issueLone (opSwjoin g qx sx n) true false s

/-- SWPOP (R394). -/
def opSwpop (g : BitVec 4) (sx : BitVec 6) : SlotOp :=
  .plain 7 (sDst sx) g (semSwpop sx)
def execSwpop (g : BitVec 4) (sx : BitVec 6) (s : State) : Out := issueLone (opSwpop g sx) true false s

/-- SWDONE (R394). -/
def opSwdone (g : BitVec 4) (sx : BitVec 6) : SlotOp :=
  .plain 7 true g (semSwdone sx)
def execSwdone (g : BitVec 4) (sx : BitVec 6) (s : State) : Out := issueLone (opSwdone g sx) true false s

/-- MGPUSH (R395). -/
def opMgpush (g : BitVec 4) (v : BitVec 5) (m : BitVec 3) : SlotOp :=
  .plain 7 true g (semMgpush v m)
def execMgpush (g : BitVec 4) (v : BitVec 5) (m : BitVec 3) (s : State) : Out := issueLone (opMgpush g v m) true false s

/-- MGPOP (R396). -/
def opMgpop (g : BitVec 4) (v : BitVec 5) (m : BitVec 3) : SlotOp :=
  .plain 7 (vDst v) g (semMgpop v m)
def execMgpop (g : BitVec 4) (v : BitVec 5) (m : BitVec 3) (s : State) : Out := issueLone (opMgpop g v m) true false s

end Sys2Proof.Machine
end

