-- ==== Sys2Proof/Machine/ExecVector.lean ====
section
/-!
DEFINITION. Slots 4 and 5 (R109, R252 to R288).
Each instruction is its slot operation, issued in a bundle of its own.
-/
namespace Sys2Proof.Machine

/-- VADD (R252). -/
def opVadd (u : VUnit) (g : BitVec 4) (d a b : BitVec 5) (m x : BitVec 3) : SlotOp :=
  .plain u.slot (Instr.vadd u g d a b m x).wf g (semVadd u d a b m x)
def execVadd (u : VUnit) (g : BitVec 4) (d a b : BitVec 5) (m x : BitVec 3) (s : State) : Out := issueLone (opVadd u g d a b m x) true false s

/-- VSUB (R252). -/
def opVsub (u : VUnit) (g : BitVec 4) (d a b : BitVec 5) (m x : BitVec 3) : SlotOp :=
  .plain u.slot (Instr.vsub u g d a b m x).wf g (semVsub u d a b m x)
def execVsub (u : VUnit) (g : BitVec 4) (d a b : BitVec 5) (m x : BitVec 3) (s : State) : Out := issueLone (opVsub u g d a b m x) true false s

/-- VMUL (R252). -/
def opVmul (u : VUnit) (g : BitVec 4) (d a b : BitVec 5) (m x : BitVec 3) : SlotOp :=
  .plain u.slot (Instr.vmul u g d a b m x).wf g (semVmul u d a b m x)
def execVmul (u : VUnit) (g : BitVec 4) (d a b : BitVec 5) (m x : BitVec 3) (s : State) : Out := issueLone (opVmul u g d a b m x) true false s

/-- VMULH (R252). -/
def opVmulh (u : VUnit) (g : BitVec 4) (d a b : BitVec 5) (m x : BitVec 3) : SlotOp :=
  .plain u.slot (Instr.vmulh u g d a b m x).wf g (semVmulh u d a b m x)
def execVmulh (u : VUnit) (g : BitVec 4) (d a b : BitVec 5) (m x : BitVec 3) (s : State) : Out := issueLone (opVmulh u g d a b m x) true false s

/-- VMAD (R253). -/
def opVmad (u : VUnit) (g : BitVec 4) (d a b : BitVec 5) (m x : BitVec 3) : SlotOp :=
  .plain u.slot (Instr.vmad u g d a b m x).wf g (semVmad u d a b m x)
def execVmad (u : VUnit) (g : BitVec 4) (d a b : BitVec 5) (m x : BitVec 3) (s : State) : Out := issueLone (opVmad u g d a b m x) true false s

/-- VMIN (R252). -/
def opVmin (u : VUnit) (g : BitVec 4) (d a b : BitVec 5) (m x : BitVec 3) : SlotOp :=
  .plain u.slot (Instr.vmin u g d a b m x).wf g (semVmin u d a b m x)
def execVmin (u : VUnit) (g : BitVec 4) (d a b : BitVec 5) (m x : BitVec 3) (s : State) : Out := issueLone (opVmin u g d a b m x) true false s

/-- VMAX (R252). -/
def opVmax (u : VUnit) (g : BitVec 4) (d a b : BitVec 5) (m x : BitVec 3) : SlotOp :=
  .plain u.slot (Instr.vmax u g d a b m x).wf g (semVmax u d a b m x)
def execVmax (u : VUnit) (g : BitVec 4) (d a b : BitVec 5) (m x : BitVec 3) (s : State) : Out := issueLone (opVmax u g d a b m x) true false s

/-- VMINU (R252). -/
def opVminu (u : VUnit) (g : BitVec 4) (d a b : BitVec 5) (m x : BitVec 3) : SlotOp :=
  .plain u.slot (Instr.vminu u g d a b m x).wf g (semVminu u d a b m x)
def execVminu (u : VUnit) (g : BitVec 4) (d a b : BitVec 5) (m x : BitVec 3) (s : State) : Out := issueLone (opVminu u g d a b m x) true false s

/-- VMAXU (R252). -/
def opVmaxu (u : VUnit) (g : BitVec 4) (d a b : BitVec 5) (m x : BitVec 3) : SlotOp :=
  .plain u.slot (Instr.vmaxu u g d a b m x).wf g (semVmaxu u d a b m x)
def execVmaxu (u : VUnit) (g : BitVec 4) (d a b : BitVec 5) (m x : BitVec 3) (s : State) : Out := issueLone (opVmaxu u g d a b m x) true false s

/-- VABS (R252). -/
def opVabs (u : VUnit) (g : BitVec 4) (d a : BitVec 5) (m x : BitVec 3) : SlotOp :=
  .plain u.slot (Instr.vabs u g d a m x).wf g (semVabs u d a m x)
def execVabs (u : VUnit) (g : BitVec 4) (d a : BitVec 5) (m x : BitVec 3) (s : State) : Out := issueLone (opVabs u g d a m x) true false s

/-- VAND (R252). -/
def opVand (u : VUnit) (g : BitVec 4) (d a b : BitVec 5) (m x : BitVec 3) : SlotOp :=
  .plain u.slot (Instr.vand u g d a b m x).wf g (semVand u d a b m x)
def execVand (u : VUnit) (g : BitVec 4) (d a b : BitVec 5) (m x : BitVec 3) (s : State) : Out := issueLone (opVand u g d a b m x) true false s

/-- VOR (R252). -/
def opVor (u : VUnit) (g : BitVec 4) (d a b : BitVec 5) (m x : BitVec 3) : SlotOp :=
  .plain u.slot (Instr.vor u g d a b m x).wf g (semVor u d a b m x)
def execVor (u : VUnit) (g : BitVec 4) (d a b : BitVec 5) (m x : BitVec 3) (s : State) : Out := issueLone (opVor u g d a b m x) true false s

/-- VXOR (R252). -/
def opVxor (u : VUnit) (g : BitVec 4) (d a b : BitVec 5) (m x : BitVec 3) : SlotOp :=
  .plain u.slot (Instr.vxor u g d a b m x).wf g (semVxor u d a b m x)
def execVxor (u : VUnit) (g : BitVec 4) (d a b : BitVec 5) (m x : BitVec 3) (s : State) : Out := issueLone (opVxor u g d a b m x) true false s

/-- VSHL (R252). -/
def opVshl (u : VUnit) (g : BitVec 4) (d a b : BitVec 5) (m x : BitVec 3) : SlotOp :=
  .plain u.slot (Instr.vshl u g d a b m x).wf g (semVshl u d a b m x)
def execVshl (u : VUnit) (g : BitVec 4) (d a b : BitVec 5) (m x : BitVec 3) (s : State) : Out := issueLone (opVshl u g d a b m x) true false s

/-- VSHR (R252). -/
def opVshr (u : VUnit) (g : BitVec 4) (d a b : BitVec 5) (m x : BitVec 3) : SlotOp :=
  .plain u.slot (Instr.vshr u g d a b m x).wf g (semVshr u d a b m x)
def execVshr (u : VUnit) (g : BitVec 4) (d a b : BitVec 5) (m x : BitVec 3) (s : State) : Out := issueLone (opVshr u g d a b m x) true false s

/-- VSAR (R252). -/
def opVsar (u : VUnit) (g : BitVec 4) (d a b : BitVec 5) (m x : BitVec 3) : SlotOp :=
  .plain u.slot (Instr.vsar u g d a b m x).wf g (semVsar u d a b m x)
def execVsar (u : VUnit) (g : BitVec 4) (d a b : BitVec 5) (m x : BitVec 3) (s : State) : Out := issueLone (opVsar u g d a b m x) true false s

/-- VCLZ (R252). -/
def opVclz (u : VUnit) (g : BitVec 4) (d a : BitVec 5) (m x : BitVec 3) : SlotOp :=
  .plain u.slot (Instr.vclz u g d a m x).wf g (semVclz u d a m x)
def execVclz (u : VUnit) (g : BitVec 4) (d a : BitVec 5) (m x : BitVec 3) (s : State) : Out := issueLone (opVclz u g d a m x) true false s

/-- VPOPC (R252). -/
def opVpopc (u : VUnit) (g : BitVec 4) (d a : BitVec 5) (m x : BitVec 3) : SlotOp :=
  .plain u.slot (Instr.vpopc u g d a m x).wf g (semVpopc u d a m x)
def execVpopc (u : VUnit) (g : BitVec 4) (d a : BitVec 5) (m x : BitVec 3) (s : State) : Out := issueLone (opVpopc u g d a m x) true false s

/-- VADDS (R252). -/
def opVadds (u : VUnit) (g : BitVec 4) (d a b : BitVec 5) (m x : BitVec 3) : SlotOp :=
  .plain u.slot (Instr.vadds u g d a b m x).wf g (semVadds u d a b m x)
def execVadds (u : VUnit) (g : BitVec 4) (d a b : BitVec 5) (m x : BitVec 3) (s : State) : Out := issueLone (opVadds u g d a b m x) true false s

/-- VSUBS (R252). -/
def opVsubs (u : VUnit) (g : BitVec 4) (d a b : BitVec 5) (m x : BitVec 3) : SlotOp :=
  .plain u.slot (Instr.vsubs u g d a b m x).wf g (semVsubs u d a b m x)
def execVsubs (u : VUnit) (g : BitVec 4) (d a b : BitVec 5) (m x : BitVec 3) (s : State) : Out := issueLone (opVsubs u g d a b m x) true false s

/-- VCMP_EQ (R254). -/
def opVcmpEq (u : VUnit) (g : BitVec 4) (d : BitVec 3) (a b : BitVec 5) (m x : BitVec 3) : SlotOp :=
  .plain u.slot (Instr.vcmpEq u g d a b m x).wf g (semVcmpEq d a b m x)
def execVcmpEq (u : VUnit) (g : BitVec 4) (d : BitVec 3) (a b : BitVec 5) (m x : BitVec 3) (s : State) : Out := issueLone (opVcmpEq u g d a b m x) true false s

/-- VCMP_NE (R254). -/
def opVcmpNe (u : VUnit) (g : BitVec 4) (d : BitVec 3) (a b : BitVec 5) (m x : BitVec 3) : SlotOp :=
  .plain u.slot (Instr.vcmpNe u g d a b m x).wf g (semVcmpNe d a b m x)
def execVcmpNe (u : VUnit) (g : BitVec 4) (d : BitVec 3) (a b : BitVec 5) (m x : BitVec 3) (s : State) : Out := issueLone (opVcmpNe u g d a b m x) true false s

/-- VCMP_LT (R254). -/
def opVcmpLt (u : VUnit) (g : BitVec 4) (d : BitVec 3) (a b : BitVec 5) (m x : BitVec 3) : SlotOp :=
  .plain u.slot (Instr.vcmpLt u g d a b m x).wf g (semVcmpLt d a b m x)
def execVcmpLt (u : VUnit) (g : BitVec 4) (d : BitVec 3) (a b : BitVec 5) (m x : BitVec 3) (s : State) : Out := issueLone (opVcmpLt u g d a b m x) true false s

/-- VCMP_LE (R254). -/
def opVcmpLe (u : VUnit) (g : BitVec 4) (d : BitVec 3) (a b : BitVec 5) (m x : BitVec 3) : SlotOp :=
  .plain u.slot (Instr.vcmpLe u g d a b m x).wf g (semVcmpLe d a b m x)
def execVcmpLe (u : VUnit) (g : BitVec 4) (d : BitVec 3) (a b : BitVec 5) (m x : BitVec 3) (s : State) : Out := issueLone (opVcmpLe u g d a b m x) true false s

/-- VCMP_LTU (R254). -/
def opVcmpLtu (u : VUnit) (g : BitVec 4) (d : BitVec 3) (a b : BitVec 5) (m x : BitVec 3) : SlotOp :=
  .plain u.slot (Instr.vcmpLtu u g d a b m x).wf g (semVcmpLtu d a b m x)
def execVcmpLtu (u : VUnit) (g : BitVec 4) (d : BitVec 3) (a b : BitVec 5) (m x : BitVec 3) (s : State) : Out := issueLone (opVcmpLtu u g d a b m x) true false s

/-- VCMP_LEU (R254). -/
def opVcmpLeu (u : VUnit) (g : BitVec 4) (d : BitVec 3) (a b : BitVec 5) (m x : BitVec 3) : SlotOp :=
  .plain u.slot (Instr.vcmpLeu u g d a b m x).wf g (semVcmpLeu d a b m x)
def execVcmpLeu (u : VUnit) (g : BitVec 4) (d : BitVec 3) (a b : BitVec 5) (m x : BitVec 3) (s : State) : Out := issueLone (opVcmpLeu u g d a b m x) true false s

/-- VADD_X (R255). -/
def opVaddX (u : VUnit) (g : BitVec 4) (d a : BitVec 5) (sx : BitVec 6) (m : BitVec 2) (x : BitVec 3) : SlotOp :=
  .plain u.slot (Instr.vaddX u g d a sx m x).wf g (semVaddX u d a sx m x)
def execVaddX (u : VUnit) (g : BitVec 4) (d a : BitVec 5) (sx : BitVec 6) (m : BitVec 2) (x : BitVec 3) (s : State) : Out := issueLone (opVaddX u g d a sx m x) true false s

/-- VSUB_X (R255). -/
def opVsubX (u : VUnit) (g : BitVec 4) (d a : BitVec 5) (sx : BitVec 6) (m : BitVec 2) (x : BitVec 3) : SlotOp :=
  .plain u.slot (Instr.vsubX u g d a sx m x).wf g (semVsubX u d a sx m x)
def execVsubX (u : VUnit) (g : BitVec 4) (d a : BitVec 5) (sx : BitVec 6) (m : BitVec 2) (x : BitVec 3) (s : State) : Out := issueLone (opVsubX u g d a sx m x) true false s

/-- VMUL_X (R255). -/
def opVmulX (u : VUnit) (g : BitVec 4) (d a : BitVec 5) (sx : BitVec 6) (m : BitVec 2) (x : BitVec 3) : SlotOp :=
  .plain u.slot (Instr.vmulX u g d a sx m x).wf g (semVmulX u d a sx m x)
def execVmulX (u : VUnit) (g : BitVec 4) (d a : BitVec 5) (sx : BitVec 6) (m : BitVec 2) (x : BitVec 3) (s : State) : Out := issueLone (opVmulX u g d a sx m x) true false s

/-- VAND_X (R255). -/
def opVandX (u : VUnit) (g : BitVec 4) (d a : BitVec 5) (sx : BitVec 6) (m : BitVec 2) (x : BitVec 3) : SlotOp :=
  .plain u.slot (Instr.vandX u g d a sx m x).wf g (semVandX u d a sx m x)
def execVandX (u : VUnit) (g : BitVec 4) (d a : BitVec 5) (sx : BitVec 6) (m : BitVec 2) (x : BitVec 3) (s : State) : Out := issueLone (opVandX u g d a sx m x) true false s

/-- VSHL_X (R255). -/
def opVshlX (u : VUnit) (g : BitVec 4) (d a : BitVec 5) (sx : BitVec 6) (m : BitVec 2) (x : BitVec 3) : SlotOp :=
  .plain u.slot (Instr.vshlX u g d a sx m x).wf g (semVshlX u d a sx m x)
def execVshlX (u : VUnit) (g : BitVec 4) (d a : BitVec 5) (sx : BitVec 6) (m : BitVec 2) (x : BitVec 3) (s : State) : Out := issueLone (opVshlX u g d a sx m x) true false s

/-- VSHR_X (R255). -/
def opVshrX (u : VUnit) (g : BitVec 4) (d a : BitVec 5) (sx : BitVec 6) (m : BitVec 2) (x : BitVec 3) : SlotOp :=
  .plain u.slot (Instr.vshrX u g d a sx m x).wf g (semVshrX u d a sx m x)
def execVshrX (u : VUnit) (g : BitVec 4) (d a : BitVec 5) (sx : BitVec 6) (m : BitVec 2) (x : BitVec 3) (s : State) : Out := issueLone (opVshrX u g d a sx m x) true false s

/-- VSAR_X (R255). -/
def opVsarX (u : VUnit) (g : BitVec 4) (d a : BitVec 5) (sx : BitVec 6) (m : BitVec 2) (x : BitVec 3) : SlotOp :=
  .plain u.slot (Instr.vsarX u g d a sx m x).wf g (semVsarX u d a sx m x)
def execVsarX (u : VUnit) (g : BitVec 4) (d a : BitVec 5) (sx : BitVec 6) (m : BitVec 2) (x : BitVec 3) (s : State) : Out := issueLone (opVsarX u g d a sx m x) true false s

/-- VCMP_EQ_X (R254). -/
def opVcmpEqX (u : VUnit) (g : BitVec 4) (d : BitVec 3) (a : BitVec 5) (sx : BitVec 6) (m : BitVec 2) (x : BitVec 3) : SlotOp :=
  .plain u.slot (Instr.vcmpEqX u g d a sx m x).wf g (semVcmpEqX a sx m x u d)
def execVcmpEqX (u : VUnit) (g : BitVec 4) (d : BitVec 3) (a : BitVec 5) (sx : BitVec 6) (m : BitVec 2) (x : BitVec 3) (s : State) : Out := issueLone (opVcmpEqX u g d a sx m x) true false s

/-- VCMP_LT_X (R254). -/
def opVcmpLtX (u : VUnit) (g : BitVec 4) (d : BitVec 3) (a : BitVec 5) (sx : BitVec 6) (m : BitVec 2) (x : BitVec 3) : SlotOp :=
  .plain u.slot (Instr.vcmpLtX u g d a sx m x).wf g (semVcmpLtX a sx m x u d)
def execVcmpLtX (u : VUnit) (g : BitVec 4) (d : BitVec 3) (a : BitVec 5) (sx : BitVec 6) (m : BitVec 2) (x : BitVec 3) (s : State) : Out := issueLone (opVcmpLtX u g d a sx m x) true false s

/-- VDUP (R256). -/
def opVdup (u : VUnit) (g : BitVec 4) (d a : BitVec 5) (sx : BitVec 6) (m : BitVec 2) (x : BitVec 3) : SlotOp :=
  .plain u.slot (Instr.vdup u g d a sx m x).wf g (semVdup u d sx m x)
def execVdup (u : VUnit) (g : BitVec 4) (d a : BitVec 5) (sx : BitVec 6) (m : BitVec 2) (x : BitVec 3) (s : State) : Out := issueLone (opVdup u g d a sx m x) true false s

/-- VINS (R257). -/
def opVins (u : VUnit) (g : BitVec 4) (d a : BitVec 5) (sx : BitVec 6) (m : BitVec 2) (x : BitVec 3) : SlotOp :=
  .plain u.slot (Instr.vins u g d a sx m x).wf g (semVins u d a sx m x)
def execVins (u : VUnit) (g : BitVec 4) (d a : BitVec 5) (sx : BitVec 6) (m : BitVec 2) (x : BitVec 3) (s : State) : Out := issueLone (opVins u g d a sx m x) true false s

/-- VEXT (R258). -/
def opVext (u : VUnit) (g : BitVec 4) (d : BitVec 3) (a : BitVec 5) (sx : BitVec 6) (m : BitVec 2) (x : BitVec 3) : SlotOp :=
  .plain u.slot (Instr.vext u g d a sx m x).wf g (semVext a sx x u d)
def execVext (u : VUnit) (g : BitVec 4) (d : BitVec 3) (a : BitVec 5) (sx : BitVec 6) (m : BitVec 2) (x : BitVec 3) (s : State) : Out := issueLone (opVext u g d a sx m x) true false s

/-- MAND (R259). -/
def opMand (u : VUnit) (g : BitVec 4) (d a b : BitVec 3) : SlotOp :=
  .plain u.slot (Instr.mand u g d a b).wf g (semMand u d a b)
def execMand (u : VUnit) (g : BitVec 4) (d a b : BitVec 3) (s : State) : Out := issueLone (opMand u g d a b) true false s

/-- MOR (R259). -/
def opMor (u : VUnit) (g : BitVec 4) (d a b : BitVec 3) : SlotOp :=
  .plain u.slot (Instr.mor u g d a b).wf g (semMor u d a b)
def execMor (u : VUnit) (g : BitVec 4) (d a b : BitVec 3) (s : State) : Out := issueLone (opMor u g d a b) true false s

/-- MXOR (R259). -/
def opMxor (u : VUnit) (g : BitVec 4) (d a b : BitVec 3) : SlotOp :=
  .plain u.slot (Instr.mxor u g d a b).wf g (semMxor u d a b)
def execMxor (u : VUnit) (g : BitVec 4) (d a b : BitVec 3) (s : State) : Out := issueLone (opMxor u g d a b) true false s

/-- MANDN (R259). -/
def opMandn (u : VUnit) (g : BitVec 4) (d a b : BitVec 3) : SlotOp :=
  .plain u.slot (Instr.mandn u g d a b).wf g (semMandn u d a b)
def execMandn (u : VUnit) (g : BitVec 4) (d a b : BitVec 3) (s : State) : Out := issueLone (opMandn u g d a b) true false s

/-- MPOP (R260). -/
def opMpop (u : VUnit) (g : BitVec 4) (d a : BitVec 3) : SlotOp :=
  .plain u.slot (Instr.mpop u g d a).wf g (semMpop u d a)
def execMpop (u : VUnit) (g : BitVec 4) (d a : BitVec 3) (s : State) : Out := issueLone (opMpop u g d a) true false s

/-- MFIRST (R260). -/
def opMfirst (u : VUnit) (g : BitVec 4) (d a : BitVec 3) : SlotOp :=
  .plain u.slot (Instr.mfirst u g d a).wf g (semMfirst u d a)
def execMfirst (u : VUnit) (g : BitVec 4) (d a : BitVec 3) (s : State) : Out := issueLone (opMfirst u g d a) true false s

/-- VSEL (R261). -/
def opVsel (u : VUnit) (g : BitVec 4) (d a b : BitVec 5) (m : BitVec 3) : SlotOp :=
  .plain u.slot (Instr.vsel u g d a b m).wf g (semVsel u d a b m)
def execVsel (u : VUnit) (g : BitVec 4) (d a b : BitVec 5) (m : BitVec 3) (s : State) : Out := issueLone (opVsel u g d a b m) true false s

/-- VPERM (R262). -/
def opVperm (u : VUnit) (g : BitVec 4) (d a b : BitVec 5) (m x : BitVec 3) : SlotOp :=
  .plain u.slot (Instr.vperm u g d a b m x).wf g (semVperm u d a b m x)
def execVperm (u : VUnit) (g : BitVec 4) (d a b : BitVec 5) (m x : BitVec 3) (s : State) : Out := issueLone (opVperm u g d a b m x) true false s

/-- VROT_X (R262). -/
def opVrotX (u : VUnit) (g : BitVec 4) (d a : BitVec 5) (sx : BitVec 6) (m : BitVec 2) (x : BitVec 3) : SlotOp :=
  .plain u.slot (Instr.vrotX u g d a sx m x).wf g (semVrotX u d a sx m x)
def execVrotX (u : VUnit) (g : BitVec 4) (d a : BitVec 5) (sx : BitVec 6) (m : BitVec 2) (x : BitVec 3) (s : State) : Out := issueLone (opVrotX u g d a sx m x) true false s

/-- VZIP (R262). -/
def opVzip (u : VUnit) (g : BitVec 4) (d a b : BitVec 5) (m x : BitVec 3) : SlotOp :=
  .plain u.slot (Instr.vzip u g d a b m x).wf g (semVzip u d a b m x)
def execVzip (u : VUnit) (g : BitVec 4) (d a b : BitVec 5) (m x : BitVec 3) (s : State) : Out := issueLone (opVzip u g d a b m x) true false s

/-- VUNZIP (R262). -/
def opVunzip (u : VUnit) (g : BitVec 4) (d a b : BitVec 5) (m x : BitVec 3) : SlotOp :=
  .plain u.slot (Instr.vunzip u g d a b m x).wf g (semVunzip u d a b m x)
def execVunzip (u : VUnit) (g : BitVec 4) (d a b : BitVec 5) (m x : BitVec 3) (s : State) : Out := issueLone (opVunzip u g d a b m x) true false s

/-- VCOMPRESS (R263). -/
def opVcompress (u : VUnit) (g : BitVec 4) (d a b : BitVec 5) (m x : BitVec 3) : SlotOp :=
  .plain u.slot (Instr.vcompress u g d a b m x).wf g (semVcompress u d a b m x)
def execVcompress (u : VUnit) (g : BitVec 4) (d a b : BitVec 5) (m x : BitVec 3) (s : State) : Out := issueLone (opVcompress u g d a b m x) true false s

/-- VEXPAND (R263). -/
def opVexpand (u : VUnit) (g : BitVec 4) (d a b : BitVec 5) (m x : BitVec 3) : SlotOp :=
  .plain u.slot (Instr.vexpand u g d a b m x).wf g (semVexpand u d a b m x)
def execVexpand (u : VUnit) (g : BitVec 4) (d a b : BitVec 5) (m x : BitVec 3) (s : State) : Out := issueLone (opVexpand u g d a b m x) true false s

/-- VIDX (R262). -/
def opVidx (u : VUnit) (g : BitVec 4) (d : BitVec 5) (i : BitVec 8) (x : BitVec 3) : SlotOp :=
  .plain u.slot (Instr.vidx u g d i x).wf g (semVidx u d i x)
def execVidx (u : VUnit) (g : BitVec 4) (d : BitVec 5) (i : BitVec 8) (x : BitVec 3) (s : State) : Out := issueLone (opVidx u g d i x) true false s

/-- VRED_ADD (R264). -/
def opVredAdd (u : VUnit) (g : BitVec 4) (d a b : BitVec 5) (m x : BitVec 3) : SlotOp :=
  .plain u.slot (Instr.vredAdd u g d a b m x).wf g (semVredAdd u d a b m x)
def execVredAdd (u : VUnit) (g : BitVec 4) (d a b : BitVec 5) (m x : BitVec 3) (s : State) : Out := issueLone (opVredAdd u g d a b m x) true false s

/-- VRED_MAX (R264). -/
def opVredMax (u : VUnit) (g : BitVec 4) (d a b : BitVec 5) (m x : BitVec 3) : SlotOp :=
  .plain u.slot (Instr.vredMax u g d a b m x).wf g (semVredMax u d a b m x)
def execVredMax (u : VUnit) (g : BitVec 4) (d a b : BitVec 5) (m x : BitVec 3) (s : State) : Out := issueLone (opVredMax u g d a b m x) true false s

/-- VRED_MIN (R264). -/
def opVredMin (u : VUnit) (g : BitVec 4) (d a b : BitVec 5) (m x : BitVec 3) : SlotOp :=
  .plain u.slot (Instr.vredMin u g d a b m x).wf g (semVredMin u d a b m x)
def execVredMin (u : VUnit) (g : BitVec 4) (d a b : BitVec 5) (m x : BitVec 3) (s : State) : Out := issueLone (opVredMin u g d a b m x) true false s

/-- VSCAN_ADD (R264). -/
def opVscanAdd (u : VUnit) (g : BitVec 4) (d a b : BitVec 5) (m x : BitVec 3) : SlotOp :=
  .plain u.slot (Instr.vscanAdd u g d a b m x).wf g (semVscanAdd u d a b m x)
def execVscanAdd (u : VUnit) (g : BitVec 4) (d a b : BitVec 5) (m x : BitVec 3) (s : State) : Out := issueLone (opVscanAdd u g d a b m x) true false s

/-- VMRED_ADD (R265). -/
def opVmredAdd (u : VUnit) (g : BitVec 4) (d a b : BitVec 5) (m x : BitVec 3) : SlotOp :=
  .plain u.slot (Instr.vmredAdd u g d a b m x).wf g (semVmredAdd u d a b m x)
def execVmredAdd (u : VUnit) (g : BitVec 4) (d a b : BitVec 5) (m x : BitVec 3) (s : State) : Out := issueLone (opVmredAdd u g d a b m x) true false s

/-- VMRED_MAX (R265). -/
def opVmredMax (u : VUnit) (g : BitVec 4) (d a b : BitVec 5) (m x : BitVec 3) : SlotOp :=
  .plain u.slot (Instr.vmredMax u g d a b m x).wf g (semVmredMax u d a b m x)
def execVmredMax (u : VUnit) (g : BitVec 4) (d a b : BitVec 5) (m x : BitVec 3) (s : State) : Out := issueLone (opVmredMax u g d a b m x) true false s

/-- VMSCAN_ADD (R265). -/
def opVmscanAdd (u : VUnit) (g : BitVec 4) (d a b : BitVec 5) (m x : BitVec 3) : SlotOp :=
  .plain u.slot (Instr.vmscanAdd u g d a b m x).wf g (semVmscanAdd u d a b m x)
def execVmscanAdd (u : VUnit) (g : BitVec 4) (d a b : BitVec 5) (m x : BitVec 3) (s : State) : Out := issueLone (opVmscanAdd u g d a b m x) true false s

/-- VMCOUNT (R265). -/
def opVmcount (u : VUnit) (g : BitVec 4) (d a b : BitVec 5) (m x : BitVec 3) : SlotOp :=
  .plain u.slot (Instr.vmcount u g d a b m x).wf g (semVmcount u d a b m x)
def execVmcount (u : VUnit) (g : BitVec 4) (d a b : BitVec 5) (m x : BitVec 3) (s : State) : Out := issueLone (opVmcount u g d a b m x) true false s

/-- VFADD_F (R271). -/
def opVfaddF (u : VUnit) (g : BitVec 4) (d a b : BitVec 5) (m r : BitVec 3) : SlotOp :=
  .plain u.slot (Instr.vfaddF u g d a b m r).wf g (semVfaddF u d a b m r)
def execVfaddF (u : VUnit) (g : BitVec 4) (d a b : BitVec 5) (m r : BitVec 3) (s : State) : Out := issueLone (opVfaddF u g d a b m r) true false s

/-- VFSUB_F (R271). -/
def opVfsubF (u : VUnit) (g : BitVec 4) (d a b : BitVec 5) (m r : BitVec 3) : SlotOp :=
  .plain u.slot (Instr.vfsubF u g d a b m r).wf g (semVfsubF u d a b m r)
def execVfsubF (u : VUnit) (g : BitVec 4) (d a b : BitVec 5) (m r : BitVec 3) (s : State) : Out := issueLone (opVfsubF u g d a b m r) true false s

/-- VFMUL_F (R271). -/
def opVfmulF (u : VUnit) (g : BitVec 4) (d a b : BitVec 5) (m r : BitVec 3) : SlotOp :=
  .plain u.slot (Instr.vfmulF u g d a b m r).wf g (semVfmulF u d a b m r)
def execVfmulF (u : VUnit) (g : BitVec 4) (d a b : BitVec 5) (m r : BitVec 3) (s : State) : Out := issueLone (opVfmulF u g d a b m r) true false s

/-- VFFMA_F (R271). -/
def opVffmaF (u : VUnit) (g : BitVec 4) (d a b : BitVec 5) (m r : BitVec 3) : SlotOp :=
  .plain u.slot (Instr.vffmaF u g d a b m r).wf g (semVffmaF u d a b m r)
def execVffmaF (u : VUnit) (g : BitVec 4) (d a b : BitVec 5) (m r : BitVec 3) (s : State) : Out := issueLone (opVffmaF u g d a b m r) true false s

/-- VFMIN_F (R271). -/
def opVfminF (u : VUnit) (g : BitVec 4) (d a b : BitVec 5) (m : BitVec 3) : SlotOp :=
  .plain u.slot (Instr.vfminF u g d a b m).wf g (semVfminF u d a b m)
def execVfminF (u : VUnit) (g : BitVec 4) (d a b : BitVec 5) (m : BitVec 3) (s : State) : Out := issueLone (opVfminF u g d a b m) true false s

/-- VFMAX_F (R271). -/
def opVfmaxF (u : VUnit) (g : BitVec 4) (d a b : BitVec 5) (m : BitVec 3) : SlotOp :=
  .plain u.slot (Instr.vfmaxF u g d a b m).wf g (semVfmaxF u d a b m)
def execVfmaxF (u : VUnit) (g : BitVec 4) (d a b : BitVec 5) (m : BitVec 3) (s : State) : Out := issueLone (opVfmaxF u g d a b m) true false s

/-- VFABS_F (R271). -/
def opVfabsF (u : VUnit) (g : BitVec 4) (d a : BitVec 5) (m : BitVec 3) : SlotOp :=
  .plain u.slot (Instr.vfabsF u g d a m).wf g (semVfabsF u d a m)
def execVfabsF (u : VUnit) (g : BitVec 4) (d a : BitVec 5) (m : BitVec 3) (s : State) : Out := issueLone (opVfabsF u g d a m) true false s

/-- VFNEG_F (R271). -/
def opVfnegF (u : VUnit) (g : BitVec 4) (d a : BitVec 5) (m : BitVec 3) : SlotOp :=
  .plain u.slot (Instr.vfnegF u g d a m).wf g (semVfnegF u d a m)
def execVfnegF (u : VUnit) (g : BitVec 4) (d a : BitVec 5) (m : BitVec 3) (s : State) : Out := issueLone (opVfnegF u g d a m) true false s

/-- VFCMP_EQ_F (R274). -/
def opVfcmpEqF (u : VUnit) (g : BitVec 4) (d : BitVec 3) (a b : BitVec 5) (m : BitVec 3) : SlotOp :=
  .plain u.slot (Instr.vfcmpEqF u g d a b m).wf g (semVfcmpEqF a b m u d)
def execVfcmpEqF (u : VUnit) (g : BitVec 4) (d : BitVec 3) (a b : BitVec 5) (m : BitVec 3) (s : State) : Out := issueLone (opVfcmpEqF u g d a b m) true false s

/-- VFCMP_LT_F (R274). -/
def opVfcmpLtF (u : VUnit) (g : BitVec 4) (d : BitVec 3) (a b : BitVec 5) (m : BitVec 3) : SlotOp :=
  .plain u.slot (Instr.vfcmpLtF u g d a b m).wf g (semVfcmpLtF a b m u d)
def execVfcmpLtF (u : VUnit) (g : BitVec 4) (d : BitVec 3) (a b : BitVec 5) (m : BitVec 3) (s : State) : Out := issueLone (opVfcmpLtF u g d a b m) true false s

/-- VFCMP_LE_F (R274). -/
def opVfcmpLeF (u : VUnit) (g : BitVec 4) (d : BitVec 3) (a b : BitVec 5) (m : BitVec 3) : SlotOp :=
  .plain u.slot (Instr.vfcmpLeF u g d a b m).wf g (semVfcmpLeF a b m u d)
def execVfcmpLeF (u : VUnit) (g : BitVec 4) (d : BitVec 3) (a b : BitVec 5) (m : BitVec 3) (s : State) : Out := issueLone (opVfcmpLeF u g d a b m) true false s

/-- VFCMP_UN_F (R274). -/
def opVfcmpUnF (u : VUnit) (g : BitVec 4) (d : BitVec 3) (a b : BitVec 5) (m : BitVec 3) : SlotOp :=
  .plain u.slot (Instr.vfcmpUnF u g d a b m).wf g (semVfcmpUnF a b m u d)
def execVfcmpUnF (u : VUnit) (g : BitVec 4) (d : BitVec 3) (a b : BitVec 5) (m : BitVec 3) (s : State) : Out := issueLone (opVfcmpUnF u g d a b m) true false s

/-- VFADD_BF (R272). -/
def opVfaddBf (u : VUnit) (g : BitVec 4) (d a b : BitVec 5) (m r : BitVec 3) : SlotOp :=
  .plain u.slot (Instr.vfaddBf u g d a b m r).wf g (semVfaddBf u d a b m r)
def execVfaddBf (u : VUnit) (g : BitVec 4) (d a b : BitVec 5) (m r : BitVec 3) (s : State) : Out := issueLone (opVfaddBf u g d a b m r) true false s

/-- VFMUL_BF (R272). -/
def opVfmulBf (u : VUnit) (g : BitVec 4) (d a b : BitVec 5) (m r : BitVec 3) : SlotOp :=
  .plain u.slot (Instr.vfmulBf u g d a b m r).wf g (semVfmulBf u d a b m r)
def execVfmulBf (u : VUnit) (g : BitVec 4) (d a b : BitVec 5) (m r : BitVec 3) (s : State) : Out := issueLone (opVfmulBf u g d a b m r) true false s

/-- VFFMA_BF (R272). -/
def opVffmaBf (u : VUnit) (g : BitVec 4) (d a b : BitVec 5) (m r : BitVec 3) : SlotOp :=
  .plain u.slot (Instr.vffmaBf u g d a b m r).wf g (semVffmaBf u d a b m r)
def execVffmaBf (u : VUnit) (g : BitVec 4) (d a b : BitVec 5) (m r : BitVec 3) (s : State) : Out := issueLone (opVffmaBf u g d a b m r) true false s

/-- VFDOT_BF (R273). -/
def opVfdotBf (u : VUnit) (g : BitVec 4) (d a b : BitVec 5) (m r : BitVec 3) : SlotOp :=
  .plain u.slot (Instr.vfdotBf u g d a b m r).wf g (semVfdotBf u d a b m r)
def execVfdotBf (u : VUnit) (g : BitVec 4) (d a b : BitVec 5) (m r : BitVec 3) (s : State) : Out := issueLone (opVfdotBf u g d a b m r) true false s

/-- VCVT_BF_F (R275). -/
def opVcvtBfF (u : VUnit) (g : BitVec 4) (d a b : BitVec 5) (m r : BitVec 3) : SlotOp :=
  .plain u.slot (Instr.vcvtBfF u g d a b m r).wf g (semVcvtBfF u d a b m r)
def execVcvtBfF (u : VUnit) (g : BitVec 4) (d a b : BitVec 5) (m r : BitVec 3) (s : State) : Out := issueLone (opVcvtBfF u g d a b m r) true false s

/-- VCVT_F16_F (R275). -/
def opVcvtF16F (u : VUnit) (g : BitVec 4) (d a b : BitVec 5) (m r : BitVec 3) : SlotOp :=
  .plain u.slot (Instr.vcvtF16F u g d a b m r).wf g (semVcvtF16F u d a b m r)
def execVcvtF16F (u : VUnit) (g : BitVec 4) (d a b : BitVec 5) (m r : BitVec 3) (s : State) : Out := issueLone (opVcvtF16F u g d a b m r) true false s

/-- VCVT_E4_F (R275). -/
def opVcvtE4F (u : VUnit) (g : BitVec 4) (d a b : BitVec 5) (m r : BitVec 3) : SlotOp :=
  .plain u.slot (Instr.vcvtE4F u g d a b m r).wf g (semVcvtE4F u d a b m r)
def execVcvtE4F (u : VUnit) (g : BitVec 4) (d a b : BitVec 5) (m r : BitVec 3) (s : State) : Out := issueLone (opVcvtE4F u g d a b m r) true false s

/-- VCVT_E5_F (R275). -/
def opVcvtE5F (u : VUnit) (g : BitVec 4) (d a b : BitVec 5) (m r : BitVec 3) : SlotOp :=
  .plain u.slot (Instr.vcvtE5F u g d a b m r).wf g (semVcvtE5F u d a b m r)
def execVcvtE5F (u : VUnit) (g : BitVec 4) (d a b : BitVec 5) (m r : BitVec 3) (s : State) : Out := issueLone (opVcvtE5F u g d a b m r) true false s

/-- VCVT_E2_F (R275). -/
def opVcvtE2F (u : VUnit) (g : BitVec 4) (d a b : BitVec 5) (m r : BitVec 3) : SlotOp :=
  .plain u.slot (Instr.vcvtE2F u g d a b m r).wf g (semVcvtE2F u d a b m r)
def execVcvtE2F (u : VUnit) (g : BitVec 4) (d a b : BitVec 5) (m r : BitVec 3) (s : State) : Out := issueLone (opVcvtE2F u g d a b m r) true false s

/-- VCVT_F_BF (R275). -/
def opVcvtFBf (u : VUnit) (g : BitVec 4) (d a b : BitVec 5) (m r : BitVec 3) : SlotOp :=
  .plain u.slot (Instr.vcvtFBf u g d a b m r).wf g (semVcvtFBf u d a b m r)
def execVcvtFBf (u : VUnit) (g : BitVec 4) (d a b : BitVec 5) (m r : BitVec 3) (s : State) : Out := issueLone (opVcvtFBf u g d a b m r) true false s

/-- VCVT_F_F16 (R275). -/
def opVcvtFF16 (u : VUnit) (g : BitVec 4) (d a b : BitVec 5) (m r : BitVec 3) : SlotOp :=
  .plain u.slot (Instr.vcvtFF16 u g d a b m r).wf g (semVcvtFF16 u d a b m r)
def execVcvtFF16 (u : VUnit) (g : BitVec 4) (d a b : BitVec 5) (m r : BitVec 3) (s : State) : Out := issueLone (opVcvtFF16 u g d a b m r) true false s

/-- VCVT_F_E4 (R275). -/
def opVcvtFE4 (u : VUnit) (g : BitVec 4) (d a b : BitVec 5) (m r : BitVec 3) : SlotOp :=
  .plain u.slot (Instr.vcvtFE4 u g d a b m r).wf g (semVcvtFE4 u d a b m r)
def execVcvtFE4 (u : VUnit) (g : BitVec 4) (d a b : BitVec 5) (m r : BitVec 3) (s : State) : Out := issueLone (opVcvtFE4 u g d a b m r) true false s

/-- VCVT_F_E5 (R275). -/
def opVcvtFE5 (u : VUnit) (g : BitVec 4) (d a b : BitVec 5) (m r : BitVec 3) : SlotOp :=
  .plain u.slot (Instr.vcvtFE5 u g d a b m r).wf g (semVcvtFE5 u d a b m r)
def execVcvtFE5 (u : VUnit) (g : BitVec 4) (d a b : BitVec 5) (m r : BitVec 3) (s : State) : Out := issueLone (opVcvtFE5 u g d a b m r) true false s

/-- VCVT_F_E2 (R275). -/
def opVcvtFE2 (u : VUnit) (g : BitVec 4) (d a b : BitVec 5) (m r : BitVec 3) : SlotOp :=
  .plain u.slot (Instr.vcvtFE2 u g d a b m r).wf g (semVcvtFE2 u d a b m r)
def execVcvtFE2 (u : VUnit) (g : BitVec 4) (d a b : BitVec 5) (m r : BitVec 3) (s : State) : Out := issueLone (opVcvtFE2 u g d a b m r) true false s

/-- VCVT_W_F (R275). -/
def opVcvtWF (u : VUnit) (g : BitVec 4) (d a b : BitVec 5) (m r : BitVec 3) : SlotOp :=
  .plain u.slot (Instr.vcvtWF u g d a b m r).wf g (semVcvtWF u d a b m r)
def execVcvtWF (u : VUnit) (g : BitVec 4) (d a b : BitVec 5) (m r : BitVec 3) (s : State) : Out := issueLone (opVcvtWF u g d a b m r) true false s

/-- VCVT_F_W (R275). -/
def opVcvtFW (u : VUnit) (g : BitVec 4) (d a b : BitVec 5) (m r : BitVec 3) : SlotOp :=
  .plain u.slot (Instr.vcvtFW u g d a b m r).wf g (semVcvtFW u d a b m r)
def execVcvtFW (u : VUnit) (g : BitVec 4) (d a b : BitVec 5) (m r : BitVec 3) (s : State) : Out := issueLone (opVcvtFW u g d a b m r) true false s

/-- VCVT_B_F (R275). -/
def opVcvtBF (u : VUnit) (g : BitVec 4) (d a b : BitVec 5) (m r : BitVec 3) : SlotOp :=
  .plain u.slot (Instr.vcvtBF u g d a b m r).wf g (semVcvtBF u d a b m r)
def execVcvtBF (u : VUnit) (g : BitVec 4) (d a b : BitVec 5) (m r : BitVec 3) (s : State) : Out := issueLone (opVcvtBF u g d a b m r) true false s

/-- VCVT_E4_F_SAT (R275). -/
def opVcvtE4FSat (u : VUnit) (g : BitVec 4) (d a b : BitVec 5) (m r : BitVec 3) : SlotOp :=
  .plain u.slot (Instr.vcvtE4FSat u g d a b m r).wf g (semVcvtE4FSat u d a b m r)
def execVcvtE4FSat (u : VUnit) (g : BitVec 4) (d a b : BitVec 5) (m r : BitVec 3) (s : State) : Out := issueLone (opVcvtE4FSat u g d a b m r) true false s

/-- VCVT_E5_F_SAT (R275). -/
def opVcvtE5FSat (u : VUnit) (g : BitVec 4) (d a b : BitVec 5) (m r : BitVec 3) : SlotOp :=
  .plain u.slot (Instr.vcvtE5FSat u g d a b m r).wf g (semVcvtE5FSat u d a b m r)
def execVcvtE5FSat (u : VUnit) (g : BitVec 4) (d a b : BitVec 5) (m r : BitVec 3) (s : State) : Out := issueLone (opVcvtE5FSat u g d a b m r) true false s

/-- VPACK_H (R277). -/
def opVpackH (u : VUnit) (g : BitVec 4) (d a b : BitVec 5) (m : BitVec 3) : SlotOp :=
  .plain u.slot (Instr.vpackH u g d a b m).wf g (semVpackH u d a b m)
def execVpackH (u : VUnit) (g : BitVec 4) (d a b : BitVec 5) (m : BitVec 3) (s : State) : Out := issueLone (opVpackH u g d a b m) true false s

/-- VPACK_B (R277). -/
def opVpackB (u : VUnit) (g : BitVec 4) (d a b : BitVec 5) (m : BitVec 3) : SlotOp :=
  .plain u.slot (Instr.vpackB u g d a b m).wf g (semVpackB u d a b m)
def execVpackB (u : VUnit) (g : BitVec 4) (d a b : BitVec 5) (m : BitVec 3) (s : State) : Out := issueLone (opVpackB u g d a b m) true false s

/-- VPACK_N (R277). -/
def opVpackN (u : VUnit) (g : BitVec 4) (d a b : BitVec 5) (m : BitVec 3) : SlotOp :=
  .plain u.slot (Instr.vpackN u g d a b m).wf g (semVpackN u d a b m)
def execVpackN (u : VUnit) (g : BitVec 4) (d a b : BitVec 5) (m : BitVec 3) (s : State) : Out := issueLone (opVpackN u g d a b m) true false s

/-- VUNPK_LO (R278). -/
def opVunpkLo (u : VUnit) (g : BitVec 4) (d a t : BitVec 5) (m : BitVec 3) : SlotOp :=
  .plain u.slot (Instr.vunpkLo u g d a t m).wf g (semVunpkLo u d a m t)
def execVunpkLo (u : VUnit) (g : BitVec 4) (d a t : BitVec 5) (m : BitVec 3) (s : State) : Out := issueLone (opVunpkLo u g d a t m) true false s

/-- VUNPK_HI (R278). -/
def opVunpkHi (u : VUnit) (g : BitVec 4) (d a t : BitVec 5) (m : BitVec 3) : SlotOp :=
  .plain u.slot (Instr.vunpkHi u g d a t m).wf g (semVunpkHi u d a m t)
def execVunpkHi (u : VUnit) (g : BitVec 4) (d a t : BitVec 5) (m : BitVec 3) (s : State) : Out := issueLone (opVunpkHi u g d a t m) true false s

/-- VBEXP (R279). -/
def opVbexp (u : VUnit) (g : BitVec 4) (d a : BitVec 5) (m : BitVec 3) : SlotOp :=
  .plain u.slot (Instr.vbexp u g d a m).wf g (semVbexp u d a m)
def execVbexp (u : VUnit) (g : BitVec 4) (d a : BitVec 5) (m : BitVec 3) (s : State) : Out := issueLone (opVbexp u g d a m) true false s

/-- VSCALB (R280). -/
def opVscalb (u : VUnit) (g : BitVec 4) (d a : BitVec 5) (i : BitVec 8) (r : BitVec 3) : SlotOp :=
  .plain u.slot (Instr.vscalb u g d a i r).wf g (semVscalb u d a r i)
def execVscalb (u : VUnit) (g : BitVec 4) (d a : BitVec 5) (i : BitVec 8) (r : BitVec 3) (s : State) : Out := issueLone (opVscalb u g d a i r) true false s

/-- VEXP2 (R284). -/
def opVexp2 (u : VUnit) (g : BitVec 4) (d a b : BitVec 5) (m r : BitVec 3) : SlotOp :=
  .plain u.slot (Instr.vexp2 u g d a b m r).wf g (semVexp2 u d a b m r)
def execVexp2 (u : VUnit) (g : BitVec 4) (d a b : BitVec 5) (m r : BitVec 3) (s : State) : Out := issueLone (opVexp2 u g d a b m r) true false s

/-- VLOG2 (R285). -/
def opVlog2 (u : VUnit) (g : BitVec 4) (d a b : BitVec 5) (m r : BitVec 3) : SlotOp :=
  .plain u.slot (Instr.vlog2 u g d a b m r).wf g (semVlog2 u d a b m r)
def execVlog2 (u : VUnit) (g : BitVec 4) (d a b : BitVec 5) (m r : BitVec 3) (s : State) : Out := issueLone (opVlog2 u g d a b m r) true false s

/-- VRCP (R286). -/
def opVrcp (u : VUnit) (g : BitVec 4) (d a b : BitVec 5) (m r : BitVec 3) : SlotOp :=
  .plain u.slot (Instr.vrcp u g d a b m r).wf g (semVrcp u d a b m r)
def execVrcp (u : VUnit) (g : BitVec 4) (d a b : BitVec 5) (m r : BitVec 3) (s : State) : Out := issueLone (opVrcp u g d a b m r) true false s

/-- VRSQRT (R287). -/
def opVrsqrt (u : VUnit) (g : BitVec 4) (d a b : BitVec 5) (m r : BitVec 3) : SlotOp :=
  .plain u.slot (Instr.vrsqrt u g d a b m r).wf g (semVrsqrt u d a b m r)
def execVrsqrt (u : VUnit) (g : BitVec 4) (d a b : BitVec 5) (m r : BitVec 3) (s : State) : Out := issueLone (opVrsqrt u g d a b m r) true false s

/-- VSQRT (R288). -/
def opVsqrt (u : VUnit) (g : BitVec 4) (d a b : BitVec 5) (m r : BitVec 3) : SlotOp :=
  .plain u.slot (Instr.vsqrt u g d a b m r).wf g (semVsqrt u d a b m r)
def execVsqrt (u : VUnit) (g : BitVec 4) (d a b : BitVec 5) (m r : BitVec 3) (s : State) : Out := issueLone (opVsqrt u g d a b m r) true false s

end Sys2Proof.Machine
end

