-- ==== Sys2Proof/Machine/Margin.lean ====
section
/-!
DEFINITION. Steps of the sequencer that no slot takes: timing events and margin control (R290 to R297),
soft errors and upsets (R302 to R304), failed wires (R311), pre-emption (R73, R306), and refresh
(R218 to R222).
-/
namespace Sys2Proof.Machine

/-- f once for each core of a list. -/
def State.each (s : State) (cs : List Nat) (f : State → Nat → State) : State := cs.foldl f s

/-! ### Results thrown away (R303) -/

/-- A register whose pending result is discarded reads its prior value with tag 0b11 (R303). -/
def Core.spoil (k : Core) (p : Pend) : Core :=
  let r := k.regs
  match p.dst, p.val with
  | .s n, _ => { k with regs := { r with s := r.s.setIfInBounds n { (r.s[n]?).getD .zero with tag := 3 } } }
  | .sPort n, _ => { k with regs := { r with sPort := r.sPort.setIfInBounds n { (r.sPort[n]?).getD .zero with tag := 3 } } }
  | .v n, .vec _ _ en =>
    let old := (r.v[n]?).getD .zero
    { k with regs := { r with v := r.v.setIfInBounds n (old.merge old.val (BitVec.allOnes 128) en) } }
  | .vPort n, .vec _ _ en =>
    let old := (r.vPort[n]?).getD .zero
    { k with regs := { r with vPort := r.vPort.setIfInBounds n (old.merge old.val (BitVec.allOnes 128) en) } }
  | .p n, _ =>
    if n = 0 then k
    else { k with regs := { r with p := r.p.setIfInBounds n { (r.p[n]?).getD ⟨false, 0⟩ with tag := 3 } } }
  | .m n, .mask _ _ en =>
    if n = 0 then k
    else
      let old := (r.m[n]?).getD ⟨0, 0⟩
      { k with regs := { r with m := r.m.setIfInBounds n (old.merge old.bits (BitVec.allOnes 512) en) } }
  | .mp n, _ => { k with regs := { r with mp := r.mp.setIfInBounds n { (r.mp[n]?).getD ⟨0, 0⟩ with tag := 3 } } }
  | .lc n, _ => { k with regs := { r with lc := r.lc.setIfInBounds n { k.lcOf n with tag := 3 } } }
  | _, _ => k

/-- Everything in flight is thrown away and marked (R303). -/
def Core.spoilAll (k : Core) : Core :=
  let k1 := k.pend.foldl Core.spoil k
  { k1 with pend := [] }

/-- The reference of the oldest position in flight; the next position when nothing is (R299). -/
def Core.oldestRef (k : Core) : Word :=
  match k.pend.foldl (fun (o : Option Pend) p => match o with
    | some q => if p.at_ < q.at_ then some p else some q
    | none => some p) none with
  | some p => p.src
  | none => posRef k.seq.fetch.pos

/-- A rewind by the core itself (R303): results in flight are gone, so that they are no writes; a wait at the Q
point that began the pitch stays. A fault whose save was waited for is still to be delivered: the save restarts
after the rewind (R312). -/
def Core.softRewind (k : Core) (now : Nat) : Core :=
  let stays : Bool := match k.seq.hold with
    | some (.rope _) => true
    | some (.drain _ q) => q
    | some .grant => true
    | _ => false
  { (if stays then k else k.letGo now) with pend := [] }.startAgain

/-! ### Timing events (R290 to R295) -/

/-- The core holds issue while the supply settles (R294). -/
def Core.settle (k : Core) (now : Nat) : Core :=
  let k1 := k.release now
  { k1 with seq := { k1.seq with hold := some .supply, holdSince := now } }

/-- One step of escalation: CUR and ESC rise (R294, R295). -/
def Core.escalate (k : Core) (now : Nat) : Core :=
  let k1 := { k with margin := { k.margin with
    cur := k.margin.cur + 1
    esc := if k.margin.esc = 65535 then 65535 else k.margin.esc + 1 } }
  k1.settle now

/-- A timing event counts in the window, and an excess escalates below GUA (R295). R294 does not say whether this
escalation too begins n afresh: the model leaves n as it is (log 74). -/
def Core.countEvent (k : Core) (now : Nat) : Core :=
  let k1 := { k with margin := { k.margin with
    win := if k.margin.win = 65535 then 65535 else k.margin.win + 1 } }
  if k1.margin.rpw ≠ 0 ∧ k1.margin.thr.ult k1.margin.win ∧ k1.margin.cur.ult k1.margin.gua then
    let k2 := k1.escalate now
    { k2 with margin := { k2.margin with win := 0, winStart := now } }
  else k1

/-- The bundle replays (R290, R292): RPLY counts, and the first issue's cycle stands for later reads. -/
def Core.replay (k : Core) (now : Nat) : Core :=
  { k with
    cnt := { k.cnt with rply := k.cnt.rply + 1 }
    seq := { k.seq with firstCycle := match k.seq.firstCycle with
      | none => some now
      | t => t } }

/-- HARD counts (R296). -/
def Core.noteHard (k : Core) : Core :=
  { k with margin := { k.margin with hard := if k.margin.hard = 255 then 255 else k.margin.hard + 1 } }

/-- The first refusal among cores (R60, R345). -/
def State.refusalOf (s : State) (cs : List Nat) : Option Word := cs.findSome? (fun c => (s.core c).refusal)

/-- A refused rewind of TIMING_HARD: written TRAPPED with 0x10, the kernel fails (R299, R304). -/
def State.hardRefused (s : State) (cs : List Nat) (why : Word) : State :=
  let s1 := s.each cs (fun s d =>
    let k := s.core d
    let k1 := k.spoilAll
    let k2 := { k1 with ctl := { k1.ctl with
      trc := .ofNat 16 trPitchNotIdempotent
      trb := k.oldestRef
      trm := if k.refusal.isSome then 1 else 0
      tra := why } }
    (s.setCore d k2).saveTrapped d trPitchNotIdempotent)
  match (s1.core (cs.headD 0)).run with
  | some (kid, _) => s1.failKernel kid (trapStatus trPitchNotIdempotent)
  | none => s1

/-- TIMING_HARD seen by core c of the members cs (R301, R304). -/
def State.timingHard (s : State) (cs : List Nat) (c : Nat) : State :=
  let s0 (s : State) : State :=
    (s.each cs (fun s d => s.updCore d (fun x => x.countEvent s.cycle))).updCore c Core.noteHard
  if (s.core c).ctl.hm then ((s0 s).doubleFault cs trTimingHard).quarantineNow c
  else match s.openSaves cs with
    | .wait s1 => s1.oweFault cs (fun _ => .hard c)
    | .lost d s1 => ((s0 s1).loseRunning d).quarantineNow c
    | .ready s1 =>
      let s2 := s0 s1
      match s2.refusalOf cs with
      | some r => (s2.hardRefused cs r).quarantineNow c
      | none =>
        (s2.each cs (fun s d =>
          let k := s.core d
          let pix := Nat.max k.seq.pix (Nat.max k.seq.sent k.seq.pushIdx)
          (s.setCore d (k.softRewind s.cycle)).suspendReady d pix)).quarantineNow c

/-- TIMING_EVENT (R290 to R295). -/
def State.timingEvent (s : State) (c : Nat) : State :=
  let k := s.core c
  let cs := s.ropeCores c
  if k.run.isNone ∨ cs.any s.blocked then s
  else
    if k.margin.lim.toNat ≤ k.seq.replays ∧ ¬ k.margin.cur.ult k.margin.gua then s.timingHard cs c
    else s.each cs (fun s d => s.updCore d (fun x =>
      let x1 := x.replay s.cycle
      let x2 := if d ≠ c then x1
        else if x1.seq.replays < x1.margin.lim.toNat then { x1 with seq := { x1.seq with replays := x1.seq.replays + 1 } }
        else
          let x3 := x1.escalate s.cycle
          { x3 with seq := { x3.seq with replays := 0 } }
      x2.countEvent s.cycle))

/-- SUPPLY_SETTLED (R294). -/
def State.supplySettled (s : State) (c : Nat) : State :=
  if (s.core c).seq.hold = some .supply then s.updCore c (fun k => k.release s.cycle) else s

/-- MARGIN_WINDOW_END (R295, R297). -/
def State.windowEnd (s : State) (c : Nat) : State :=
  let m := (s.core c).margin
  if m.rpw = 0 ∨ s.cycle < m.winStart + Nat.max 1024 m.rpw.toNat then s
  else
    let above := m.thr.ult m.win
    let low := if m.gua.ult m.floor then m.gua else m.floor
    let s1 := s.updCore c (fun k => { k with margin := { k.margin with
      strk := if above then (if m.strk = 15 then 15 else m.strk + 1) else 0
      cur := if m.win = 0 ∧ m.sub ∧ low.ult m.cur then m.cur - 1 else m.cur
      win := 0
      winStart := s.cycle } })
    if above ∧ m.strk = 3 then s1.requestQuarantine c else s1

/-! ### Upsets (R302, R303) -/

/-- SOFT_ERROR (R301, R303). A refusal looks at the writes that have landed: the results in flight are
discarded. A fault that waits for its save takes the refusal when it is delivered (R299, R312). -/
def State.softError (s : State) (c : Nat) : State :=
  let cs := s.ropeCores c
  if (s.core c).run.isNone then s
  else if (s.core c).ctl.hm then s.doubleFault cs trUncorrectable
  else match s.refusalOf cs with
    | none => s.each cs (fun s d => s.updCore d (fun k => k.softRewind s.cycle))
    | some why =>
      let s1 := s.each cs (fun s d => s.updCore d Core.spoilAll)
      if cs.any (fun d => (s.core d).seq.owes.isSome) then s1
      else s1.deliverAs cs (fun d => (s.core d).oldestRef)
        (fun d => ⟨trPitchNotIdempotent, why, if (s.core d).refusal.isSome then 1 else 0⟩)

/-- The control registers that R200 marks as saved, but for the loop counters (R302). -/
def cregSaved (n : Nat) : Bool := n == 0x10 || n == 0x11 || decide (0x22 ≤ n ∧ n ≤ 0x29)

/-- A saved control register takes its launch value (R203, R302). -/
def State.cregLaunch (s : State) (c n : Nat) : State :=
  let ctl (f : Ctl → Ctl) : State := s.updCore c (fun k => { k with ctl := f k.ctl })
  match n with
  | 0x10 => ctl (fun x => { x with fpm := 0 })
  | 0x11 => ctl (fun x => { x with fpf := 0 })
  | 0x22 => ctl (fun x => { x with pent := addrPos (recField (s.core c).recd 64 64) })
  | 0x23 => ctl (fun x => { x with trc := 0, hm := false })
  | 0x24 => ctl (fun x => { x with trb := 0 })
  | 0x25 => ctl (fun x => { x with trm := 0 })
  | 0x26 => ctl (fun x => { x with tra := 0 })
  | 0x27 => ctl (fun x => { x with hndl := match s.running c with
      | some (k, _) => k.handler
      | none => 0xFFFFFFFF })
  | 0x28 => ctl (fun x => { x with bvn := 8 })
  | _ => ctl (fun x => { x with maxp := 65536 })

/-- An entry of a register file reads 0 with tag 0b11 (R302). -/
def Core.strike (k : Core) (t : UpsetTarget) : Core :=
  let r := k.regs
  match t with
  | .scalar n => { k with regs := { r with s := r.s.setIfInBounds n ⟨0, 3⟩ } }
  | .vector n => { k with regs := { r with v := r.v.setIfInBounds n ⟨0, BitVec.allOnes 128⟩ } }
  | .pred n => if n = 0 then k else { k with regs := { r with p := r.p.setIfInBounds n ⟨false, 3⟩ } }
  | .mask n => if n = 0 then k else { k with regs := { r with m := r.m.setIfInBounds n ⟨0, BitVec.allOnes 512⟩ } }
  | .mparam n => { k with regs := { r with mp := r.mp.setIfInBounds n ⟨0, 3⟩ } }
  | .loopCtr n => { k with regs := { r with lc := r.lc.setIfInBounds n { k.lcOf n with cnt := 0, tag := 3 } } }
  | .creg _ => k

/-- CONTROL_REGISTER_UPSET (R302). -/
def State.registerUpset (s : State) (c : Nat) (t : UpsetTarget) : State :=
  match t with
  | .creg n =>
    if n = 0x20 ∨ n = 0x21 then s.updCore c (fun k => k.strike (.loopCtr (n - 0x20)))
    else if cregSaved n ∧ (s.core c).run.isSome then
      (s.cregLaunch c n).updCore c (fun k => { k with seq := { k.seq with upset := match k.seq.upset with
        | none => some n
        | u => u } })
    else s
  | _ => s.updCore c (fun k => k.strike t)

/-! ### Failed wires (R222, R311) -/

/-- FEV rises (R222). -/
def Core.noteWire (k : Core) : Core := { k with fev := if k.fev = 15 then 15 else k.fev + 1 }

/-- The column remap table of physical tower p (R29). -/
def Core.colsOf (k : Core) (p : Nat) : List ColRemap := (k.cols[p]?).getD []
/-- Spare via columns left on the physical towers in use (R222). -/
def Core.spareVias (k : Core) : Nat :=
  k.towers.toList.foldl (fun a t => match t.phys with
    | some p => (List.range 3).foldl (fun a bus => a + columnsLeft (k.colsOf p) bus) a
    | none => a) 0

/-- Words of tower g that pass through its failed columns are lost from now on (R311 step 4). -/
def Core.loseColumns (k : Core) (g : Nat) : Core :=
  let t := k.tower g
  k.setTower g { t with dead := t.dead ++ t.moving, moving := [] }

/-- VERTICAL_WIRE_FAILURE (R311). -/
def State.wireFailure (s : State) (c g bus col : Nat) : State :=
  let k := s.core c
  let t := k.tower g
  match t.phys with
  | none => s
  | some p =>
    let l := k.colsOf p
    let failed := k.setTower g { t with moving := t.moving ++ [(bus, col)] }
    if 16 ≤ g ∨ 3 ≤ bus then s
    else if columnsLeft l bus ≠ 0 then
      let e : ColRemap := ⟨bus, col, (l.filter (fun e => e.bus == bus)).length⟩
      let k1 := { k with cols := k.cols.setIfInBounds p (l ++ [e]) }.noteWire
      s.setCore c { k1 with spc := .ofNat 8 k1.spareVias }
    else if ¬ k.spareTowers.isEmpty then
      let s1 := s.setCore c failed
      if bus = 2 ∧ k.run.isSome ∧ ¬ s.blocked c then s1.setHold c (.towerMove g) else s1
    else (s.setCore c (failed.loseColumns g)).requestQuarantine c

/-- Nothing holds core c for a tower's move any more (R311). -/
def State.endMove (s : State) (c : Nat) : State :=
  match (s.core c).seq.hold with
  | some (.towerMove _) => (s.excuseRope c).updCore c (fun k => k.release s.cycle)
  | _ => s
/-- With the last spare tower gone, what still waited for one is lost, and nothing holds for it (R311 step 4). -/
def State.spareGone (s : State) (c : Nat) : State :=
  let k := s.core c
  let late := (List.range 16).filter (fun g => !(k.tower g).moving.isEmpty)
  if ¬ k.spareTowers.isEmpty ∨ late.isEmpty then s
  else
    let k1 := late.foldl Core.loseColumns k
    (((s.setCore c k1).endMove c)).requestQuarantine c

/-- The physical words of tower g of core c that the check bits cannot supply become uncorrectable: what they held is
lost when every word is rewritten with fresh check bits (R215, R311 step 3, log 31). -/
def State.spoilDead (s : State) (c g : Nat) : State :=
  let k := s.core c
  if (k.tower g).moving.length + (k.tower g).dead.length < 2 then s
  else (List.range 262144).foldl (fun s i =>
    if k.deadWord (256 * i + 16 * g) then s.markBad (towerKey c (256 * i + 16 * g)) else s) s

/-- TOWER_MOVE (R311 step 3): at once when the core is idle or a command wire failed, else while the core holds
issue at a Q point, for the move, for a rope or for a `drain`. -/
def State.moveTower (s : State) (c g : Nat) : State :=
  let k := s.core c
  let t := k.tower g
  let atQ : Bool := match k.seq.hold with
    | some (.towerMove h) => h == g
    | some (.rope _) => true
    | some (.drain _ q) => q
    | some .grant => true
    | _ => false
  match k.spareTowers with
  | [] => s
  | p :: rest =>
    if t.moving.isEmpty ∨ ¬ (atQ ∨ k.run.isNone ∨ t.moving.any (fun m => m.1 == 2)) then s
    else
      let k0 := (k.setTower g { t with phys := some p, moving := [], dead := [] }).noteWire
      let k1 : Core := { k0 with spareTowers := rest, spt := .ofNat 2 rest.length, spc := .ofNat 8 k0.spareVias }
      let s1 := (s.spoilDead c g).setCore c k1
      (if k.seq.hold = some (.towerMove g) then s1.endMove c else s1).spareGone c

/-! ### Pre-emption (R73, R301, R306) -/

/-- PREEMPT_GRANT at a Q point where the cairn waits (R65, R179, R306). -/
def State.preemptGrant (s : State) (c : Nat) : State :=
  if ¬ s.grantable c then s
  else
    let cs := s.ropeCores c
    match s.openSaves cs with
    | .ready s1 => s1.each cs State.grant
    | .wait s1 => s1.holdSave cs
    | .lost d s1 => s1.loseRunning d

/-- PREEMPT_OVERRUN (R73, R299, R301); cycles of a claim or a tower's move do not count (R311, R336). -/
def State.preemptOverrun (s : State) (c : Nat) : State :=
  let k := s.core c
  match k.seq.preempt with
  | none => s
  | some t =>
    let excused := (s.ropeCores c).any (fun d => (s.core d).uncounted)
    if k.run.isNone ∨ k.ctl.maxp = 0 ∨ k.seq.overrun ∨ k.seq.owes.isSome ∨ excused ∨ s.grantable c ∨
      s.cycle < t + 4 * k.ctl.maxp.toNat then s
    else
      let cs := s.ropeCores c
      let s1 := s.each cs (fun s d => s.updCore d (fun x => { x with seq := { x.seq with overrun := true } }))
      if k.ctl.hm then s1.doubleFault cs trPreemptOverrun
      else s1.deliver cs (posRef k.seq.fetch.pos) (fun d => ⟨trPreemptOverrun, 0, if d = c then 1 else 0⟩)

/-! ### Refresh (R218 to R221) -/

/-- Cycles between two passes of a tower (R218). -/
def State.refreshInterval (s : State) : Nat := if s.house.temp = .hot then 8000000000 else 16000000000

/-- REFRESH_PENDING (R218, R220). R218 does not say whether the interval counts from the start or from the end of
the last pass: the model counts from its end (log 65). -/
def State.refreshPending (s : State) (c g : Nat) : State :=
  let k := s.core c
  let t := k.tower g
  if t.pendSince.isSome ∨ t.running.isSome ∨ s.cycle < t.lastPass + s.refreshInterval then s
  else s.setCore c { k.setTower g { t with pendSince := some s.cycle } with
    leftSince := match k.leftSince with
      | none => some (s.cycle, s.deferCap)
      | l => l }

/-- REFRESH_PASS_START (R218, R221). -/
def State.refreshStart (s : State) (c g : Nat) : State :=
  let k := s.core c
  if (k.tower g).pendSince.isNone ∨ k.refreshing ∨ s.deferNow k ≠ 0 then s
  else s.setCore c (k.startPass g s.cycle)

/-- REFRESH_PASS_END: a pass takes 2 ms (R218); LEFT is CAP again once no pass is pending or running (R220). -/
def State.refreshEnd (s : State) (c g : Nat) : State :=
  let k := s.core c
  let t := k.tower g
  match t.running with
  | some u => if s.cycle < u + 2000000 then s
    else
      let k1 := k.setTower g { t with running := none, lastPass := s.cycle }
      s.setCore c { k1 with leftSince := if k1.refreshMask = 0 then none else k1.leftSince }
  | none => s

/-- DEFERRAL_EXPIRY (R221): DEF has reached 0 and the oldest pending pass starts. -/
def State.deferralExpiry (s : State) (c : Nat) : State :=
  match (s.core c).oldestPending with
  | some g => s.refreshStart c g
  | none => s

/-- FORCED_PASS (R221): at once when the core is idle or no Q bundle has committed for 8 s. -/
def State.forcedPass (s : State) (c : Nat) : State :=
  let k := s.core c
  match k.leftSince with
  | none => s
  | some (t, left) =>
    if k.run.isNone ∨ t + left * 1000000 + 8000000000 ≤ s.cycle then s.forcePass c else s

/-- TEMPERATURE_CHANGE: LEFT never exceeds CAP (R220). -/
def State.temperature (s : State) (b : TempBand) : State :=
  let s1 : State := { s with house := { s.house with temp := b } }
  { s1 with cores := s1.cores.map (fun (k : Core) => { k with
      leftSince := k.leftSince.map (fun l => (l.1, Nat.min l.2 (s1.deferCap + (s.cycle - l.1) / 1000000))) }) }

end Sys2Proof.Machine
end

