-- ==== Sys2Proof/Machine/Bundles.lean ====
section
/-!
DEFINITION. Bundles (R75 to R77, R86, R97, R112): the slot operation of each instruction, a fetched bundle
as its operations, its issue at the position that program order reaches, the expansion of segments
(R118, R119), and the step rows of the sequencer.
-/
namespace Sys2Proof.Machine

/-- The operation of an encoding that is no instruction (R112). -/
def illegalOp (slot : Nat) : SlotOp := ⟨slot, false, 0, false, false, none, fun _ => nopOut⟩

/-- The slot operation of an instruction; a step row has none. -/
def slotOp : Instr → SlotOp
  | .nopSlot0 stop qui g => opNopSlot0 stop qui g
  | .br stop qui g o => opBr stop qui g o
  | .callR stop qui g o => opCallR stop qui g o
  | .jr stop qui g a => opJr stop qui g a
  | .ret stop qui g => opRet stop qui g
  | .loopR stop qui g c a l => opLoopR stop qui g c a l
  | .chk stop qui g a o => opChk stop qui g a o
  | .chkv stop qui g v o => opChkv stop qui g v o
  | .brvAll stop qui g m o => opBrvAll stop qui g m o
  | .brvNone stop qui g m o => opBrvNone stop qui g m o
  | .haltR stop qui g => opHaltR stop qui g
  | .park stop qui g a b t => opPark stop qui g a b t
  | .yield stop qui g => opYield stop qui g
  | .summit stop qui g => opSummit stop qui g
  | .barset stop qui g i a => opBarset stop qui g i a
  | .bararr stop qui g i => opBararr stop qui g i
  | .barwait stop qui g i => opBarwait stop qui g i
  | .bartest stop qui g i p => opBartest stop qui g i p
  | .ropePair stop qui g => opRopePair stop qui g
  | .ropeQuad stop qui g => opRopeQuad stop qui g
  | .unrope stop qui g => opUnrope stop qui g
  | .drain stop qui g x => opDrain stop qui g x
  | .trapR stop qui g c => opTrapR stop qui g c
  | .sys stop qui g c => opSys stop qui g c
  | .cread stop qui g d r => opCread stop qui g d r
  | .cwrite stop qui g r a => opCwrite stop qui g r a
  | .rfdefer stop qui g a => opRfdefer stop qui g a
  | .tret stop qui g => opTret stop qui g
  | .tretAt stop qui g a => opTretAt stop qui g a
  | .nopK k g => opNopK k g
  | .addR u g d a b => opAddR u g d a b
  | .subR u g d a b => opSubR u g d a b
  | .mulR u g d a b => opMulR u g d a b
  | .mulhs u g d a b => opMulhs u g d a b
  | .mulhu u g d a b => opMulhu u g d a b
  | .divR u g d a b => opDivR u g d a b
  | .divu u g d a b => opDivu u g d a b
  | .remR u g d a b => opRemR u g d a b
  | .remu u g d a b => opRemu u g d a b
  | .andR u g d a b => opAndR u g d a b
  | .orR u g d a b => opOrR u g d a b
  | .xorR u g d a b => opXorR u g d a b
  | .andn u g d a b => opAndn u g d a b
  | .shl u g d a b => opShl u g d a b
  | .shr u g d a b => opShr u g d a b
  | .sar u g d a b => opSar u g d a b
  | .rol u g d a b => opRol u g d a b
  | .minR u g d a b => opMinR u g d a b
  | .maxR u g d a b => opMaxR u g d a b
  | .minu u g d a b => opMinu u g d a b
  | .maxu u g d a b => opMaxu u g d a b
  | .lea u g d a b x => opLea u g d a b x
  | .sel u g d a b p => opSel u g d a b p
  | .clz u g d a => opClz u g d a
  | .ctz u g d a => opCtz u g d a
  | .popc u g d a => opPopc u g d a
  | .rngx u g d a b => opRngx u g d a b
  | .mov u g d a => opMov u g d a
  | .addi u g d a i => opAddi u g d a i
  | .andi u g d a i => opAndi u g d a i
  | .ori u g d a i => opOri u g d a i
  | .xori u g d a i => opXori u g d a i
  | .shli u g d a i => opShli u g d a i
  | .shri u g d a i => opShri u g d a i
  | .sari u g d a i => opSari u g d a i
  | .roli u g d a i => opRoli u g d a i
  | .muli u g d a i => opMuli u g d a i
  | .bfx u g d a p n => opBfx u g d a p n
  | .bfi u g d a p n => opBfi u g d a p n
  | .li u g d i => opLi u g d i
  | .cmpEq u g p a b => opCmpEq u g p a b
  | .cmpNe u g p a b => opCmpNe u g p a b
  | .cmpLt u g p a b => opCmpLt u g p a b
  | .cmpLe u g p a b => opCmpLe u g p a b
  | .cmpLtu u g p a b => opCmpLtu u g p a b
  | .cmpLeu u g p a b => opCmpLeu u g p a b
  | .cmpiEq u g p a i => opCmpiEq u g p a i
  | .cmpiLt u g p a i => opCmpiLt u g p a i
  | .cmpiLtu u g p a i => opCmpiLtu u g p a i
  | .cmpiNe u g p a i => opCmpiNe u g p a i
  | .pand u g p a b => opPand u g p a b
  | .por u g p a b => opPor u g p a b
  | .pxor u g p a b => opPxor u g p a b
  | .pandn u g p a b => opPandn u g p a b
  | .cmpt u g a b => opCmpt u g a b
  | .cmpti u g a i => opCmpti u g a i
  | .ptest u g p a => opPtest u g p a
  | .pclr u g d a => opPclr u g d a
  | .fadd u g d a b r => opFadd u g d a b r
  | .fsub u g d a b r => opFsub u g d a b r
  | .fmul u g d a b r => opFmul u g d a b r
  | .ffma u g d a b r => opFfma u g d a b r
  | .fmin u g d a b => opFmin u g d a b
  | .fmax u g d a b => opFmax u g d a b
  | .fabs u g d a => opFabs u g d a
  | .fneg u g d a => opFneg u g d a
  | .fcvtWF u g d a b r => opFcvtWF u g d a b r
  | .fcvtFW u g d a b r => opFcvtFW u g d a b r
  | .fcvtFWu u g d a b r => opFcvtFWu u g d a b r
  | .fcvtWuF u g d a b r => opFcvtWuF u g d a b r
  | .fcmpEq u g p a b => opFcmpEq u g p a b
  | .fcmpLt u g p a b => opFcmpLt u g p a b
  | .fcmpLe u g p a b => opFcmpLe u g p a b
  | .fcmpUn u g p a b => opFcmpUn u g p a b
  | .fclass u g d a => opFclass u g d a
  | .ldb g d b o => opLdb g d b o
  | .ldbu g d b o => opLdbu g d b o
  | .ldh g d b o => opLdh g d b o
  | .ldhu g d b o => opLdhu g d b o
  | .ldw g d b o => opLdw g d b o
  | .stb g d b o => opStb g d b o
  | .sth g d b o => opSth g d b o
  | .stw g d b o => opStw g d b o
  | .ldwS g d b o => opLdwS g d b o
  | .ldbuS g d b o => opLdbuS g d b o
  | .ldhuS g d b o => opLdhuS g d b o
  | .ldv g v b o m => opLdv g v b o m
  | .stv g v b o m => opStv g v b o m
  | .ldvS g v b o m => opLdvS g v b o m
  | .ldmx4 g v b o m => opLdmx4 g v b o m
  | .ldmx8 g v b o m => opLdmx8 g v b o m
  | .ldvx g v i b m w => opLdvx g v i b m w
  | .stvx g v i b m w => opStvx g v i b m w
  | .ldvxS g v i b m w => opLdvxS g v i b m w
  | .shn g d a e t m => opShn g d a e t m
  | .tsh g d a e t m => opTsh g d a e t m
  | .vadd u g d a b m x => opVadd u g d a b m x
  | .vsub u g d a b m x => opVsub u g d a b m x
  | .vmul u g d a b m x => opVmul u g d a b m x
  | .vmulh u g d a b m x => opVmulh u g d a b m x
  | .vmad u g d a b m x => opVmad u g d a b m x
  | .vmin u g d a b m x => opVmin u g d a b m x
  | .vmax u g d a b m x => opVmax u g d a b m x
  | .vminu u g d a b m x => opVminu u g d a b m x
  | .vmaxu u g d a b m x => opVmaxu u g d a b m x
  | .vabs u g d a m x => opVabs u g d a m x
  | .vand u g d a b m x => opVand u g d a b m x
  | .vor u g d a b m x => opVor u g d a b m x
  | .vxor u g d a b m x => opVxor u g d a b m x
  | .vshl u g d a b m x => opVshl u g d a b m x
  | .vshr u g d a b m x => opVshr u g d a b m x
  | .vsar u g d a b m x => opVsar u g d a b m x
  | .vclz u g d a m x => opVclz u g d a m x
  | .vpopc u g d a m x => opVpopc u g d a m x
  | .vadds u g d a b m x => opVadds u g d a b m x
  | .vsubs u g d a b m x => opVsubs u g d a b m x
  | .vcmpEq u g d a b m x => opVcmpEq u g d a b m x
  | .vcmpNe u g d a b m x => opVcmpNe u g d a b m x
  | .vcmpLt u g d a b m x => opVcmpLt u g d a b m x
  | .vcmpLe u g d a b m x => opVcmpLe u g d a b m x
  | .vcmpLtu u g d a b m x => opVcmpLtu u g d a b m x
  | .vcmpLeu u g d a b m x => opVcmpLeu u g d a b m x
  | .vaddX u g d a sx m x => opVaddX u g d a sx m x
  | .vsubX u g d a sx m x => opVsubX u g d a sx m x
  | .vmulX u g d a sx m x => opVmulX u g d a sx m x
  | .vandX u g d a sx m x => opVandX u g d a sx m x
  | .vshlX u g d a sx m x => opVshlX u g d a sx m x
  | .vshrX u g d a sx m x => opVshrX u g d a sx m x
  | .vsarX u g d a sx m x => opVsarX u g d a sx m x
  | .vcmpEqX u g d a sx m x => opVcmpEqX u g d a sx m x
  | .vcmpLtX u g d a sx m x => opVcmpLtX u g d a sx m x
  | .vdup u g d a sx m x => opVdup u g d a sx m x
  | .vins u g d a sx m x => opVins u g d a sx m x
  | .vext u g d a sx m x => opVext u g d a sx m x
  | .mand u g d a b => opMand u g d a b
  | .mor u g d a b => opMor u g d a b
  | .mxor u g d a b => opMxor u g d a b
  | .mandn u g d a b => opMandn u g d a b
  | .mpop u g d a => opMpop u g d a
  | .mfirst u g d a => opMfirst u g d a
  | .vsel u g d a b m => opVsel u g d a b m
  | .vperm u g d a b m x => opVperm u g d a b m x
  | .vrotX u g d a sx m x => opVrotX u g d a sx m x
  | .vzip u g d a b m x => opVzip u g d a b m x
  | .vunzip u g d a b m x => opVunzip u g d a b m x
  | .vcompress u g d a b m x => opVcompress u g d a b m x
  | .vexpand u g d a b m x => opVexpand u g d a b m x
  | .vidx u g d i x => opVidx u g d i x
  | .vredAdd u g d a b m x => opVredAdd u g d a b m x
  | .vredMax u g d a b m x => opVredMax u g d a b m x
  | .vredMin u g d a b m x => opVredMin u g d a b m x
  | .vscanAdd u g d a b m x => opVscanAdd u g d a b m x
  | .vmredAdd u g d a b m x => opVmredAdd u g d a b m x
  | .vmredMax u g d a b m x => opVmredMax u g d a b m x
  | .vmscanAdd u g d a b m x => opVmscanAdd u g d a b m x
  | .vmcount u g d a b m x => opVmcount u g d a b m x
  | .vfaddF u g d a b m r => opVfaddF u g d a b m r
  | .vfsubF u g d a b m r => opVfsubF u g d a b m r
  | .vfmulF u g d a b m r => opVfmulF u g d a b m r
  | .vffmaF u g d a b m r => opVffmaF u g d a b m r
  | .vfminF u g d a b m => opVfminF u g d a b m
  | .vfmaxF u g d a b m => opVfmaxF u g d a b m
  | .vfabsF u g d a m => opVfabsF u g d a m
  | .vfnegF u g d a m => opVfnegF u g d a m
  | .vfcmpEqF u g d a b m => opVfcmpEqF u g d a b m
  | .vfcmpLtF u g d a b m => opVfcmpLtF u g d a b m
  | .vfcmpLeF u g d a b m => opVfcmpLeF u g d a b m
  | .vfcmpUnF u g d a b m => opVfcmpUnF u g d a b m
  | .vfaddBf u g d a b m r => opVfaddBf u g d a b m r
  | .vfmulBf u g d a b m r => opVfmulBf u g d a b m r
  | .vffmaBf u g d a b m r => opVffmaBf u g d a b m r
  | .vfdotBf u g d a b m r => opVfdotBf u g d a b m r
  | .vcvtBfF u g d a b m r => opVcvtBfF u g d a b m r
  | .vcvtF16F u g d a b m r => opVcvtF16F u g d a b m r
  | .vcvtE4F u g d a b m r => opVcvtE4F u g d a b m r
  | .vcvtE5F u g d a b m r => opVcvtE5F u g d a b m r
  | .vcvtE2F u g d a b m r => opVcvtE2F u g d a b m r
  | .vcvtFBf u g d a b m r => opVcvtFBf u g d a b m r
  | .vcvtFF16 u g d a b m r => opVcvtFF16 u g d a b m r
  | .vcvtFE4 u g d a b m r => opVcvtFE4 u g d a b m r
  | .vcvtFE5 u g d a b m r => opVcvtFE5 u g d a b m r
  | .vcvtFE2 u g d a b m r => opVcvtFE2 u g d a b m r
  | .vcvtWF u g d a b m r => opVcvtWF u g d a b m r
  | .vcvtFW u g d a b m r => opVcvtFW u g d a b m r
  | .vcvtBF u g d a b m r => opVcvtBF u g d a b m r
  | .vcvtE4FSat u g d a b m r => opVcvtE4FSat u g d a b m r
  | .vcvtE5FSat u g d a b m r => opVcvtE5FSat u g d a b m r
  | .vpackH u g d a b m => opVpackH u g d a b m
  | .vpackB u g d a b m => opVpackB u g d a b m
  | .vpackN u g d a b m => opVpackN u g d a b m
  | .vunpkLo u g d a t m => opVunpkLo u g d a t m
  | .vunpkHi u g d a t m => opVunpkHi u g d a t m
  | .vbexp u g d a m => opVbexp u g d a m
  | .vscalb u g d a i r => opVscalb u g d a i r
  | .vexp2 u g d a b m r => opVexp2 u g d a b m r
  | .vlog2 u g d a b m r => opVlog2 u g d a b m r
  | .vrcp u g d a b m r => opVrcp u g d a b m r
  | .vrsqrt u g d a b m r => opVrsqrt u g d a b m r
  | .vsqrt u g d a b m r => opVsqrt u g d a b m r
  | .mparmLo g p sx => opMparmLo g p sx
  | .mparmHi g p sx => opMparmHi g p sx
  | .mcall g r b n => opMcall g r b n
  | .mswap g b n => opMswap g b n
  | .tcfg g t sx => opTcfg g t sx
  | .tzero g t => opTzero g t
  | .trowW g v t i e => opTrowW g v t i e
  | .trowR g v t i e => opTrowR g v t i e
  | .tcolW g v t i e => opTcolW g v t i e
  | .tcolR g v t i e => opTcolR g v t i e
  | .mstat g k => opMstat g k
  | .tdrop g t => opTdrop g t
  | .spush g qx sx => opSpush g qx sx
  | .spushv g qx v m => opSpushv g qx v m
  | .spop g qx sx => opSpop g qx sx
  | .spopv g qx v m => opSpopv g qx v m
  | .scard g qx sx => opScard g qx sx
  | .sroute g qx sx c => opSroute g qx sx c
  | .sstat g qx sx => opSstat g qx sx
  | .sacc g i v o m d => opSacc g i v o m d
  | .sflush g => opSflush g
  | .swsub g qx sx n => opSwsub g qx sx n
  | .swjoin g qx sx n => opSwjoin g qx sx n
  | .swpop g sx => opSwpop g sx
  | .swdone g sx => opSwdone g sx
  | .mgpush g v m => opMgpush g v m
  | .mgpop g v m => opMgpop g v m
  | .bundleIssue _ => illegalOp 0
  | .bundleSkip _ => illegalOp 0
  | .segmentExpand _ => illegalOp 0
  | .loopClose _ => illegalOp 0
  | .bivouac _ => illegalOp 0
  | .parkWake _ _ => illegalOp 0
  | .parkTimeout _ _ => illegalOp 0
  | .cairnPickup _ _ _ => illegalOp 0
  | .priorityAging _ _ => illegalOp 0
  | .phaseStart _ => illegalOp 0
  | .summitExchange _ => illegalOp 0
  | .ropeClose _ => illegalOp 0
  | .preemptGrant _ => illegalOp 0
  | .preemptOverrun _ => illegalOp 0
  | .timingEvent _ => illegalOp 0
  | .supplySettled _ => illegalOp 0
  | .marginWindowEnd _ => illegalOp 0
  | .quarantine _ => illegalOp 0
  | .softError _ => illegalOp 0
  | .controlRegisterUpset _ _ => illegalOp 0
  | .verticalWireFailure _ _ _ _ => illegalOp 0
  | .towerMove _ _ => illegalOp 0
  | .refreshPending _ _ => illegalOp 0
  | .refreshPassStart _ _ => illegalOp 0
  | .refreshPassEnd _ _ => illegalOp 0
  | .deferralExpiry _ => illegalOp 0
  | .forcedPass _ => illegalOp 0
  | .temperatureChange _ => illegalOp 0
  | .popRelease _ => illegalOp 0
  | .pushRoom _ => illegalOp 0
  | .barwaitRelease _ => illegalOp 0
  | .drainRelease _ => illegalOp 0
  | .sysRingRoom _ => illegalOp 0
  | .matrixQueueRoom _ => illegalOp 0
  | .tileHoldRelease _ => illegalOp 0
  | .tshSourceRelease _ => illegalOp 0
  | .cardRead _ _ => illegalOp 0
  | .copyCard _ _ => illegalOp 0
  | .gatherCard _ _ => illegalOp 0
  | .transposeCard _ _ => illegalOp 0
  | .multicastCard _ _ => illegalOp 0
  | .bankfillCard _ _ => illegalOp 0
  | .offloadCard _ _ => illegalOp 0
  | .reloadCard _ _ => illegalOp 0
  | .decompCard _ _ => illegalOp 0
  | .cardReport _ _ => illegalOp 0
  | .switchHop _ _ => illegalOp 0
  | .clusterStall _ => illegalOp 0
  | .mma _ => illegalOp 0
  | .mmo _ => illegalOp 0
  | .mmaMx _ => illegalOp 0
  | .tstore _ => illegalOp 0
  | .tload _ => illegalOp 0
  | .vendorRoutine _ => illegalOp 0
  | .routineStep _ => illegalOp 0
  | .routineComplete _ => illegalOp 0
  | .swapComplete _ => illegalOp 0
  | .matrixUnitClaim _ => illegalOp 0
  | .tileLazyLoad _ _ => illegalOp 0
  | .powerAlarmRaise => illegalOp 0
  | .powerAlarmClear => illegalOp 0
  | .accumulateArrival _ => illegalOp 0
  | .sflushArrival _ => illegalOp 0
  | .subscription _ => illegalOp 0
  | .pageIssue _ _ _ => illegalOp 0
  | .pageLanding _ _ _ => illegalOp 0
  | .partialCombine _ _ => illegalOp 0
  | .poolEntryFree _ => illegalOp 0
  | .qnotify _ _ _ => illegalOp 0
  | .queueScanTimer _ => illegalOp 0
  | .shadowWrite _ _ => illegalOp 0
  | .qridxResync _ _ => illegalOp 0
  | .qstatHaltClear _ _ => illegalOp 0
  | .launchP _ _ => illegalOp 0
  | .signalP _ _ => illegalOp 0
  | .waitP _ _ => illegalOp 0
  | .waitTimeout _ _ => illegalOp 0
  | .markerP _ _ => illegalOp 0
  | .nopPacket _ _ => illegalOp 0
  | .packetAging _ _ => illegalOp 0
  | .kernelCompletion _ => illegalOp 0
  | .partitionReset _ => illegalOp 0
  | .unitLoss _ => illegalOp 0
  | .translationWalk _ => illegalOp 0
  | .frespWalkAgain _ _ => illegalOp 0
  | .frespFail _ _ => illegalOp 0
  | .faultTimeout _ _ => illegalOp 0
  | .tictlGo _ _ => illegalOp 0
  | .invalidationAck _ => illegalOp 0
  | .backgroundFill _ _ => illegalOp 0
  | .flitReceive _ _ => illegalOp 0
  | .ridgePacketReceive _ => illegalOp 0
  | .linkDead _ => illegalOp 0
  | .pathLossTimeout _ => illegalOp 0
  | .ingestWrite _ _ _ _ => illegalOp 0
  | .wclose _ _ => illegalOp 0
  | .frameDescriptor _ => illegalOp 0
  | .wcfgEnable _ _ => illegalOp 0
  | .apertureAccess _ _ _ _ _ => illegalOp 0
  | .registerWrite _ _ _ => illegalOp 0
  | .powerOn => illegalOp 0
  | .moduleReset => illegalOp 0
  | .configOp _ => illegalOp 0
  | .routineOp _ => illegalOp 0
  | .attestOp _ => illegalOp 0
  | .unloadOp _ => illegalOp 0
  | .doubleBitError _ => illegalOp 0
  | .configurationRequest _ _ _ => illegalOp 0
  | .i3cManagement _ => illegalOp 0
  | .badOp _ _ => illegalOp 0

/-- An operation whose must-be-zero fields hold zero and whose fields are legal. -/
def accepted (mbz : Bool) (op : SlotOp) : SlotOp := if mbz && op.legal then op else illegalOp op.slot

/-- The operation of a word of slot 7, read as `decodeS` reads it (R91, R111). -/
def decodedS (w : Nat) : SlotOp :=
  match fld w 21 7 with
  | 0 => accepted (fld w 0 21 == 0) (opNopK 7 (.ofNat 4 (fld w 28 4)))
  | 1 => accepted (fld w 0 10 == 0) (opSpush (.ofNat 4 (fld w 28 4)) (.ofNat 5 (fld w 16 5)) (.ofNat 6 (fld w 10 6)))
  | 2 => accepted (fld w 0 8 == 0) (opSpushv (.ofNat 4 (fld w 28 4)) (.ofNat 5 (fld w 16 5)) (.ofNat 5 (fld w 11 5)) (.ofNat 3 (fld w 8 3)))
  | 3 => accepted (fld w 0 10 == 0) (opSpop (.ofNat 4 (fld w 28 4)) (.ofNat 5 (fld w 16 5)) (.ofNat 6 (fld w 10 6)))
  | 4 => accepted (fld w 0 8 == 0) (opSpopv (.ofNat 4 (fld w 28 4)) (.ofNat 5 (fld w 16 5)) (.ofNat 5 (fld w 11 5)) (.ofNat 3 (fld w 8 3)))
  | 5 => accepted (fld w 0 10 == 0) (opScard (.ofNat 4 (fld w 28 4)) (.ofNat 5 (fld w 16 5)) (.ofNat 6 (fld w 10 6)))
  | 6 => accepted (true) (opSroute (.ofNat 4 (fld w 28 4)) (.ofNat 5 (fld w 16 5)) (.ofNat 6 (fld w 10 6)) (.ofNat 10 (fld w 0 10)))
  | 7 => accepted (fld w 0 10 == 0) (opSstat (.ofNat 4 (fld w 28 4)) (.ofNat 5 (fld w 16 5)) (.ofNat 6 (fld w 10 6)))
  | 8 => accepted (fld w 0 3 == 0) (opSacc (.ofNat 4 (fld w 28 4)) (.ofNat 5 (fld w 16 5)) (.ofNat 5 (fld w 11 5)) (.ofNat 4 (fld w 7 4)) (.ofNat 3 (fld w 4 3)) (.ofNat 1 (fld w 3 1)))
  | 9 => accepted (fld w 0 21 == 0) (opSflush (.ofNat 4 (fld w 28 4)))
  | 10 => accepted (fld w 4 6 == 0) (opSwsub (.ofNat 4 (fld w 28 4)) (.ofNat 5 (fld w 16 5)) (.ofNat 6 (fld w 10 6)) (.ofNat 4 (fld w 0 4)))
  | 11 => accepted (fld w 4 6 == 0) (opSwjoin (.ofNat 4 (fld w 28 4)) (.ofNat 5 (fld w 16 5)) (.ofNat 6 (fld w 10 6)) (.ofNat 4 (fld w 0 4)))
  | 12 => accepted (fld w 0 10 == 0 && fld w 16 5 == 0) (opSwpop (.ofNat 4 (fld w 28 4)) (.ofNat 6 (fld w 10 6)))
  | 13 => accepted (fld w 0 10 == 0 && fld w 16 5 == 0) (opSwdone (.ofNat 4 (fld w 28 4)) (.ofNat 6 (fld w 10 6)))
  | 14 => accepted (fld w 0 8 == 0 && fld w 16 5 == 0) (opMgpush (.ofNat 4 (fld w 28 4)) (.ofNat 5 (fld w 11 5)) (.ofNat 3 (fld w 8 3)))
  | 15 => accepted (fld w 0 8 == 0 && fld w 16 5 == 0) (opMgpop (.ofNat 4 (fld w 28 4)) (.ofNat 5 (fld w 11 5)) (.ofNat 3 (fld w 8 3)))
  | _ => illegalOp 7

/-- The operation of an instruction that a slot's map assigns. -/
def assigned (slot : Nat) (r : Except DecodeError Instr) : SlotOp :=
  match r with
  | .ok i => slotOp i
  | .error _ => illegalOp slot

/-- The operation of the word w of slot k (R106 to R112). -/
def decodedOp (k w : Nat) : SlotOp :=
  match k with
  | 0 => assigned 0 (decodeC w)
  | 1 => assigned 1 (decodeAB 1 .a w)
  | 2 => assigned 2 (decodeAB 2 .b w)
  | 3 => assigned 3 (decodeM 3 w)
  | 4 => assigned 4 (decodeVW 4 .v w)
  | 5 => assigned 5 (decodeVW 5 .w w)
  | 6 => assigned 6 (decodeX 6 w)
  | _ => decodedS w

/-- The slots of a bundle that hold instructions: slot 2 does not when it is the literal (R86). -/
def liveSlots (bits : Nat) : List Nat := if bundleLit bits then [0, 1, 3, 4, 5, 6, 7] else List.range 8

/-- An expanded bundle as its flags, its literal and its operations (R75 to R77). -/
def XBundle.decode (x : XBundle) : Bun where
  stop := nbit x.bits.toNat 31
  qui := nbit x.bits.toNat 30
  bad := x.bad
  lit := .ofNat 32 (bundleWord x.bits.toNat 2)
  ops := keepOps ((liveSlots x.bits.toNat).map (fun k => decodedOp k (bundleWord x.bits.toNat k)))

/-! ### Issue at the place that program order has reached -/

/-- What stands at the place that a core has reached (R74, R119). -/
inductive Reached where
  | bundle (x : XBundle)
  /-- the place is refused -/
  | refused
  /-- its segment is not resident -/
  | absent

def State.reached (s : State) (c : Nat) : Reached :=
  let k := s.core c
  let f := k.seq.fetch
  if f.bad ∨ ¬ s.inCode c f.pos.seg then .refused
  else match k.resident f.pos.seg with
    | none => .absent
    | some h => match h.bundles[f.pos.idx]? with
      | some x => .bundle x
      | none => .refused

/-- TRA and TRB of END_OF_ROUTE at a place (R74). A place that comes from a record or from PENT is judged here: past
the last bundle of a segment that ends the route it is the first case, elsewhere the third (log 52). -/
def State.routeEnd (s : State) (lead : Nat) (f : Fetch) : Word × Word :=
  if f.tra ≠ 0 then (f.tra, f.trb)
  else match (s.core lead).resident f.pos.seg with
    | some h =>
      if f.pos.idx = h.bundles.length ∧ (h.next = 0 ∨ ¬ s.inCode lead h.next) then (1, posRef ⟨h.seg, h.bundles.length - 1⟩)
      else (3, f.trb)
    | none => (3, f.trb)

/-- END_OF_ROUTE in every member (R74). -/
def State.endOfRoute (s : State) (cs : List Nat) (f : Fetch) : State :=
  let e := s.routeEnd (cs.headD 0) f
  s.deliver cs e.2 (fun _ => ⟨trEndOfRoute, e.1, 1⟩)

/-- UNCORRECTABLE at the next position (R302): the damaged register's number is TRA; reported once, now or when the
save areas can be written (R299, R427). -/
def State.reportUpset (s : State) (cs : List Nat) (creg : Nat) (f : Fetch) : State :=
  let hit (c : Nat) : Bool := (s.core c).seq.upset.isSome
  (s.updCores cs (fun _ k => { k with seq := { k.seq with upset := none } })).deliver cs (posRef f.pos)
    (fun c => ⟨trUncorrectable, .ofNat 32 creg, if hit c then 1 else 0⟩)

/-- Core c can take a pitch fault that stands before its next bundle: the supply is settled and no tower moves
(R294, R302, R311). -/
def State.mayTrap (s : State) (c : Nat) : Bool :=
  match (s.core c).seq.hold with
  | some .supply => false
  | some (.towerMove _) => false
  | _ => true

/-- What a core owes is delivered again (R299, R304). -/
def State.redeliver (s : State) (cs : List Nat) : State :=
  match cs.findSome? (fun d => (s.core d).seq.owes) with
  | some (.hard c) => s.timingHard cs c
  | _ =>
    let owed (d : Nat) : Word × TrapRec := match (s.core d).seq.owes with
      | some (.fault trb code tra mask) => (trb, ⟨code, tra, mask⟩)
      | _ => (0, ⟨0, 0, 0⟩)
    s.deliverAs cs (fun d => (owed d).1) (fun d => (owed d).2)

/-- The bundle that the cores cs have reached issues. -/
def State.issueAt (s : State) (c : Nat) (cs : List Nat) (x : XBundle) : Out :=
  let b := x.decode
  State.issue { s with focus := c, lit := b.lit } cs b

/-- BUNDLE_ISSUE (R97): what stands before the bundle comes first: a fault that waits for the save areas (R299), a
damaged register (R302), a waiting request at a Q point (R306), a hold, a bivouac (R70), a refused place (R74), a
segment that is not resident (R119). -/
def State.issueNext (s : State) (c : Nat) : Out :=
  let cs := s.ropeCores c
  let lead := s.leader c
  let f := (s.core lead).seq.fetch
  if ¬ cs.all (fun c => (s.core c).run.isSome) then .next s
  else if cs.any (fun d => (s.core d).seq.owes.isSome) then .next (s.redeliver cs)
  else match cs.findSome? (fun d => (s.core d).seq.upset) with
    | some n => .next (if cs.all s.mayTrap then s.reportUpset cs n f else s)
    | none =>
      if cs.any s.grantable then .next (s.preemptGrant c)
      else if ¬ s.mayIssue cs then .next s
      else if cs.all (fun d => (s.core d).ripe) then .next (s.doBivouac c)
      else match s.reached lead with
        | .refused => .next (s.endOfRoute cs f)
        | .absent => .next (cs.foldl (fun s d => s.setHold d .expand) s)
        | .bundle x => s.issueAt c cs x

/-- The bundle that core c has reached, if it may issue now. -/
def State.due (s : State) (c : Nat) : Option Bun :=
  if ¬ s.mayIssue (s.ropeCores c) then none
  else match s.reached (s.leader c) with
    | .bundle x => some x.decode
    | _ => none

/-- The results of the slots of a bundle, by slot. -/
def resultsOf (l : List Seen) : List (Nat × List (Nat × RegId × WVal)) :=
  l.filterMap (fun v => match v.out with
    | some o => (match o.res with
      | .ok rs _ _ => some (v.slot, rs.map (fun r => (r.lat, r.dst, r.val)))
      | _ => none)
    | none => none)

/-- The bundle that the members have reached has issued a first time: a replay gives the results of this issue
(R115, R290, R334, R347). -/
def State.noteFirst (s : State) (c : Nat) : State :=
  match s.due c with
  | none => s
  | some b =>
    let at_ : State := { s with lit := b.lit }
    let v (d : Nat) : List Seen := at_.judge d b
    let cs := s.ropeCores c
    if cs.any (fun d => !(holdsOf true (v d)).isEmpty) then s
    else s.updCores cs (fun d k => { k with seq := { k.seq with first := match k.seq.first with
      | none => some (resultsOf (v d))
      | f => f } })

/-- The nullifier may skip the bundle that core c has reached (R103). -/
def State.skippable (s : State) (c : Nat) : Bool :=
  match s.due c with
  | some b => (s.ropeCores c).all (fun d => (s.core d).skips b (s.judge d b))
  | none => false

/-- The bundle that core c has reached is the END of an armed loop (R169). -/
def State.closes (s : State) (c : Nat) : Bool :=
  let k := s.core c
  (s.due c).isSome && k.seq.br.isNone && !(k.closing k.seq.fetch.pos).isEmpty

/-! ### Expansion (R118, R119) -/

/-- The segment that the prefetch engine of core c takes next: the one that issue waits for, else the
one that follows it along the chain. -/
def State.wantedSeg (s : State) (c : Nat) : Option Nat :=
  let k := s.core c
  let f := k.seq.fetch
  if f.bad ∨ ¬ s.inCode c f.pos.seg then none
  else match k.resident f.pos.seg with
    | none => some f.pos.seg
    | some h => if h.next ≠ 0 ∧ s.inCode c h.next ∧ (k.resident h.next).isNone then some h.next else none

/-- A half takes an expanded segment while the other executes; a hold for it ends (R119, R204). -/
def Core.place (k : Core) (h : Half) : Core :=
  let into1 := match k.resident k.seq.fetch.pos.seg with
    | some g => k.seq.half0 == some g
    | none => !k.seq.exec1
  { k with seq := { k.seq with
      retry := none
      half0 := if into1 then k.seq.half0 else some h
      half1 := if into1 then some h else k.seq.half1 } }

/-- Issue no longer waits for a segment. -/
def State.endExpand (s : State) (cs : List Nat) : State :=
  cs.foldl (fun s d => s.updCore d (fun k => if k.seq.hold = some .expand then k.release s.cycle else k)) s

/-- SEGMENT_EXPAND (R118, R119): a rejected header is read once more; a segment that program order has
reached and that cannot be read fails the kernel with CODE_FAULT, any other fails nothing. -/
def State.segmentExpand (s : State) (c : Nat) : State :=
  match s.running c, s.wantedSeg c with
  | some (k, _), some seg =>
    let needed := seg == (s.core c).seq.fetch.pos.seg && s.leader c == c
    let failed (s : State) : State :=
      if needed then s.failKernel k.kid outCodeFault
      else s.updCore c (fun k => { k with seq := { k.seq with retry := none } })
    match s.expand k c seg with
    | .wait s1 => s1
    | .fail s1 => failed s1
    | .rejected s1 =>
      if (s1.core c).seq.retry = some seg then failed s1
      else s1.updCore c (fun k => { k with seq := { k.seq with retry := some seg } })
    | .ok s1 h =>
      let s2 := s1.updCore c (fun k => k.place h)
      if needed then s2.endExpand (s2.ropeCores c) else s2
  | _, _ => s

/-! ### The rows of the sequencer -/

/-- A step row of a unit that the module has. -/
def onUnit (ok : Bool) (s : State) (f : State → State) : Out := if ok then .next (f s) else .fault .noSuchUnit

/-- A step row of core c under a condition. -/
def onCore (c : Nat) (s : State) (p : Bool) (f : State → Out) : Out :=
  if c < 256 then (if p then f s else .next s) else .fault .noSuchUnit

/-- BUNDLE_ISSUE (R97). -/
def execBundleIssue (c : Nat) (s : State) : Out := onCore c s true (fun s => s.issueNext c)
/-- BUNDLE_SKIP (R103): the bundle's result is exactly that of issuing it. -/
def execBundleSkip (c : Nat) (s : State) : Out := onCore c s (s.skippable c) (fun s => s.issueNext c)
/-- SEGMENT_EXPAND (R118, R119). -/
def execSegmentExpand (c : Nat) (s : State) : Out := onUnit (decide (c < 256)) s (fun s => s.segmentExpand c)
/-- LOOP_CLOSE (R169): the close comes about as the END bundle issues. -/
def execLoopClose (c : Nat) (s : State) : Out := onCore c s (s.closes c) (fun s => s.issueNext c)
/-- BIVOUAC (R70). -/
def execBivouac (c : Nat) (s : State) : Out :=
  onCore c s (s.mayIssue (s.ropeCores c)) (fun s => .next (s.doBivouac c))
/-- POP_RELEASE (R98). -/
def execPopRelease (c : Nat) (s : State) : Out := onCore c s (s.held c (· == .pop)) (fun s => s.issueNext c)
/-- PUSH_ROOM (R343). -/
def execPushRoom (c : Nat) (s : State) : Out := onCore c s (s.held c (· == .push)) (fun s => s.issueNext c)
/-- BARWAIT_RELEASE (R177). -/
def execBarwaitRelease (c : Nat) (s : State) : Out := onCore c s (s.held c (· == .barwait)) (fun s => s.issueNext c)
/-- DRAIN_RELEASE (R179): issue goes on, or a request that waited is granted (R306). -/
def execDrainRelease (c : Nat) (s : State) : Out :=
  let drains : Bool := match (s.core c).seq.hold with
    | some (.drain scope q) => !s.drainHolds c scope && !(q && (s.core c).moveDue.isSome)
    | some .grant => true
    | _ => false
  onCore c s drains (fun s =>
    if s.grantable c then .next (s.preemptGrant c) else .next (s.updCore c (fun k => k.release s.cycle)))
/-- SYS_RING_ROOM (R181). -/
def execSysRingRoom (c : Nat) (s : State) : Out := onCore c s (s.held c (· == .sys)) (fun s => s.issueNext c)
/-- MATRIX_QUEUE_ROOM (R315). -/
def execMatrixQueueRoom (c : Nat) (s : State) : Out :=
  onCore c s (s.held c (· == .matrixQueue)) (fun s => s.issueNext c)
/-- TILE_HOLD_RELEASE (R327). -/
def execTileHoldRelease (c : Nat) (s : State) : Out :=
  let tile (h : Hold) : Bool := match h with
    | .tile _ => true
    | _ => false
  onCore c s (s.held c tile) (fun s => s.issueNext c)
/-- TSH_SOURCE_RELEASE (R230). -/
def execTshSourceRelease (c : Nat) (s : State) : Out := onCore c s (s.held c (· == .tsh)) (fun s => s.issueNext c)
/-- POOL_ENTRY_FREE (R392): a `mgpush` held at commit places its partial. -/
def execPoolEntryFree (c : Nat) (s : State) : Out :=
  onCore c s (s.held c (· == .push)) (fun s => s.issueNext c)
/-- PREEMPT_GRANT (R306). -/
def execPreemptGrant (c : Nat) (s : State) : Out := onUnit (decide (c < 256)) s (fun s => s.preemptGrant c)

end Sys2Proof.Machine
end

