-- ==== Sys2Proof/Machine/Queues.lean ====
section
/-!
DEFINITION. Queues of the command processor: rings, scans and shadows (R398 to R404), packets and their
order of start (R405, R408, R409, R414).
-/
namespace Sys2Proof.Machine

/-! ### Packets (R405, R406, R408) -/

/-- n bytes of a packet from byte b on. -/
def pkField (p : BitVec 512) (b n : Nat) : Nat := bits p (8 * b) (8 * n)

def pkType (p : BitVec 512) : Nat := pkField p 0 1
def pkV (p : BitVec 512) : Bool := nbit (pkField p 1 1) 0
def pkBarrier (p : BitVec 512) : Bool := nbit (pkField p 1 1) 1
def pkRcl (p : BitVec 512) : Bool := nbit (pkField p 1 1) 2
def pkSerial (p : BitVec 512) : Word := .ofNat 32 (pkField p 4 4)

/-- What R401 checks in bytes 0 to 15. -/
def pkHeadOk (p : BitVec 512) : Bool :=
  let t := pkType p
  decide (1 ≤ t ∧ t ≤ 5) && pkField p 1 1 / 8 == 0 && (!pkRcl p || t == 1) && pkField p 2 2 == 0 &&
    (t != 4 || pkField p 8 8 % 16 == 0) && (t != 5 || pkField p 8 8 == 0)

/-- What R401 and R408 check in the body. -/
def pkBodyOk (p : BitVec 512) : Bool :=
  match pkType p with
  | 2 => decide (pkField p 24 1 ≤ 2) && pkField p 25 7 == 0 && pkField p 32 32 == 0
  | 3 => decide (pkField p 24 1 ≤ 3) && pkField p 25 3 == 0 && pkField p 32 32 == 0
  | 4 => pkField p 16 48 == 0
  | 5 => pkField p 16 48 == 0
  | _ => true

/-! ### Rings -/

def errSerial : Nat := 1
def errFormat : Nat := 2
def errRead : Nat := 3
def errWaitTimeout : Nat := 4
def errBadObject : Nat := 5

def State.queue (s : State) (pn qn : Nat) : Queue := (s.part pn).queue qn

/-- MSI-X vector v of a partition's function is raised (R441). -/
def State.interrupt (s : State) (pn v : Nat) : State :=
  s.updPart pn (fun p => { p with msix := p.msix.setIfInBounds v ((p.msix[v]?).getD 0 + 1) })

/-- The queue halts with an error code (R398, R401, R441). -/
def State.haltQueue (s : State) (pn qn err : Nat) : State :=
  (s.updQueue pn qn (fun q => { q with halt := true, err := err })).interrupt pn 0

/-- Entries of a queue's ring. -/
def Queue.size (q : Queue) : Nat := 2 ^ q.log
/-- Where the slot of a packet count stands (R398). -/
def Queue.slotVa (q : Queue) (n : Word) : Nat := q.qbase + 64 * (n.toNat % q.size)
/-- A request of a queue of partition pn (R438, R446). -/
def Queue.req (q : Queue) (pn va access : Nat) : WalkRequest := ⟨va, q.asid, access, 0, noCore pn⟩
/-- A packet of count n of the work list whose slot is still to be released: the slot, the address space and bytes
0 to 15 (R401, R404). Another packet of that count, whose slot was released, is not the one in the ring (log 70). -/
def Queue.accepted (q : Queue) (n : Word) : Option (Nat × Nat × List Byte) :=
  q.unreleased.find? (fun e => e.1 == q.slotVa n && (e.2.2.drop 4).take 4 == bytesLE 4 n.toNat)
/-- The first entry of a work list with a property changed. -/
def firstWork (p : Work → Bool) (f : Work → Work) : List Work → List Work
  | [] => []
  | w :: t => if p w then f w :: t else w :: firstWork p f t
/-- The queue's packet of count n that has not started, changed; a count that an earlier packet bore is no
other's (R398, R413). -/
def Queue.updWork (q : Queue) (n : Word) (f : Work → Work) : Queue :=
  { q with work := firstWork (fun w => w.count == n && w.st == .accepted) f q.work }

/-- Bytes 0 to 15 of a packet with V := 0 (R401). -/
def pkReleased (p : BitVec 512) : List Byte := bytesLE 16 (p.toNat - (if pkV p then 256 else 0))

/-- Write V := 0 into the slot of an accepted packet: the slot and the address space that it was accepted from, and
its bytes 0 to 15; the write is retried until it completes (R401, R428). -/
def State.releaseSlot (s : State) (pn qn : Nat) (w : Nat × Nat × List Byte) : State :=
  let r : WalkRequest := ⟨w.1, w.2.1, 2, 0, noCore pn⟩
  match s.openSpan r 16 (.queue pn qn) with
  | .ready s1 => (s1.vwrite r w.2.2).updQueue pn qn (fun q => { q with unreleased := q.unreleased.erase w })
  | .wait s1 => s1
  | .fail s1 => s1
  | .refused s1 => s1
/-- A slot to be released joins the queue's list and is tried at once. -/
def State.release (s : State) (pn qn : Nat) (w : Nat × Nat × List Byte) : State :=
  (s.updQueue pn qn (fun q => { q with unreleased := q.unreleased ++ [w] })).releaseSlot pn qn w
/-- Every release that is not complete is tried again. -/
def State.releaseSlots (s : State) (pn qn : Nat) : State :=
  (s.queue pn qn).unreleased.foldl (fun s n => s.releaseSlot pn qn n) s

/-- QRIDX never stands more than half a ring ahead of its copy K (R403). -/
def Queue.copied (q : Queue) : Queue := if (q.ridx - q.kcopy).toNat ≥ q.size / 2 then { q with kcopy := q.ridx } else q

/-- The packet of count n is accepted (R401, R403, R408). -/
def State.accept (s : State) (pn qn : Nat) (n : Word) (p : BitVec 512) : State :=
  let q := s.queue pn qn
  let s1 := s.updQueue pn qn (fun q => Queue.copied { q with
    work := q.work ++ [⟨n, p, q.asid, q.pri, if pkType p = 5 then .complete else .accepted, s.cycle, 0⟩]
    ridx := n + 1 })
  s1.release pn qn (q.slotVa n, q.asid, pkReleased p)

/-- QUEUE_SCAN (R401). -/
def State.scanLoop (pn qn : Nat) : Nat → State → State
  | 0, s => s
  | fuel + 1, s =>
    let q := s.queue pn qn
    if ¬ q.en ∨ q.halt then s
    else
      let n := q.ridx
      let r := q.req pn (q.slotVa n) 1
      match s.openSpan r 16 (.queue pn qn) with
      | .wait s1 => s1
      | .fail s1 => s1.haltQueue pn qn errRead
      | .refused s1 => s1.haltQueue pn qn errRead
      | .ready s1 =>
        let h : BitVec 512 := .ofNat 512 (ofBytesLE (s1.vread r 16))
        if s1.vbad r 16 then s1.haltQueue pn qn errRead
        else if ¬ pkV h then s1
        else if pkSerial h ≠ n then s1.haltQueue pn qn errSerial
        else if ¬ pkHeadOk h then s1.haltQueue pn qn errFormat
        else
          let rb := q.req pn (q.slotVa n + 16) 1
          match s1.openSpan rb 48 (.queue pn qn) with
          | .wait s2 => s2
          | .fail s2 => s2.haltQueue pn qn errRead
          | .refused s2 => s2.haltQueue pn qn errRead
          | .ready s2 =>
            let p : BitVec 512 := .ofNat 512 (h.toNat + 2 ^ 128 * ofBytesLE (s2.vread rb 48))
            if s2.vbad rb 48 then s2.haltQueue pn qn errRead
            else if ¬ pkBodyOk p then s2.haltQueue pn qn errFormat
            else State.scanLoop pn qn fuel (s2.accept pn qn n p)

/-- A scan of one queue; in base camp and before the hand-over no queue accepts a packet (R401, R451). -/
def State.scan (s : State) (pn qn : Nat) : State :=
  if s.house.stage ≠ 6 then s else State.scanLoop pn qn ((s.queue pn qn).size + 1) s

/-- The virtual function of partition pn answers: not while it is reset (R440, R441, R451, R454). -/
def State.functionOn (s : State) (pn : Nat) : Bool :=
  s.house.stage == 6 && (s.part pn).groups != 0 && s.house.vfs.contains pn && !(s.part pn).resetting

/-- QNOTIFY (R400): the count written is a hint. -/
def State.qnotify (s : State) (pn qn : Nat) : State :=
  if s.functionOn pn ∧ (s.queue pn qn).en then s.scan pn qn else s

/-- QUEUE_SCAN_TIMER (R400); fault entries of failed pulls that found no room are tried again (R427). -/
def State.scanTimer (s : State) (pn : Nat) : State :=
  (List.range 64).foldl (fun s qn =>
    let s1 := s.releaseSlots pn qn
    if (s.queue pn qn).en then s1.scan pn qn else s1) (s.retryPulls pn)

/-- The 16 bytes of the shadow (R402). -/
def Queue.shadow (q : Queue) : List Byte := wordsLE [q.ridx.toNat, (~~~ q.ridx).toNat, q.rcnt.toNat, 0]

/-- SHADOW_WRITE (R402): after every V := 0 write of a packet it counts. -/
def State.shadowWrite (s : State) (pn qn : Nat) : State :=
  let s1 := s.releaseSlots pn qn
  let q := s1.queue pn qn
  if ¬ q.en ∨ ¬ q.unreleased.isEmpty then s1
  else
    let r := q.req pn q.qshd 2
    match s1.openSpan r 16 (.queue pn qn) with
    | .ready s2 => s2.vwrite r q.shadow
    | .wait s2 => s2
    | .fail s2 => s2
    | .refused s2 => s2

/-- How the loop of R404 ends: at a count, at a count with a halt, or not yet, since a header waits for fault
service (R427). -/
inductive Resynced where
  | ended (n : Word)
  | halted (n : Word) (err : Nat)
  | waits
  deriving DecidableEq, Repr

/-- The loop of R404 from count n on. -/
def State.resyncLoop (pn qn : Nat) : Nat → Word → State → State × Resynced
  | 0, n, s => (s, .ended n)
  | fuel + 1, n, s =>
    let q := s.queue pn qn
    let r := q.req pn (q.slotVa n) 1
    match s.openSpan r 16 (.queue pn qn) with
    | .wait s1 => (s1, .waits)
    | .fail s1 => (s1, .halted n errRead)
    | .refused s1 => (s1, .halted n errRead)
    | .ready s1 =>
      let h : BitVec 512 := .ofNat 512 (ofBytesLE (s1.vread r 16))
      let d := (pkSerial h - n).toNat
      if s1.vbad r 16 then (s1, .halted n errRead)
      else if d = q.size then State.resyncLoop pn qn fuel (n + 1) s1
      else if d = 0 ∧ ¬ pkV h then State.resyncLoop pn qn fuel (n + 1) s1
      else match (q.accepted n).filter (fun _ => d == 0) with
        | some w => State.resyncLoop pn qn fuel (n + 1) (s1.releaseSlot pn qn w)
        | none => if d = 0 ∨ d = 2 ^ 32 - q.size then (s1, .ended n) else (s1, .halted n errSerial)

/-- QRIDX_RESYNC (R404): a scan that must wait for a header changes nothing and starts from K again. -/
def State.resync (s : State) (pn qn : Nat) : State :=
  let q := s.queue pn qn
  if ¬ q.en then s
  else
    let ends (s : State) (n : Word) : State :=
      (s.updQueue pn qn (fun q => { q with ridx := n, rcnt := q.rcnt + 1 })).shadowWrite pn qn
    match State.resyncLoop pn qn (2 * q.size + 2) q.kcopy s with
    | (s1, .ended n) => ends s1 n
    | (s1, .halted n e) => ends (s1.haltQueue pn qn e) n
    | (s1, .waits) => s1

/-- QSTAT_HALT_CLEAR (R398). -/
def State.haltClear (s : State) (pn qn : Nat) : State :=
  if s.functionOn pn then s.updQueue pn qn (fun q => { q with halt := false, err := 0 }) else s

/-! ### The order of start (R409, R414) -/

/-- The first packet of the queue that has not started. -/
def Queue.next (q : Queue) : Option Work := q.work.find? (fun w => w.st == .accepted)

/-- QSTAT.WAIT: the head packet is a WAIT that is not yet satisfied (R398). -/
def Queue.headWaits (q : Queue) : Bool := match q.next with
  | some w => pkType w.pkt == 3
  | none => false

/-- Every packet before the next one is complete. -/
def Queue.earlierDone (q : Queue) : Bool :=
  (q.work.takeWhile (fun w => w.st != .accepted)).all (fun w => w.st == .complete)

/-- The next packet, if it may start (R408, R409). -/
def Queue.startable (q : Queue) : Option Work :=
  match q.next with
  | none => none
  | some w => match pkType w.pkt with
    | 1 => if pkBarrier w.pkt ∧ ¬ q.earlierDone then none else some w
    | 3 => some w
    | _ => if q.earlierDone then some w else none

/-- The effective priority of a waiting packet (R414). -/
def Work.effective (w : Work) : Nat := Nat.min 3 (w.pri + w.level)

/-- Queue qn's next packet may start and none of the partition goes before it (R414). -/
def State.elects (s : State) (pn qn type : Nat) : Option Work :=
  match (s.queue pn qn).startable with
  | none => none
  | some w =>
    let before := (List.range 64).any (fun n => match (s.queue pn n).startable with
      | some v => n != qn && (decide (w.effective < v.effective) || (v.effective == w.effective && decide (n < qn))) &&
          !(pkType v.pkt == 3 && (s.queue pn n).wait)
      | none => false)
    if pkType w.pkt = type ∧ ¬ before then some w else none

/-- PACKET_AGING (R414). -/
def State.packetAging (s : State) (pn qn : Nat) : State :=
  match (s.queue pn qn).next with
  | none => s
  | some w =>
    if w.pri + w.level < 3 ∧ w.since + 1000000 * (w.level + 1) ≤ s.cycle then
      s.updQueue pn qn (fun q => q.updWork w.count (fun w => { w with level := w.level + 1 }))
    else s

/-- The packet of count n, which is the one that starts, is complete (R408, R410). -/
def State.completePacket (s : State) (pn qn : Nat) (n : Word) : State :=
  s.updQueue pn qn (fun q => q.updWork n (fun w => { w with st := .complete }))
/-- The LAUNCH packet of a kernel is complete (R413). -/
def State.completeLaunch (s : State) (pn qn : Nat) (kid : Word) : State :=
  s.updQueue pn qn (fun q => { q with
    work := firstWork (fun w => w.st == .running kid) (fun w => { w with st := .complete }) q.work })

def Work.req (w : Work) (pn va access : Nat) : WalkRequest := ⟨va, w.asid, access, 0, noCore pn⟩

/-! ### SIGNAL, WAIT, MARKER, NOP (R408) -/

/-- SIGNAL (R246, R408): one atomic write; a value that stays uncorrectable is not used. -/
def State.signal (s : State) (pn qn : Nat) : State :=
  match s.elects pn qn 2 with
  | none => s
  | some w =>
    let a := pkField w.pkt 8 8
    let v := pkField w.pkt 16 8
    let op := pkField w.pkt 24 1
    let who := Requester.queue pn qn
    let spans := if op = 0 then [(a, 2, 8)] else [(a, 1, 8), (a, 2, 8)]
    match s.openAll w.asid 0 (noCore pn) who spans with
    | .wait s1 => s1
    | .fail s1 => s1
    | .refused s1 => s1
    | .ready s1 =>
      if op ≠ 0 ∧ s1.vbad (w.req pn a 1) 8 then (s1.completePacket pn qn w.count).haltQueue pn qn errRead
      else
        let old := ofBytesLE (s1.vread (w.req pn a 1) 8)
        let new := if op = 0 then v else if op = 1 then old + v else old + 2 ^ 64 - v
        (s1.vwrite (w.req pn a 2) (bytesLE 8 (new % 2 ^ 64))).completePacket pn qn w.count

/-- The comparison of a WAIT (R408). -/
def waitHolds (cmp x v : Nat) : Bool :=
  match cmp with
  | 0 => x == v
  | 1 => x != v
  | 2 => decide (x < v)
  | _ => decide (v ≤ x)

/-- WAIT (R408): one read of the signal. -/
def State.waitPacket (s : State) (pn qn : Nat) : State :=
  match (s.queue pn qn).startable with
  | none => s
  | some w =>
    if pkType w.pkt ≠ 3 ∨ (s.elects pn qn 3).isNone ∧ ¬ (s.queue pn qn).wait then s
    else
      let r := w.req pn (pkField w.pkt 8 8) 1
      let done (s : State) : State := (s.completePacket pn qn w.count).updQueue pn qn (fun q =>
        { q with wait := false, waitSince := none })
      let unmet (s : State) : State := s.updQueue pn qn (fun q => { q with
        wait := true
        waitSince := match q.waitSince with
          | none => some s.cycle
          | t => t })
      match s.openSpan r 8 (.queue pn qn) with
      | .wait s1 => unmet s1
      | .fail s1 => unmet s1
      | .refused s1 => unmet s1
      | .ready s1 =>
        if s1.vbad r 8 then (done s1).haltQueue pn qn errRead
        else if waitHolds (pkField w.pkt 24 1) (ofBytesLE (s1.vread r 8)) (pkField w.pkt 16 8) then done s1
        else unmet s1

/-- WAIT_TIMEOUT (R408). -/
def State.waitTimeout (s : State) (pn qn : Nat) : State :=
  let q := s.queue pn qn
  match q.next, q.waitSince with
  | some w, some t =>
    let tmo := pkField w.pkt 28 4
    if pkType w.pkt = 3 ∧ q.wait ∧ tmo ≠ 0 ∧ t + 1000 * tmo ≤ s.cycle then
      ((s.completePacket pn qn w.count).updQueue pn qn (fun q => { q with wait := false, waitSince := none })).haltQueue
        pn qn errWaitTimeout
    else s
  | _, _ => s

/-- MARKER (R408). -/
def State.marker (s : State) (pn qn : Nat) : State :=
  match s.elects pn qn 4 with
  | none => s
  | some w =>
    let r := w.req pn (pkField w.pkt 8 8) 2
    match s.openSpan r 16 (.queue pn qn) with
    | .ready s1 => (s1.vwrite r (wordsLE [w.count.toNat, 0] ++ bytesLE 8 s.cycle)).completePacket pn qn w.count
    | .wait s1 => s1
    | .fail s1 => s1
    | .refused s1 => s1

/-- NOP_PACKET (R408): a NOP is complete at its acceptance; the step finds nothing to do. -/
def State.nopPacket (s : State) (pn qn : Nat) : State :=
  s.updQueue pn qn (fun q => { q with work := q.work.map (fun w =>
    if pkType w.pkt = 5 then { w with st := .complete } else w) })

end Sys2Proof.Machine
end

