-- ==== Sys2Proof/Machine/Phases.lean ====
section
/-!
DEFINITION. Kernels (R406, R407, R410 to R413), phases and binding (R43 to R46, R414), cairns from pickup
to wake (R54 to R56, R69, R71, R72, R308, R310), ropes (R64 to R67).
-/
namespace Sys2Proof.Machine

/-! ### Launch (R406, R410) -/

/-- A kernel identifier that no live kernel holds (R410): the first free one from a free start on (log 11). -/
def State.freshKid (s : State) : Word :=
  ((List.range (s.kernels.length + 2)).map (fun i => BitVec.ofNat 32 (Config.kidRaw s.tick + i))).find?
    (fun k => k != 0 && (s.kernel k).isNone) |>.getD 1

/-- Limits of R406. -/
def launchOk (p : BitVec 512) : Bool :=
  pkField p 8 8 % 16 == 0 && pkField p 16 8 % 32 == 0 && pkField p 24 8 % 64 == 0 && pkField p 32 8 % 8 == 0 &&
    pkField p 40 8 % 8 == 0 && decide (1 ≤ pkField p 56 2) &&
    decide (1 ≤ pkField p 58 1 ∧ pkField p 58 1 ≤ 8) && decide (1 ≤ pkField p 59 1 ∧ pkField p 59 1 ≤ 128)

/-- An entry of the schedule table (R407). -/
structure Sched where
  bound : Nat
  v : Nat
  ncairn : Nat
  handler : Nat
  tmpl : Nat
  /-- the limits of R407 hold -/
  ok : Bool
  deriving DecidableEq, Repr

def Sched.ofBytes (nmax : Nat) (l : List Byte) : Sched :=
  let f (b n : Nat) : Nat := ofBytesLE ((l.drop b).take n)
  ⟨f 0 4, f 4 2, f 6 2, f 8 4, f 16 8,
   decide (1 ≤ f 4 2 ∧ f 4 2 ≤ 1024) && decide (1 ≤ f 6 2 ∧ f 6 2 ≤ nmax) && f 12 4 == 0 && f 24 8 == 0⟩

/-- The schedule table as read. -/
def schedTable (n nmax : Nat) (l : List Byte) : List Sched :=
  (List.range n).map (fun i => Sched.ofBytes nmax ((l.drop (32 * i)).take 32))

/-- The n bytes of an object lie on belayed HBM pages of the partition (R410). -/
def State.belayedHere (s : State) (pn : Nat) (r : WalkRequest) (n : Nat) : Bool :=
  (splitLines r.va n).all (fun l => match s.locate { r with va := l.1 } with
    | .at (.hbm k _ b) => b && s.stackPart k == some pn
    | .at (.moving k _ _ _ _ _ b) => b && s.stackPart k == some pn
    | _ => false)

/-- A kernel's reads of an object by the command processor (R410). -/
inductive Fetched where
  | ok (s : State) (l : List Byte)
  | wait (s : State)
  | bad (s : State)

def State.fetchObj (s : State) (who : Requester) (k : Kernel) (va n : Nat) : Fetched :=
  let r := k.req va 1 (noCore k.pn)
  match s.openSpan r n who with
  | .wait s1 => .wait s1
  | .fail s1 => .bad s1
  | .refused s1 => .bad s1
  | .ready s1 => if s1.vbad r n then .bad s1 else .ok s1 (s1.vread r n)

/-- The kernel of a LAUNCH packet before its first phase. -/
def State.newKernel (s : State) (pn qn : Nat) (w : Work) (kid : Word) : Kernel where
  kid := kid
  pn := pn
  qn := qn
  serial := w.count
  code := pkField w.pkt 8 8
  stab := pkField w.pkt 16 8
  carr := pkField w.pkt 24 8
  sig := pkField w.pkt 32 8
  sts := pkField w.pkt 40 8
  plst := pkField w.pkt 48 8
  nphase := pkField w.pkt 56 2
  nsched := pkField w.pkt 58 1
  clen := pkField w.pkt 59 1
  nmax := pkField w.pkt 60 4
  rcl := pkRcl w.pkt
  asid := w.asid
  pri := w.pri
  images := s.house.images.map (·.1)
  order := s.launches
  phase := 0
  started := false
  since := s.cycle
  waits := false
  handler := 0xFFFFFFFF
  v := 0
  bind := []
  took := []
  cairns := []
  outcome := none
  orderLost := false
  accFault := false
  wrote := []
  again := []

/-- LAUNCH (R406, R410). Until the kernel starts, its queue asks for the pages. -/
def State.launch (s : State) (pn qn : Nat) : State :=
  match s.elects pn qn 1 with
  | none => s
  | some w =>
    let k := s.newKernel pn qn w s.freshKid
    let who := Requester.queue pn qn
    let objs := (if k.sig = 0 then [] else [(k.sig, 2, 8)]) ++ (if k.sts = 0 then [] else [(k.sts, 2, 8)])
    let reject (s : State) : State := (s.completePacket pn qn w.count).haltQueue pn qn errBadObject
    match s.openAll k.asid 0 (noCore pn) who objs with
    | .wait s1 => s1
    | .fail s1 => reject s1
    | .refused s1 => reject s1
    | .ready s1 =>
      if ¬ objs.all (fun o => s1.belayedHere pn (w.req pn o.1 2) o.2.2) then reject s1
      else
        let start (s : State) (o : Option Word) : State :=
          { (s.updQueue pn qn (fun q => q.updWork w.count (fun w => { w with st := .running k.kid }))) with
            kernels := s.kernels ++ [{ k with outcome := o }]
            launches := s.launches + 1 }
        if ¬ launchOk w.pkt then start s1 (some outBadLaunch)
        else match s1.fetchObj who k k.stab (32 * k.nsched) with
          | .wait s2 => s2
          | .bad s2 => start s2 (some outBadLaunch)
          | .ok s2 l =>
            match s2.fetchObj who k k.plst (4 * k.nphase) with
            | .wait s3 => s3
            | .bad s3 => start s3 (some outBadLaunch)
            | .ok s3 _ => start s3 (if (schedTable k.nsched k.nmax l).all (·.ok) then none else some outBadLaunch)

/-! ### Binding (R45, R414) -/

/-- The kernel runs a phase (R414). -/
def Kernel.inPhase (k : Kernel) : Bool :=
  k.outcome.isNone && k.started && !k.cairns.all (fun q => q.st == .done)

def clusterCores (cl : Nat) : List Nat := [4 * cl, 4 * cl + 1, 4 * cl + 2, 4 * cl + 3]
/-- Clusters of a partition in ascending order (R446). -/
def State.partClusters (s : State) (pn : Nat) : List Nat :=
  (List.range 64).filter (fun cl => (s.part pn).groups.getLsbD (clusterGroup cl))
/-- Free clusters of a partition (R45, R414). -/
def State.freeClusters (s : State) (pn : Nat) : List Nat :=
  (s.partClusters pn).filter (fun cl =>
    !s.kernels.any (fun k => (k.inPhase && k.bind.contains cl) || (k.keepsTaken && k.tookAt cl != 0)) &&
      (clusterCores cl).any (fun c => !(s.core c).margin.quar))

/-- The effective priority of a kernel whose phase waits (R414). -/
def State.waitPriority (s : State) (k : Kernel) : Nat := Nat.min 3 (k.pri + (s.cycle - k.since) / 1000000)

/-- Waiting phase a goes before b: by effective priority, then by queue number (R414). -/
def State.phaseBefore (s : State) (a b : Kernel) : Bool :=
  decide (s.waitPriority b < s.waitPriority a) || (s.waitPriority a == s.waitPriority b &&
    (decide (a.qn < b.qn) || (a.qn == b.qn && decide (a.order < b.order))))
/-- No waiting phase of the partition goes before kernel k, or k binds the clusters that it took (R414). -/
def State.bindsNext (s : State) (k : Kernel) : Bool :=
  !k.took.isEmpty || !s.kernels.any (fun o => o.waits && o.pn == k.pn && o.kid != k.kid && o.outcome.isNone &&
    o.took.isEmpty && s.phaseBefore o k)
/-- The phase waits for clusters (R45, R414). -/
def State.phaseWaits (s : State) (kid : Word) : State := s.updKernel kid (fun k => { k with waits := true })

/-- Kernels from which clusters are taken: the lowest PRI first, in one PRI the last started (R414). -/
def victimBefore (a b : Kernel) : Bool := decide (a.pri < b.pri) || (a.pri == b.pri && decide (b.order < a.order))
def victimInsert (k : Kernel) : List Kernel → List Kernel
  | [] => [k]
  | x :: t => if victimBefore x k then x :: victimInsert k t else k :: x :: t

/-- The clusters that a kernel may take, in order of taking (R414). -/
def State.takeable (s : State) (k : Kernel) : List Nat :=
  let low := s.kernels.filter (fun t => t.kid != k.kid && t.pn == k.pn && t.inPhase && decide (t.pri < s.waitPriority k))
  (low.foldl (fun a t => victimInsert t a) []).flatMap (fun t =>
    (s.partClusters k.pn).filter (fun cl => t.bind.contains cl && !s.takenFrom t cl))

/-- CLUSTER_PREEMPTION (R414): up to V clusters are taken and their cairns asked to leave (R306). -/
def State.takeClusters (s : State) (k : Kernel) (v : Nat) : State :=
  let cls := ((s.takeable k).eraseDups).take v
  let s1 := s.updKernel k.kid (fun k => { k with took := cls.map (fun cl => (cl, s.cycle)) })
  (cls.flatMap clusterCores).foldl (fun s c => match (s.core c).run with
    | some e => if e.1 = k.kid then s else s.requestPreempt c
    | none => s) s1

/-- The clusters over which the phase is folded; none while it must wait. -/
def State.bindable (s : State) (k : Kernel) : Option (List Nat) :=
  if k.took.isEmpty then
    match s.freeClusters k.pn with
    | [] => none
    | f => some f
  else
    let f := (s.partClusters k.pn).filter (fun cl => k.tookAt cl != 0)
    if f.all (fun cl => (clusterCores cl).all (fun c => match (s.core c).run with
      | some e => e.1 == k.kid
      | none => true)) then some f else none

/-! ### Phase start (R44, R53, R410) -/

/-- The schedule for a phase size (R44). -/
def pickSched (size : Nat) (l : List Sched) : Option Sched :=
  l.foldl (fun o e => if size ≤ e.bound then
      (match o with
       | none => some e
       | some b => if e.bound < b.bound then some e else some b)
    else o) none

/-- What R53 checks in one initial record. -/
def recordOk (v : Nat) (r : BitVec 512) : Bool :=
  recTagOk r && recField r 9 4 == 0 && recField r 128 8 == 0 &&
    (recField r 317 3 == 0 || decide (4 ≤ recField r 317 3)) && decide (recField r 305 10 < v)

/-- Two cairns of one virtual cluster are pinned to one position (R53). -/
def pinClash : List (BitVec 512) → Bool
  | [] => false
  | r :: t => (recField r 317 3 != 0 && t.any (fun x => recField x 317 3 == recField r 317 3 &&
      recField x 305 10 == recField r 305 10)) || pinClash t

/-- An initial record as the command processor writes it (R48 to R53). -/
def recordLaunch (asid : Nat) (r : BitVec 512) : BitVec 512 :=
  let r := recPut r 57 7 0
  let r := recPut r 64 64 (recField r 0 64)
  let r := recPut r 192 64 0
  let r := recPut r 256 32 (recField r 259 2 * 8)
  let r := recPut r 315 2 0
  let r := recPut r 288 13 asid
  let r := recPut r 320 32 (recField r 321 7 * 2 + 1)
  let r := recPut r 416 32 0xFFFFFFFF
  recPut r 448 32 0

/-- What a record says of its cairn, for the run that it governs (R51, R52, R54). -/
def Cairn.govern (q : Cairn) (r : BitVec 512) : Cairn :=
  { q with
    pri := recField r 259 2
    pin := recField r 317 3
    vcl := recField r 305 10
    role := recField r 301 4
    save := recField r 128 64 }

/-- The device's view of an initial record. -/
def Cairn.ofRecord (ix now : Nat) (r : BitVec 512) : Cairn where
  ix := ix
  st := .ready
  pri := recField r 259 2
  pin := recField r 317 3
  vcl := recField r 305 10
  role := recField r 301 4
  ropew := 0
  sum := false
  only := none
  since := now
  level := 0
  ropeWait := none
  save := recField r 128 64
  lcLast := 0

/-- The cairns of a phase are copied, checked, written, and linked into the run queues (R53, R56, R410). -/
def State.launchCairns (s : State) (k : Kernel) (e : Sched) (f : List Nat) : State :=
  match s.fetchObj (.kernel k.kid) k e.tmpl (64 * e.ncairn) with
  | .wait s1 => s1
  | .bad s1 => s1.failKernel k.kid outBadLaunch
  | .ok s1 l =>
    let recs := (List.range e.ncairn).map (fun i => BitVec.ofNat 512 (ofBytesLE ((l.drop (64 * i)).take 64)))
    let opened (s : State) (spans : List (Nat × Nat × Nat)) (f : State → State) : State :=
      match s.openAll k.asid k.kid.toNat (noCore k.pn) (.kernel k.kid) spans with
      | .wait s2 => s2
      | .fail s2 => s2
      | .refused s2 => s2
      | .ready s2 => f s2
    opened s1 [(k.carr, 2, 64 * e.ncairn)] (fun s2 =>
      let s3 := s2.vwrite (k.req k.carr 2 (noCore k.pn)) l
      if ¬ recs.all (recordOk e.v) ∨ pinClash recs then s3.failKernel k.kid outBadCairn
      else opened s3 (recs.map (fun r => (recField r 128 64, 2, 4))) (fun s4 =>
        let numbered := (List.range e.ncairn).zip (recs.map (recordLaunch k.asid))
        let s5 := numbered.foldl (fun s x => s.recWrite k x.1 x.2) s4
        let s6 := recs.foldl (fun s r => s.vwrite (k.req (recField r 128 64) 2 (noCore k.pn)) (zeros 4)) s5
        let k1 : Kernel := { k with
          started := true
          waits := false
          handler := .ofNat 32 e.handler
          v := e.v
          bind := (List.range e.v).map (fun v => f.getD (v % f.length) 0)
          cairns := numbered.map (fun x => Cairn.ofRecord x.1 s.cycle x.2) }
        let s7 := s6.updKernel k.kid (fun _ => k1)
        (List.range e.ncairn).foldl (fun s ix => s.enqueue k1 ix ((k1.cairn ix).map (·.vcl) |>.getD 0)) s7))

/-- A kernel whose next phase has not started. -/
def State.startNext (s : State) (k : Kernel) : State :=
  match s.fetchObj (.kernel k.kid) k (k.plst + 4 * k.phase) 4 with
  | .wait s1 => s1
  | .bad s1 => s1.failKernel k.kid outBadLaunch
  | .ok s1 pl =>
    match s1.fetchObj (.kernel k.kid) k k.stab (32 * k.nsched) with
    | .wait s2 => s2
    | .bad s2 => s2.failKernel k.kid outBadLaunch
    | .ok s2 l =>
      match pickSched (ofBytesLE pl) (schedTable k.nsched k.nmax l) with
      | none => s2.failKernel k.kid outNoSchedule
      | some e =>
        if ¬ e.ok then s2.failKernel k.kid outBadLaunch
        else match s2.bindable k with
          | some f => if s2.bindsNext k then s2.launchCairns k e f else s2.phaseWaits k.kid
          | none => if k.took.isEmpty then (s2.phaseWaits k.kid).takeClusters k e.v else s2

/-- The records of some cairns of a kernel are opened for writing (R55). -/
def State.openCairns (k : Kernel) : List Nat → State → SaveOpen
  | [], s => .ready s
  | ix :: t, s => match s.openAll k.asid k.kid.toNat (noCore k.pn) (.kernel k.kid) [(k.recVa ix, 2, 64)] with
    | .ready s1 => State.openCairns k t s1
    | .wait s1 => .wait s1
    | .fail s1 => .lost ix s1
    | .refused s1 => .lost ix s1

/-- A PARKED cairn becomes READY, its record written without BIV and SUM (R51, R55). -/
def State.wake (s : State) (k : Kernel) (ix : Nat) (only : Option Nat) : State :=
  let s1 := s.recWrite k ix (recPut (recPut (s.recHeld k ix) 256 3 0) 261 2 0)
  let s2 : State := { s1 with monitors := s1.monitors.filter (fun m => !(m.kid == k.kid && m.cix == ix)) }
  s2.makeReady k ix only

/-- PARKED cairns are woken together, each on the core given; where a record cannot be written its cairn is LOST
(R55, R309). -/
def State.wakeAll (s : State) (k : Kernel) (l : List (Nat × Option Nat)) : State :=
  match State.openCairns k (l.map (·.1)) s with
  | .ready s1 => l.foldl (fun s e => s.wake k e.1 e.2) s1
  | .wait s1 => s1
  | .lost ix s1 => s1.loseCairn k.kid ix

/-- The cairns of a kernel that a recovery resumes become READY once their records can be written (R410, R417). -/
def State.resumeAgain (s : State) (k : Kernel) : State :=
  let s1 := s.wakeAll k k.again
  match State.openCairns k (k.again.map (·.1)) s with
  | .ready _ => s1.updKernel k.kid (fun k => { k with again := [] })
  | _ => s1

/-- PHASE_START (R44, R45); cairns that wait to be resumed come first (R417). -/
def State.phaseStart (s : State) (kid : Word) : State :=
  match s.kernel kid with
  | none => s
  | some k =>
    if k.outcome.isSome then s
    else if ¬ k.again.isEmpty then s.resumeAgain k
    else if ¬ k.started then s.startNext k
    else if k.cairns.all (fun q => q.st == .done) ∧ k.phase + 1 < k.nphase then
      let k1 : Kernel := { k with phase := k.phase + 1, started := false, since := s.cycle, waits := false, bind := [], took := [], cairns := [] }
      (s.updKernel kid (fun _ => k1)).startNext k1
    else s

/-! ### Pickup (R54 to R56, R72, R308, R310) -/

/-- Another member of the rope that this cairn belongs to waits for it (R65). -/
def State.wanted (s : State) (k : Kernel) (q : Cairn) : Bool :=
  decide (4 ≤ q.pin) && k.cairns.any (fun x => x.vcl == q.vcl && x.ix != q.ix && x.st == .running &&
    (match x.ropeWait with
     | some w => (w == 1 || x.pin / 2 == q.pin / 2) && (s.core (k.pinnedCore x)).seq.hold == some (.rope w)
     | none => false))

/-- The rank of a cairn in the choice of a core: wanted members first, then effective priority (R65, R72). -/
def State.rank (s : State) (k : Kernel) (q : Cairn) : Nat := if s.wanted k q then 4 else q.effective

/-- The cairn that core c picks: the highest rank, the first in of that rank (R56, R72). -/
def State.choice (s : State) (c : Nat) : Option (Kernel × Cairn) :=
  (s.cluster (c / 4)).runq.foldl (fun best e => match s.kernel e.1 with
    | none => best
    | some k => match k.cairn e.2 with
      | none => best
      | some q =>
        if ¬ s.canPick c k q then best
        else match best with
          | none => some (k, q)
          | some b => if s.rank b.1 b.2 < s.rank k q then some (k, q) else best) none

/-- The core with the values that a cairn starts with: those of a fresh start, identities and counters
from its record (R201, R203, R308). R74 names no case for a RESUME that stands at no bundle: past the last bundle
of a segment it is judged as the first case, elsewhere as the third with its own reference (log 52). -/
def Core.load (k : Core) (n : Kernel) (pos : Nat) (r : BitVec 512) (now : Nat) : Core :=
  let w := recField r 315 2
  let regs : Regs := { Regs.zero with
    p := .ofFn (fun i => ⟨nbit (recField r 320 8) i.val, 0⟩)
    lc := .ofFn (fun i => ⟨.ofNat 32 (recField r (352 + 32 * i.val) 32), 0, ⟨0, 0⟩, none, false⟩) }
  let ctl : Ctl := { Ctl.zero with
    kid := n.kid
    asid := .ofNat 13 (recField r 288 13)
    vcl := .ofNat 10 (recField r 305 10)
    role := .ofNat 4 (recField r 301 4)
    ropeW := .ofNat 2 w
    lead := .ofNat 2 (if w = 1 then pos / 2 * 2 else 0)
    hndl := n.handler
    pent := addrPos (recField r 64 64) }
  { k with
    run := none
    regs := regs
    ctl := ctl
    pend := []
    matBlk := []
    recd := r
    spr := k.sparing
    seq := { Seq.zero with
      fetch := Fetch.here (addrPos (recField r 0 64))
      pos := k.seq.pos
      pser := .ofNat 16 (recField r 336 16)
      holdSince := now } }

/-- What restoring one cairn answers. -/
inductive Restored where
  | ok (s : State) (r : BitVec 512) (save : Option (List Byte))
  | wait (s : State)
  | lost (s : State)

/-- A record as read is sound (R53, R54). -/
def recordSound (r : BitVec 512) : Bool := recTagOk r && decide (recField r 256 3 < 6)

/-- A cairn's record from the first copy that holds (R54). -/
def State.readRecord (s : State) (c : Nat) (k : Kernel) (ix : Nat) : Restored :=
  let r := k.req (k.recVa ix) 1 c
  match s.openSpan r 64 (.record c) with
  | .wait s1 => .wait s1
  | .fail s1 => .lost s1
  | .refused s1 => .lost s1
  | .ready s1 =>
    let a : BitVec 512 := .ofNat 512 (ofBytesLE (s1.vread r 64))
    let b : BitVec 512 := .ofNat 512 (ofBytesLE (s1.mirrorRead r 64))
    if ¬ s1.vbad r 64 ∧ recordSound a then .ok s1 a none
    else if s1.belayed r ∧ s1.mirrorSound r 64 ∧ recordSound b then .ok s1 b none
    else .lost s1

/-- SAVE_AREA_RESTORE (R310): the save area of the cairn whose record is r. -/
def State.readSave (s : State) (c : Nat) (k : Kernel) (ix : Nat) (r : BitVec 512) : Restored :=
  let q := k.req (recField r 128 64) 1 c
  let all (s0 : State) : Restored :=
    match s0.openSpan q 0x3550 (.record c) with
    | .wait s1 => .wait s1
    | .fail s1 => .lost s1
    | .refused s1 => .lost s1
    | .ready s1 =>
      let a := s1.vread q 0x3550
      let b := s1.mirrorRead q 0x3550
      if ¬ s.primaryBad q 0x3550 ∧ ¬ s1.vbad q 0x3550 ∧ saveOk a ix (recField r 336 16) then .ok s1 r (some a)
      else if s1.belayed q ∧ s1.mirrorSound q 0x3550 ∧ saveOk b ix (recField r 336 16) then .ok s1 r (some b)
      else .lost s1
  match s.openSpan q 4 (.record c) with
  | .wait s1 => .wait s1
  | .fail s1 => .lost s1
  | .refused s1 => .lost s1
  | .ready s1 =>
    if ¬ s1.vbad q 4 then (if ofBytesLE (s1.vread q 4) = 0 then .ok s1 r none else all s1)
    else if s1.belayed q ∧ s1.mirrorSound q 4 then
      (if ofBytesLE (s1.mirrorRead q 4) = 0 then .ok s1 r none else all s1)
    else .lost s1

/-- Everything that a pickup reads of one cairn. -/
def State.readCairn (s : State) (c : Nat) (k : Kernel) (ix : Nat) : Restored :=
  match s.readRecord c k ix with
  | .ok s1 r _ => s1.readSave c k ix r
  | o => o

/-- The cairn of a record and its save area runs on core c (R54, R55, R65, R204). The record governs the run;
the device has kept which loop counter was armed most recently (R169, log 51). The kernel counts as having written
the core's towers (R417, log 12). -/
def State.install (s : State) (c : Nat) (k : Kernel) (q : Cairn) (r : BitVec 512) (save : Option (List Byte)) : State :=
  let s1 := s.dequeue k q.ix q.vcl
  let s2 := s1.updCore c (fun x =>
    let x1 := x.load k (c % 4) r s.cycle
    let x2 := match save with
      | some l => x1.restore l
      | none => x1
    { x2.noWatch with
      run := some (k.kid, q.ix)
      regs := { x2.regs with lcLast := q.lcLast }
      seq := { x2.noWatch.seq with hold := q.ropeWait.map Hold.rope }
      cnt := { x2.cnt with pick := x2.cnt.pick + 1 } })
  ((s2.hold k.kid q.ix r).noteWrote k.kid (some (256 + c))).updCairn k.kid q.ix (fun q =>
    { q.govern r with st := .running, only := none, level := 0 })

/-- The members of a pickup, one after another; all are read before any is installed (R67). -/
def State.readMembers (k : Kernel) : List (Nat × Cairn) → State → List (Nat × Cairn × BitVec 512 × Option (List Byte)) →
    State × Option (Except Nat (List (Nat × Cairn × BitVec 512 × Option (List Byte))))
  | [], s, acc => (s, some (.ok acc))
  | (c, q) :: t, s, acc => match s.readCairn c k q.ix with
    | .ok s1 r sv => s1.readMembers k t (acc ++ [(c, q, r, sv)])
    | .wait s1 => (s1, none)
    | .lost s1 => (s1, some (.error q.ix))

/-- CAIRN_PICKUP (R54, R56, R72): core c picks the cairn if it is its choice. -/
def State.pickup (s : State) (c : Nat) (kid : Word) (ix : Nat) : State :=
  match s.choice c with
  | none => s
  | some (k, q) =>
    if k.kid ≠ kid ∨ q.ix ≠ ix then s
    else
      let who := (k.ropeOf q).map (fun x => (if x.ix = q.ix then c else k.pinnedCore x, x))
      match State.readMembers k who s [] with
      | (s1, none) => s1
      | (s1, some (.error lost)) => s1.loseCairn kid lost
      | (s1, some (.ok l)) => l.foldl (fun s e => s.install e.1 k e.2.1 e.2.2.1 e.2.2.2) s1

/-! ### Wake (R51, R55, R56, R71, R72) -/

/-- The cycles of a timeout code (R71). -/
def parkInterval (t : Nat) : Nat := (8 + t % 8) * 2 ^ (t / 8)

/-- A PARKED cairn wakes with every member of its rope, each on the core whose line it watches (R56, R173). -/
def State.wakeParked (s : State) (k : Kernel) (ix : Nat) : State :=
  match k.cairn ix with
  | none => s
  | some q => s.wakeAll k ((k.ropeOf q).filterMap (fun x =>
      (s.monitors.find? (fun m => m.kid == k.kid && m.cix == x.ix)).map (fun m => (x.ix, some m.core))))

/-- The monitor of a parked cairn, its kernel running. -/
def State.monitorOf (s : State) (kid : Word) (ix : Nat) : Option (Kernel × Monitor) :=
  match s.kernel kid, s.monitors.find? (fun m => m.kid == kid && m.cix == ix) with
  | some k, some m => if k.outcome.isNone then some (k, m) else none
  | _, _ => none

/-- PARK_WAKE (R71). -/
def State.parkWake (s : State) (kid : Word) (ix : Nat) : State :=
  match s.monitorOf kid ix with
  | some (k, m) => if m.hit then s.wakeParked k ix else s
  | none => s

/-- PARK_TIMEOUT (R71). -/
def State.parkTimeout (s : State) (kid : Word) (ix : Nat) : State :=
  match s.monitorOf kid ix with
  | some (k, m) => if m.tmo ≠ 0 ∧ m.since + parkInterval m.tmo ≤ s.cycle then s.wakeParked k ix else s
  | none => s

/-- PRIORITY_AGING (R72). -/
def State.priorityAging (s : State) (kid : Word) (ix : Nat) : State :=
  match s.kernel kid with
  | none => s
  | some k => match k.cairn ix with
    | none => s
    | some q =>
      let age := (s.cluster (k.home q.vcl)).age.toNat
      if q.st = .ready ∧ age ≠ 0 ∧ q.pri + q.level < 3 ∧ q.since + age * (q.level + 1) ≤ s.cycle then
        s.updCairn kid ix (fun q => { q with level := q.level + 1 })
      else s

/-! ### Summits (R69, R241) and completion (R242, R413) -/

/-- Every command that the kernel's cairns issued has completed (R413). -/
def State.commandsDone (s : State) (kid : Word) : Bool :=
  s.cores.toList.all (fun k =>
    [0, 2, 4, 6, 32].all (fun q => match k.fifos[q]? with
      | some f => f.els.all (fun e => e.kid != kid)
      | none => true) &&
    k.jobs.toList.all (fun l => l.all (fun j => j.kid != kid)) &&
    k.mat.queue.all (fun q => q.kid != kid))

/-- Every remote operation of the kernel's cairns has been performed: commands, elements on their way,
subscriptions, and the pages that they cause to be read and to land (R231, R235, R241). -/
def State.remoteDone (s : State) (kid : Word) : Bool :=
  s.commandsDone kid && s.cores.toList.all (fun k =>
    k.skids.toList.all (fun l => l.all (fun e => e.2.kid != kid)) && k.subs.all (fun e => e.kid != kid)) &&
  s.sweeps.all (fun w => w.kid != kid || w.members.all (fun m => !w.owes m))

/-- A word in flight that an operation of the kernel, of whichever phase, writes (R231, R242); a mirror copy takes no
part in system scope (R237). -/
def Kernel.writes (k : Kernel) (f : Inbound) : Bool :=
  f.kid == k.kid && !f.mirrored && (match f.who with
    | .ingest _ => false
    | .ridge _ => false
    | _ => true)

/-- The staged accumulations of a kernel are applied, and every word that it writes is complete (R241, R242,
R374). -/
def State.settleKernel (s : State) (k : Kernel) : Upd :=
  match s.applyAll (.kernel k.kid) k.kid with
  | .error s1 => .error s1
  | .ok s1 => .ok ((s1.complete k.writes).landed (.kernel k.kid))

/-- SUMMIT_EXCHANGE (R69, R241). -/
def State.summitExchange (s : State) (kid : Word) : State :=
  match s.kernel kid with
  | none => s
  | some k =>
    let arrived := k.cairns.filter (fun q => q.st == .parked && q.sum)
    if k.outcome.isSome ∨ arrived.isEmpty ∨ ¬ k.cairns.all (fun q => q.st == .done || (q.st == .parked && q.sum)) ∨
      ¬ s.remoteDone kid then s
    else match s.settleKernel k with
      | .error s1 => s1
      | .ok s1 => s1.wakeAll k (arrived.map (fun q => (q.ix, none)))

/-- The status that a kernel completes with (R411). -/
def Kernel.status (k : Kernel) : Word :=
  (k.outcome.getD 0) ||| (if k.orderLost then 0x80000000 else 0) ||| (if k.accFault then 0x40000000 else 0)

/-- KERNEL_COMPLETION (R413): status, signal and work list in one transaction. -/
def State.completion (s : State) (kid : Word) : State :=
  match s.kernel kid with
  | none => s
  | some k =>
    let finished := k.outcome.isSome ||
      (k.started && k.cairns.all (fun q => q.st == .done) && decide (k.nphase ≤ k.phase + 1))
    if ¬ finished ∨ ¬ s.commandsDone kid then s
    else match s.settleKernel k with
      | .error s1 => s1
      | .ok s1 =>
        let k1 := (s1.kernel kid).getD k
        let spans := (if k.sts = 0 then [] else [(k.sts, 2, 8)]) ++ (if k.sig = 0 then [] else [(k.sig, 1, 8), (k.sig, 2, 8)])
        match s1.openAll k.asid 0 (noCore k.pn) (.kernel kid) spans with
        | .wait s2 => s2
        | .fail s2 => s2
        | .refused s2 => s2
        | .ready s2 =>
          let req (va access : Nat) : WalkRequest := ⟨va, k.asid, access, 0, noCore k.pn⟩
          let s3 := if k.sts = 0 then s2 else s2.vwrite (req k.sts 2) (wordsLE [k1.status.toNat, k.serial.toNat])
          let bad := k.sig ≠ 0 ∧ s2.vbad (req k.sig 1) 8
          let s4 := if k.sig = 0 ∨ bad then s3
            else s3.vwrite (req k.sig 2) (bytesLE 8 ((ofBytesLE (s3.vread (req k.sig 1) 8) + 2 ^ 64 - 1) % 2 ^ 64))
          let s5 := ((s4.completeLaunch k.pn k.qn kid).discard kid).unhold kid
          let s6 : State := { s5 with kernels := s5.kernels.filter (fun x => x.kid != kid) }
          if bad then s6.haltQueue k.pn k.qn errRead else s6

/-! ### Ropes (R64 to R66) -/

/-- The pinned positions of the members of a rope of field w at position pos (R64). -/
def ropePositions (pos w : Nat) : List Nat := if w = 0 then [pos / 2 * 2, pos / 2 * 2 + 1] else [0, 1, 2, 3]

/-- ROPE_CLOSE (R65, R66) as core c waits; a trap that a waiting member still owes comes first (R427), and a tower
that is to move at this Q point moves first (R311). Where members wait with both widths, every waiting member of the
virtual cluster takes the trap. -/
def State.ropeClose (s : State) (c : Nat) : State :=
  match (s.core c).seq.hold, s.running c with
  | some (.rope w), some (k, q) =>
    let pos := ropePositions (c % 4) w
    let member (p : Nat) : Option Cairn := k.cairns.find? (fun x => x.vcl == q.vcl && x.pin == 4 + p)
    let core (p : Nat) : Nat := c / 4 * 4 + p
    let waits (p : Nat) : Option Nat := match member p with
      | some x => if (s.core (core p)).run = some (k.kid, x.ix) then (match (s.core (core p)).seq.hold with
          | some (.rope v) => some v
          | _ => none) else none
      | none => none
    let waiting (l : List Nat) : List Nat := (l.filter (fun p => (waits p).isSome)).map core
    let later := ([0, 1, 2, 3].any (fun p => (waits p).isSome && (s.core (core p)).seq.owes.isSome))
    let moves := pos.any (fun p => (s.core (core p)).moveDue.isSome)
    let gone := pos.any (fun p => match member p with
      | none => true
      | some x => x.st == .done || x.st == .lost || x.st == .trapped)
    let diverge (l : List Nat) (tra : Word) : State :=
      s.deliverAs (waiting l) (fun d => posRef (s.core d).seq.fetch.pos) (fun _ => ⟨trRopeDivergence, tra, 1⟩)
    if later then s
    else if pos.any (fun p => match waits p with
      | some v => v != w
      | none => false) then diverge [0, 1, 2, 3] 2
    else if gone then diverge pos 3
    else if pos.all (fun p => (waits p).isSome) then
      if moves then s else
      let lead := s.core (core (pos.headD 0))
      pos.foldl (fun (s : State) p =>
        let s1 := s.updCore (core p) (fun x =>
          let x1 := x.release s.cycle
          { x1 with
            ctl := { x1.ctl with ropeW := .ofNat 2 (w + 1), lead := .ofNat 2 (pos.headD 0), pent := lead.seq.fetch.pos }
            seq := { x1.seq with fetch := lead.seq.fetch } })
        match member p with
        | some x => s1.updCairn k.kid x.ix (fun x => { x with ropew := w + 1, ropeWait := none })
        | none => s1) s
    else pos.foldl (fun s p => match member p with
      | some x => if x.st = .ready then (match (s.core (core p)).run with
          | some _ => s.requestPreempt (core p)
          | none => s) else s
      | none => s) s
  | _, _ => s

end Sys2Proof.Machine
end

