-- ==== Sys2Proof/Machine/Recovery.lean ====
section
/-!
DEFINITION. Quarantined cores (R297, R298), lost units and the recovery of kernels (R416 to R418),
partition reset (R448, R457), and the test log (R452).
-/
namespace Sys2Proof.Machine

/-! ### The test log (R452) -/

/-- One entry of TLOG: class, result, index, detail word, cycle. -/
def State.logTest (s : State) (cls result index : Nat) : State :=
  let e := s.house.logCnt
  let s1 := s.pokes (tlogKey (16 * e)) ([.ofNat 8 cls, .ofNat 8 result] ++ bytesLE 2 index ++
    bytesLE 4 (Config.logDetail s.tick e).toNat ++ bytesLE 8 s.cycle)
  { s1 with house := { s1.house with logCnt := Nat.min 511 (e + 1) } }

/-! ### What a recovery does with a kernel (R417) -/

/-- The record array and every save area lie on belayed pages (R417). -/
def State.recordsBelayed (s : State) (k : Kernel) : Bool :=
  s.belayed (k.req k.carr 2 (noCore k.pn)) &&
  k.cairns.all (fun q => s.belayed (k.req (k.recVa q.ix) 2 (noCore k.pn)) &&
    (List.range 9).all (fun i => s.belayed (k.req (q.save + Nat.min (65536 * i) 540671) 2 (noCore k.pn))))

/-- The rows of R417 for a kernel that runs and is touched. -/
inductive Fate where
  | rerun
  | resume
  | abort
  deriving DecidableEq, Repr

def State.fate (s : State) (k : Kernel) : Fate :=
  if k.rcl then .rerun
  else if k.outcome.isNone && s.recordsBelayed k then .resume
  else .abort

/-- No cairn of the kernel runs or stands in a run queue any more; no record is written. -/
def State.stopKernel (s : State) (kid : Word) : State :=
  { s with
    clusters := s.clusters.map (fun cl => { cl with runq := cl.runq.filter (fun e => e.1 != kid) })
    cores := s.cores.map (fun (k : Core) => match k.run with
      | some e => if e.1 == kid then k.idle s.cycle else k
      | none => k) }

/-- The kernel runs again from phase 0 with fresh records (R417). -/
def State.rerun (s : State) (k : Kernel) : State :=
  let s1 := (s.stopKernel k.kid).discard k.kid
  let s2 : State := { s1 with
    monitors := s1.monitors.filter (fun m => m.kid != k.kid)
    staged := s1.staged.filter (fun e => e.kid != k.kid) }
  (s2.unhold k.kid).updKernel k.kid (fun k => { k with
    phase := 0
    started := false
    since := s.cycle
    waits := false
    bind := []
    took := []
    cairns := []
    outcome := none
    orderLost := false
    accFault := false
    wrote := []
    again := [] })

/-- A virtual cluster on a cluster with a quarantined core moves to a free sound one, if there is one
(log 12). -/
def State.rebind (s : State) (k : Kernel) : List Nat :=
  let sound (cl : Nat) : Bool := (clusterCores cl).all (fun c => !(s.core c).margin.quar)
  let free := (s.freeClusters k.pn).filter sound
  let bad := (k.bind.filter (fun cl => !sound cl)).eraseDups
  k.bind.map (fun cl => match bad.findIdx? (· == cl) with
    | some i => free.getD i cl
    | none => cl)

/-- Each cairn resumes from its last written record and save area (R417), READY once its record can be written; a
PARKED one where the line that it watches has gone, with the core or with a new binding (R56, R298). A kernel whose
phase has not started has no cairn to resume. -/
def State.resume (s : State) (k : Kernel) : State :=
  let s1 := s.stopKernel k.kid
  let k1 : Kernel := { k with bind := s1.rebind k }
  let s2 := s1.updKernel k.kid (fun _ => k1)
  let lostLine (q : Cairn) : Bool := s2.monitors.any (fun m => m.kid == k.kid && m.cix == q.ix &&
    ((s2.core m.core).margin.quar || m.core / 4 != k1.home q.vcl))
  let back := k.cairns.filter (fun q =>
    q.st == .running || q.st == .trapped || q.st == .ready || (q.st == .parked && !q.sum && lostLine q))
  let k2 : Kernel := { k1 with
    cairns := k1.cairns.map (fun q => if back.contains q then { q with st := .ready, only := none } else q)
    again := back.map (fun q => (q.ix, none)) }
  (s2.updKernel k.kid (fun _ => k2)).resumeAgain k2

/-- Every core that may pick the cairn is quarantined (R56, R298). -/
def State.stuckCairn (s : State) (k : Kernel) (q : Cairn) : Bool :=
  let cores : List Nat := match q.st with
    | .ready => (match q.only with
        | some c => [c]
        | none => if q.pin < 4 then clusterCores (k.home q.vcl) else [k.pinnedCore q])
    | .parked => (match s.monitors.find? (fun m => m.kid == k.kid && m.cix == q.ix) with
        | some m => [m.core]
        | none => if q.pin < 4 then clusterCores (k.home q.vcl) else [k.pinnedCore q])
    | _ => []
  !cores.isEmpty && cores.all (fun c => (s.core c).margin.quar)

/-- Some cairn of the kernel cannot continue (R298). -/
def State.stuckKernel (s : State) (kid : Word) : Bool :=
  match s.kernel kid with
  | some k => k.outcome.isNone && k.cairns.any (s.stuckCairn k)
  | none => false

/-- A touched kernel (R417). One that resumes where no sound cluster is free for a cairn of it is aborted, since
that cairn could not continue (R298, log 12). -/
def State.recoverKernel (s : State) (f : Fate) (kid : Word) : State :=
  match s.kernel kid with
  | none => s
  | some k => match f with
    | .rerun => s.rerun k
    | .resume =>
      let s1 := s.resume k
      if s1.stuckKernel kid then s1.failKernel kid outAborted else s1
    | .abort => s.failKernel kid outAborted

/-- R404 for every enabled queue of some partitions (R416). -/
def State.resyncAll (s : State) (pns : List Nat) : State :=
  pns.foldl (fun s pn => (List.range 64).foldl (fun s qn => s.resync pn qn) s) s

/-! ### Cores that no cairn may leave (R298) -/

/-- The kernels of cairns that cannot continue end as by the loss of a single core (R298, R416). -/
def State.endStuck (s : State) : State :=
  let l := s.kernels.filter (fun k => k.inPhase && s.stuckKernel k.kid)
  if l.isEmpty then s
  else (l.foldl (fun s k => s.recoverKernel (s.fate k) k.kid) s).resyncAll ((l.map (·.pn)).eraseDups)

/-- QUARANTINE (R297, R298). -/
def State.quarantineStep (s : State) (c : Nat) : State :=
  let k := s.core c
  let s1 := if ¬ k.margin.pend then s else if k.run.isNone then s.quarantineNow c else s.preemptGrant c
  if (s1.core c).margin.quar then s1.endStuck else s1

/-! ### Lost units (R416, R417) -/

/-- The homes of a kernel's records, of its cairns' save areas and of the memory that it wrote (R417). -/
def State.homesOf (s : State) (k : Kernel) : List Nat :=
  k.wrote ++ k.cairns.flatMap (fun q => [k.recVa q.ix, q.save].filterMap (fun va =>
    match s.locate (k.req va 1 (noCore k.pn)) with
    | .at p => p.home
    | _ => none))

/-- The modules that no path reaches once link p is lost; link 16 + m stands for module m, which the last path has
left (R437). -/
def State.lostModules (s : State) (p : Nat) : List Nat :=
  if 16 ≤ p then [p - 16]
  else (s.ridge.paths.filter (fun e => !e.2.isEmpty && e.2.all (· == p))).map (·.1)

/-- The lost unit held something of the kernel (R417). What a kernel wrote in a core's towers is not told apart by
tower (log 12). -/
def State.touches (s : State) (u : LostUnit) (k : Kernel) : Bool :=
  let homes := s.homesOf k
  match u with
  | .core c => (s.core c).run.any (fun e => e.1 == k.kid) || homes.contains (256 + c)
  | .tower c _ => homes.contains (256 + c)
  | .cluster cl => k.bind.contains cl || (clusterCores cl).any (fun c => homes.contains (256 + c))
  | .stack n => homes.contains n
  | .link p => (s.lostModules p).any (fun m => homes.contains (1024 + m))
  | .mirror => false

/-- The partitions in which a lost unit lies; all of them for a link or the mirror. -/
def State.lostIn (s : State) : LostUnit → List Nat
  | .core c => (s.clusterPart (c / 4)).toList
  | .tower c _ => (s.clusterPart (c / 4)).toList
  | .cluster cl => (s.clusterPart cl).toList
  | .stack n => (s.stackPart n).toList
  | _ => List.range 8

/-- A core lost with the cairn on it. -/
def State.dropCore (s : State) (c : Nat) : State := (s.updCore c (Core.idle s.cycle)).quarantineNow c

/-- The mirror is lost: belay scope is not reached until a re-mirror (R416, R434). -/
def State.loseMirror (s : State) : State :=
  { s with mirrorUp := false, parts := s.parts.map (fun p => { p with remirror := true }) }

/-- The module that this one is paired with (R434). -/
def State.pair (s : State) : Nat := (s.modNum ^^^ 1).toNat

/-- A ridge port leaves every routing table; destinations without a path wait, packets that it carried and that are
not acknowledged go over another path (R437), and the mirror is lost with the last path to it (R434). -/
def State.dropPort (s : State) (p : Nat) : State :=
  let r := s.ridge
  let paths := r.paths.map (fun e => (e.1, e.2.filter (· ≠ p)))
  let left (m : Nat) : List Nat := (assocGet paths m).getD []
  let gone := (paths.filter (fun e => e.2.isEmpty ∧ ¬ (r.cut.any (fun x => x.1 == e.1)))).map (fun e => (e.1, s.cycle, false))
  let port : RidgePort := { (r.ports[p]?).getD ⟨false, 0, 0⟩ with up := false, retries := 0 }
  let sent := r.sent.map (fun x => if x.port = p
    then { x with port := (left x.dst).getD (Config.spray s.tick x.seq % (left x.dst).length) p } else x)
  let s1 : State := { s with ridge := { r with
    ports := r.ports.setIfInBounds p port, paths := paths, sent := sent, cut := r.cut ++ gone } }
  if s.mirrorUp ∧ (left s.pair).isEmpty then s1.loseMirror else s1

/-- The unit is gone. -/
def State.lose (s : State) (u : LostUnit) : State :=
  match u with
  | .core c => s.dropCore c
  | .tower c g => (s.updCore c (fun k => k.setTower g { k.tower g with phys := none })).requestQuarantine c
  | .cluster cl => (clusterCores cl).foldl State.dropCore s
  | .stack n => { s with lostStacks := insertSorted n s.lostStacks }
  | .link p => s.dropPort p
  | .mirror => s.loseMirror

/-- UNIT_LOSS (R416, R417). -/
def State.unitLoss (s : State) (u : LostUnit) : State :=
  let pns := s.lostIn u
  let l := (s.kernels.filter (fun k => pns.contains k.pn && s.touches u k)).map (fun k => (s.fate k, k.kid))
  let s1 := s.lose u
  (l.foldl (fun s e => s.recoverKernel e.1 e.2) s1).resyncAll pns

/-! ### Partition reset (R448, R457) -/

/-- A core after partition reset: refresh and sparing keep their state (R219, R220, R222). -/
def Core.afterReset (k : Core) (now : Nat) (quar : Bool) : Core :=
  { Core.reset with
    towers := k.towers
    cols := k.cols
    deferTo := k.deferTo
    leftSince := k.leftSince
    spc := k.spc
    fev := k.fev
    spt := k.spt
    spr := k.spr
    spareTowers := k.spareTowers
    margin := { Margin.reset k.margin.gua now with quar := quar } }

/-- A request made by an agent or for a kernel of the partition. -/
def State.ofPart (s : State) (pn : Nat) : Requester → Bool
  | .code c => s.clusterPart (c / 4) == some pn
  | .record c => s.clusterPart (c / 4) == some pn
  | .card c _ _ => s.clusterPart (c / 4) == some pn
  | .matrix c => s.clusterPart (c / 4) == some pn
  | .acc c => s.clusterPart (c / 4) == some pn
  | .sweepCard c => s.clusterPart (c / 4) == some pn
  | .landing c _ _ => s.clusterPart (c / 4) == some pn
  | .sweep kid _ _ => s.kernels.any (fun k => k.kid == kid && k.pn == pn)
  | .queue p _ => p == pn
  | .kernel kid => s.kernels.any (fun k => k.kid == kid && k.pn == pn)
  | .ring p => p == pn
  | .ingest w => (s.part pn).windows.getLsbD w
  | .ridge _ => false
  | .walk _ asid _ => decide ((s.part pn).asidBase ≤ asid ∧ asid < (s.part pn).asidBase + (s.part pn).asidCount)

/-- One core of the partition is reset and, when quarantined, retested (R313, R448, R457); a failure is logged with
the tower whose test failed, its index as R452 gives it. -/
def State.resetCore (s : State) (c : Nat) : State :=
  let k := s.core c
  let fails := k.margin.quar && !Config.retestPasses c s.tick
  let tables := if Config.repairs c s.tick then k.repaired s.tick c else k
  let s1 := (s.setCore c (tables.afterReset s.cycle fails)).wipe (bankKey c 0 0) (2 * 65536)
  let s2 := s1.wipe (tileKey c 0 0) (8 * 65536)
  if fails then s2.logTest (Config.retestClass c s.tick) 2 (32 * c + Config.retestTower c s.tick) else s2

/-- A queue after partition reset: the belayed state stays, which is the work list, the copy K, and the V = 0 writes
still to be made (R401, R403, R416, R448). -/
def Queue.afterReset (q : Queue) : Queue :=
  { Queue.reset with work := q.work.filter (fun w => w.st != .complete), kcopy := q.kcopy, unreleased := q.unreleased }

/-- PARTITION_RESET (R416, R417, R441, R448, R457); until it ends, requests into the partition fail (log 42). What
ordered updates have staged is no command or element: it is kept and applied before the kernel's completion (R374,
R413, log 42). -/
def State.partitionReset (s : State) (pn : Nat) : State :=
  let p := s.part pn
  if p.groups = 0 then s
  else
    let cls := s.partClusters pn
    let mine := s.kernels.filter (fun k => k.pn == pn)
    let fates := mine.map (fun k => (s.fate k, k.kid))
    let gone (w : Requester) : Bool := s.ofPart pn w
    let ours (asid : Nat) : Bool := decide (p.asidBase ≤ asid ∧ asid < p.asidBase + p.asidCount)
    let s1 := mine.foldl (fun s k => (s.stopKernel k.kid).discard k.kid) s
    let s2 := (cls.flatMap clusterCores).foldl State.resetCore s1
    let s3 := cls.foldl (fun s cl => s.updCluster cl (fun _ => .reset)) s2
    let s4 : State := { s3.dropWaits gone with
      flight := s3.flight.filter (fun f => !gone f.who)
      pins := s3.pins.filter (fun w => !ours w.asid)
      tlb := s3.tlb.filter (fun t => !ours t.asid)
      wins := s3.wins.mapIdx (fun w x => if p.windows.getLsbD w then .reset else x) }
    let s5 := s4.updPart pn (fun p => { Part.reset with
      groups := p.groups
      stackSet := p.stackSet
      asidBase := p.asidBase
      asidCount := p.asidCount
      windows := p.windows
      msix := p.msix
      remirror := p.remirror
      resetting := true
      queues := p.queues.map Queue.afterReset })
    let s6 := fates.foldl (fun s e => s.recoverKernel e.1 e.2) s5
    s6.resyncAll [pn]

end Sys2Proof.Machine
end

