-- ==== Sys2Proof/Machine/ExecCore.lean ====
section
/-!
DEFINITION. Steps of a core beside issue (R64 to R73, R218 to R222, R290 to R311).
A step whose condition does not hold changes nothing (log 4).
-/
namespace Sys2Proof.Machine

/-- ROPE_CLOSE (R66). -/
def execRopeClose (c : Nat) (s : State) : Out := onUnit (decide (c < 256)) s (fun s => s.ropeClose c)

/-- PREEMPT_OVERRUN (R73). -/
def execPreemptOverrun (c : Nat) (s : State) : Out := onUnit (decide (c < 256)) s (fun s => s.preemptOverrun c)

/-- TIMING_EVENT (R290). -/
def execTimingEvent (c : Nat) (s : State) : Out := onUnit (decide (c < 256)) s (fun s => (s.noteFirst c).timingEvent c)

/-- SUPPLY_SETTLED (R294). -/
def execSupplySettled (c : Nat) (s : State) : Out := onUnit (decide (c < 256)) s (fun s => s.supplySettled c)

/-- MARGIN_WINDOW_END (R295). -/
def execMarginWindowEnd (c : Nat) (s : State) : Out := onUnit (decide (c < 256)) s (fun s => s.windowEnd c)

/-- QUARANTINE (R297). -/
def execQuarantine (c : Nat) (s : State) : Out := onUnit (decide (c < 256)) s (fun s => s.quarantineStep c)

/-- SOFT_ERROR (R303). -/
def execSoftError (c : Nat) (s : State) : Out := onUnit (decide (c < 256)) s (fun s => s.softError c)

/-- CONTROL_REGISTER_UPSET (R302). -/
def execControlRegisterUpset (c : Nat) (what : UpsetTarget) (s : State) : Out := onUnit (decide (c < 256)) s (fun s => s.registerUpset c what)

/-- VERTICAL_WIRE_FAILURE (R311). -/
def execVerticalWireFailure (c : Nat) (twr : Nat) (bus : Nat) (col : Nat) (s : State) : Out := onUnit (decide (c < 256) && decide (twr < 16)) s (fun s => s.wireFailure c twr bus col)

/-- TOWER_MOVE (R311). -/
def execTowerMove (c : Nat) (twr : Nat) (s : State) : Out := onUnit (decide (c < 256) && decide (twr < 16)) s (fun s => s.moveTower c twr)

/-- REFRESH_PENDING (R218). -/
def execRefreshPending (c : Nat) (twr : Nat) (s : State) : Out := onUnit (decide (c < 256) && decide (twr < 16)) s (fun s => s.refreshPending c twr)

/-- REFRESH_PASS_START (R218). -/
def execRefreshPassStart (c : Nat) (twr : Nat) (s : State) : Out := onUnit (decide (c < 256) && decide (twr < 16)) s (fun s => s.refreshStart c twr)

/-- REFRESH_PASS_END (R218). -/
def execRefreshPassEnd (c : Nat) (twr : Nat) (s : State) : Out := onUnit (decide (c < 256) && decide (twr < 16)) s (fun s => s.refreshEnd c twr)

/-- DEFERRAL_EXPIRY (R221). -/
def execDeferralExpiry (c : Nat) (s : State) : Out := onUnit (decide (c < 256)) s (fun s => s.deferralExpiry c)

/-- FORCED_PASS (R221). -/
def execForcedPass (c : Nat) (s : State) : Out := onUnit (decide (c < 256)) s (fun s => s.forcedPass c)

/-- TEMPERATURE_CHANGE (R220). -/
def execTemperatureChange (band : TempBand) (s : State) : Out := onUnit true s (fun s => s.temperature band)

/-- A stored word fails correction from now on (R215, R314, R326); on the bus, its read completions arrive poisoned
(R442). -/
def State.doubleBit (s : State) (loc : ErrorSite) : State :=
  match loc with
  | .tower c a => s.markBad (towerKey c a)
  | .hbm k pa => s.markBad (hbmKey k pa)
  | .bus a => s.markBad (busKey a)
  | .tile c t r col => s.updMat c (fun m =>
      let x := m.tile t
      if x.st ≠ .uncfg ∧ r < x.rows ∧ col < x.cols then m.mark t (r * x.cols + col) true else m)
  | .bankRow c b r => s.updMat c (fun m => { m with badRows := insertSorted (256 * b + r) m.badRows })

/-- DOUBLE_BIT_ERROR (R215). -/
def execDoubleBitError (loc : ErrorSite) (s : State) : Out := onUnit loc.wf s (fun s => s.doubleBit loc)

end Sys2Proof.Machine
end

