-- ==== Sys2Proof/Machine/Housekeeping.lean ====
section
/-!
DEFINITION. The housekeeping controller: bring-up and base camp (R449 to R451), the mailbox (R452 to
R454), attestation (R455), the power alarm (R456), and the management port (R436, R454).
-/
namespace Sys2Proof.Machine

/-! ### The management configuration (R446, R454) -/

/-- n bytes of an argument from byte b on. -/
def argField (a : List Byte) (b n : Nat) : Nat := ofBytesLE ((a.drop b).take n)

/-- Partition p's fields of a CONFIG argument: groups, stacks, ASID base and count, windows. -/
structure PartConfig where
  groups : Nat
  stackSet : Nat
  asidBase : Nat
  asidCount : Nat
  windows : Nat
  deriving DecidableEq, Repr

def partConfigs (a : List Byte) : List PartConfig :=
  (List.range 8).map (fun p =>
    let f (b n : Nat) : Nat := argField a (8 + 16 * p + b) n
    ⟨f 0 1, f 1 1, f 2 2, f 4 2, f 6 2⟩)

/-- Two partitions of a configuration collide (R454). -/
def PartConfig.clash (x y : PartConfig) : Bool :=
  x.groups &&& y.groups != 0 || x.stackSet &&& y.stackSet != 0 || x.windows &&& y.windows != 0 ||
    (x.asidCount != 0 && y.asidCount != 0 && decide (x.asidBase < y.asidBase + y.asidCount ∧ y.asidBase < x.asidBase + x.asidCount))

/-- Every stack lies in a half in which the partition has a group (R34, R446, R454). -/
def PartConfig.stacksOk (x : PartConfig) : Bool :=
  (x.stackSet % 16 == 0 || x.groups % 16 != 0) && (x.stackSet / 16 == 0 || x.groups / 16 != 0)

def noClash : List PartConfig → Bool
  | [] => true
  | x :: t => t.all (fun y => !x.clash y) && noClash t

/-- The configuration is acceptable (R454). -/
def configOk (a : List Byte) : Bool :=
  let l := partConfigs a
  noClash l && l.all (fun x => x.stacksOk && decide (x.asidBase + x.asidCount ≤ 8192)) && decide (argField a 0 2 ≤ 1023)

/-- The configuration takes effect (R423, R443, R454). -/
def State.applyConfig (s : State) (a : List Byte) : State :=
  let l := partConfigs a
  { s with
    modNum := .ofNat 10 (argField a 0 2)
    parts := s.parts.mapIdx (fun p x => match l[p]? with
      | some y => { x with
          groups := .ofNat 8 y.groups
          stackSet := .ofNat 8 y.stackSet
          asidBase := y.asidBase
          asidCount := y.asidCount
          windows := .ofNat 16 y.windows }
      | none => x)
    house := { s.house with
      config := some (.ofNat 1088 (ofBytesLE a))
      vfs := s.house.vfs.filter (fun p => match l[p]? with
        | some y => y.groups != 0
        | none => false) } }

/-! ### Bring-up (R449, R450) -/

def State.atStage (s : State) (n : Nat) : State := { s with house := { s.house with stage := n } }

/-- More than 2 physical clusters of one half must be mapped out (R18, R19, R450). -/
def tooMany (l : List Nat) : Bool :=
  decide (2 < (l.filter (· < 34)).length) || decide (2 < (l.filter (fun i => 34 ≤ i)).length)

/-- Row and column in its half of physical site i (R19): sites 32 and 33 lie south of row 7. -/
def siteRow (i : Nat) : Nat := if i < 32 then i / 4 else 8
def siteCol (i : Nat) : Nat := if i < 32 then i % 4 else i - 31

/-- The 2 clusters of half h that are mapped out: those found faulty, and sound ones to make up the difference
(R18, log 6). -/
def mappedOutOf (t h : Nat) (faulty : List Nat) : List Nat :=
  ((faulty.filter (fun n => n / 34 == h) ++ (Config.order (Config.spareSite t h) 34).map (34 * h + ·)).eraseDups).take 2

/-- The physical cluster of logical cluster n, node (4h + c, r): site 4r + c of its half while none of sites 0 to
31 is mapped out, else a sound site of the half that self-test assigns (R19, R20, log 6). -/
def siteOf (t : Nat) (out : List Nat) (n : Nat) : Nat :=
  let h := n % 8 / 4
  let i := 4 * (n / 8) + n % 4
  let sound (i : Nat) : Bool := !out.contains (34 * h + i)
  34 * h + (if (List.range 32).all sound then i
    else ((Config.order (Config.nodeSite t h) 34).filter sound).getD i 0)

/-- What stage 3 repairs of core c: towers that a spare replaces, and via columns of the 16 towers taken into use, as
class and index of R452 (R450). Each repair is an entry of the tables that stage 4 writes. -/
def coreRepairs (t c : Nat) : List (Nat × Nat) :=
  (Config.faultyTowers t c).map (fun p => (2, 32 * c + p)) ++
  (List.range 16).flatMap (fun g =>
    let p := Config.towerMap t c g
    (remapTable t c p).map (fun _ => (3, 32 * c + p)))
/-- Stage 3: every repair, mapped-out cluster and failed port is logged (R450). -/
def State.testAll (s : State) (t : Nat) (faulty ports : List Nat) : State :=
  let s1 := ((List.range 256).flatMap (coreRepairs t)).foldl (fun s e => s.logTest e.1 1 e.2) s
  let s2 := faulty.foldl (fun s k => s.logTest 6 2 k) s1
  ports.foldl (fun s p => s.logTest 7 2 p) s2
/-- The faulty clusters and ports that the boot of tick t finds (log 6). -/
def bootClusters (t : Nat) : List Nat := ((Config.faultyClusters t).filter (· < 68)).eraseDups
def bootPorts (t : Nat) : List Nat := ((Config.faultyPorts t).filter (· < 16)).eraseDups

/-- Stage 4: remap tables, mapped-out clusters, GUA and SPR (R18, R19, R29, R222, R296). -/
def State.writeTables (s : State) (t : Nat) : State :=
  let out := mappedOutOf t 0 (bootClusters t) ++ mappedOutOf t 1 (bootClusters t)
  { s with
    mappedOut := out
    sites := (List.range 64).map (siteOf t out)
    cores := s.cores.mapIdx (fun c k => k.tested t c)
    ridge := { s.ridge with ports := s.ridge.ports.mapIdx (fun p x => { x with up := !(bootPorts t).contains p }) } }

/-- The stage in progress ends (R449, R450); what the tests find is free (log 6). -/
def State.boot (s : State) : State :=
  let t := s.house.bootTick
  match s.house.stage with
  | 0 => s.atStage 1
  | 1 =>
    let ok := Config.firmwareOk t
    (s.logTest 8 (if ok then 0 else 2) 0).atStage (if ok then 2 else 15)
  | 2 =>
    let bad := (List.range 8).filter (Config.stackFails t)
    (bad.foldl (fun s k => s.logTest 1 2 k) s).atStage (if bad.isEmpty then 3 else 15)
  | 3 => (s.testAll t (bootClusters t) (bootPorts t)).atStage (if tooMany (bootClusters t) then 15 else 4)
  | 4 => (s.writeTables t).atStage 5
  | 5 =>
    let s1 := match Config.storedConfig t with
      | some a =>
        let l := bytesLE 136 a.toNat
        if configOk l then s.applyConfig l else s
      | none => s
    s1.atStage 6
  | _ => s

/-- One stage of bring-up, and the next step is the next stage (R449, log 4). -/
def State.bootStep (s : State) : State :=
  let s1 := s.boot
  if s1.house.stage < 6 then { s1 with agenda := .powerOn :: s1.agenda } else s1

/-- The machine at the start of stage 0, its self-test free by the tick at which it starts (log 6). -/
def State.atStart (s : State) : State := { s with house := { s.house with bootTick := s.tick } }

/-- POWER_ON (R449): bring-up goes on by one stage; from stage 6 or base camp the power has been cycled. -/
def State.powerOn (s : State) : State :=
  if s.house.stage = 0 then s.atStart.bootStep
  else if s.house.stage < 6 then s.bootStep
  else State.bootStep (State.atStart { State.reset with tick := s.tick, agenda := s.agenda })

/-- MODULE_RESET (R441, R449, R451): memory contents, the cycle count and FEV (R222, since power-on) stand, and
bring-up starts from stage 0. R218 does not say when the next pass of a tower is due after it: the last passes count
as of cycle 0 here too. What its self-test finds is free, whatever failed before (R29, log 46). -/
def State.moduleReset (s : State) : State :=
  let s1 : State := { State.reset with
    tick := s.tick
    agenda := .powerOn :: s.agenda.filter (· ≠ .powerOn)
    cycle := s.cycle
    mem := s.mem
    bad := s.bad
    cores := s.cores.map (fun (k : Core) => { Core.reset with fev := k.fev })
    house := { House.reset with temp := s.house.temp } }
  s1.wipe (tlogKey 0) 8192

/-! ### The mailbox (R451 to R455) -/

def resOk : Nat := 0
def resBadOp : Nat := 1
def resBadArg : Nat := 2
def resBusy : Nat := 3
def resSignature : Nat := 4
def resBaseCamp : Nat := 5

/-- The physical function's mailbox answers (R449, R451). -/
def State.mailbox (s : State) : Bool := decide (5 ≤ s.house.stage)
def State.inCamp (s : State) : Bool := s.house.stage == 15

/-- The operation completes with a result code and a result of n bytes: BUSY falls (R452). -/
def State.reply (s : State) (res n : Nat) : State :=
  { s with house := { s.house with cmd := none, res := res, rlen := n } }

/-- The held report is discarded (R455). -/
def State.dropReport (s : State) : State := { s with house := { s.house with report := none } }

/-- Some queue of the module is enabled (R453). -/
def State.anyQueueOn (s : State) : Bool := s.parts.toList.any (fun p => p.queues.toList.any (·.en))

/-- CONFIG (R453, R454). -/
def State.configOp (s : State) (a : List Byte) : State :=
  if ¬ s.mailbox then s
  else if s.inCamp then s.reply resBaseCamp 0
  else if a.length ≠ 136 ∨ ¬ configOk a then s.reply resBadArg 0
  else if s.anyQueueOn then s.dropReport.reply resBusy 0
  else (s.dropReport.applyConfig a).reply resOk 0

/-- Routine images in ascending index order, one of them replaced (R455). -/
def imageInsert (i : Nat) (h : BitVec 384) : List (Nat × BitVec 384) → List (Nat × BitVec 384)
  | [] => [(i, h)]
  | x :: t => if i < x.1 then (i, h) :: x :: t else if i = x.1 then (i, h) :: t else x :: imageInsert i h t

/-- ROUTINE (R453): the image is read from host memory and its signatures are verified. -/
def State.routineOp (s : State) (a : List Byte) : State :=
  let i := argField a 0 4
  if ¬ s.mailbox then s
  else if s.inCamp then s.reply resBaseCamp 0
  else if a.length ≠ 16 ∨ i < 32 ∨ 255 < i then s.reply resBadArg 0
  else if ¬ s.kernels.isEmpty then s.dropReport.reply resBusy 0
  else
    let image := s.peek (busKey (argField a 8 8)) (argField a 4 4)
    if Config.imageOk image then
      { s.dropReport with house := { s.dropReport.house with
        images := imageInsert i (Config.sha384 image) s.house.images } }.reply resOk 0
    else s.dropReport.reply resSignature 0

/-- UNLOAD (R453). -/
def State.unloadOp (s : State) (a : List Byte) : State :=
  let i := argField a 0 4
  if ¬ s.mailbox then s
  else if s.inCamp then s.reply resBaseCamp 0
  else if a.length ≠ 4 ∨ i < 32 ∨ 255 < i then s.reply resBadArg 0
  else if ¬ s.kernels.isEmpty then s.dropReport.reply resBusy 0
  else { s.dropReport with house := { s.dropReport.house with
    images := s.house.images.filter (fun e => e.1 != i) } }.reply resOk 0

/-- Bits 31:24 of BCSTAT (R452). -/
def State.campByte (s : State) : Nat := (if s.inCamp then 128 else 0) + (if s.house.alarm then 64 else 0)

/-- The report with its signatures (R455). -/
def State.buildReport (s : State) (nonce : List Byte) : List Byte :=
  let body := nonce ++ bytesLE 48 Config.firmware.toNat ++
    (match s.house.config with
     | some c => bytesLE 48 (Config.sha384 (bytesLE 136 c.toNat)).toNat
     | none => zeros 48) ++
    bytesLE 1 s.campByte ++ zeros 31 ++
    s.house.images.flatMap (fun e => bytesLE 4 e.1 ++ bytesLE 48 e.2.toNat)
  body ++ (List.range (64 + 3309)).map (Config.signByte body)

/-- One page of a report goes to MBBUF (R455). -/
def State.pageOut (s : State) (report : List Byte) (page : Nat) : State :=
  let out := bytesLE 4 report.length ++ bytesLE 4 page ++ (report.drop (4088 * page)).take 4088
  (s.pokes (mbKey 0) out).reply resOk out.length

/-- ATTEST (R453, R455). -/
def State.attestOp (s : State) (a : List Byte) : State :=
  let nonce := a.take 32
  let page := if a.length = 32 then 0 else argField a 32 4
  if ¬ s.mailbox then s
  else if a.length ≠ 32 ∧ a.length ≠ 36 then s.reply resBadArg 0
  else if page = 0 then
    let r := s.buildReport nonce
    { s with house := { s.house with report := some (.ofNat 256 (ofBytesLE nonce), r) } }.pageOut r 0
  else match s.house.report with
    | some (n, r) =>
      if n = .ofNat 256 (ofBytesLE nonce) ∧ 4088 * page < r.length then s.pageOut r page else s.reply resBadArg 0
    | none => s.reply resBadArg 0

/-- BAD_OP (R451, R453). -/
def State.badOp (s : State) (op : Nat) : State :=
  if ¬ s.mailbox ∨ (1 ≤ op ∧ op ≤ 4) then s
  else if s.inCamp then s.reply resBaseCamp 0
  else s.reply resBadOp 0

/-- An operation's step acts for the command that is accepted, or for one that is accepted as it acts; while another
is not complete it is ignored (R452). -/
def State.onCommand (s : State) (op : Nat) (a : List Byte) (f : State → State) : State :=
  match s.house.cmd with
  | none => f s
  | some x => if x = (op, a) then f s else s

/-- The argument of an operation; one longer than MBBUF is none that any operation takes (R452, R453). -/
def State.argument (s : State) (len : Nat) : List Byte := s.peek (mbKey 0) (Nat.min len 4097)

/-- A write of MBCMD (R452, R453): BUSY is set, and the operation's own step completes it. -/
def State.mailboxCommand (s : State) (op len : Nat) : State :=
  if ¬ s.mailbox ∨ s.house.cmd.isSome then s
  else { s with house := { s.house with cmd := some (op, s.argument len) } }

/-! ### Alarm, configuration space, management port (R436, R451, R454, R456) -/

/-- POWER_ALARM_RAISE: power or coolant is over its limit now. POWER_ALARM_CLEAR: both have been below for 10 ms, so
that none was over in that time (R456). -/
def State.setAlarm (s : State) (on : Bool) : State :=
  if on then { s with house := { s.house with alarm := true, alarmSince := s.cycle } }
  else if s.cycle < s.house.alarmSince + 10000000 then s
  else { s with house := { s.house with alarm := false } }

/-- CONFIGURATION_REQUEST (R451, R454): a write to function p + 1 enables it with bit 0 set and disables
it with bit 0 clear (log 13); in base camp no virtual function can be enabled. -/
def State.configRequest (s : State) (fn : Nat) (data : Option Nat) : State :=
  match data with
  | none => s
  | some v =>
    if fn = 0 ∨ 8 < fn ∨ s.house.stage ≠ 6 ∨ (s.part (fn - 1)).groups = 0 then s
    else
      let others := s.house.vfs.filter (· ≠ fn - 1)
      { s with house := { s.house with vfs := if v % 2 = 1 then insertSorted (fn - 1) others else others } }

/-- The mirror copies of the stacks that are not lost take what the stacks hold, uncorrectable words too (R416, R434,
log 8). -/
def State.remirrorAll (s : State) : State :=
  let low := s.mem.filter (fun e => decide (e.1 < mirrorKey 0 0))
  let high := s.mem.filter (fun e => decide (mirrorKey 8 0 ≤ e.1))
  let kept (k : Nat) : List Host.Cell := s.mem.filter (fun e => decide (mirrorKey k 0 ≤ e.1 ∧ e.1 < mirrorKey (k + 1) 0))
  let copied (k : Nat) : List Host.Cell :=
    (s.mem.filter (fun e => decide (hbmKey k 0 ≤ e.1 ∧ e.1 < hbmKey (k + 1) 0))).map (fun e => (e.1 + 2 ^ 40, e.2))
  let lost (k : Nat) : Bool := s.lostStacks.contains k
  let place (w : Nat) : Option Nat := (List.range 8).find? (fun k => decide (mirrorKey k 0 ≤ 16 * w ∧ 16 * w < mirrorKey (k + 1) 0))
  let bad := s.bad.filter (fun w => (place w).all lost)
  let more := (s.bad.filter (fun w => (place (w + 2 ^ 36)).any (fun k => !lost k))).map (· + 2 ^ 36)
  { s with
    mem := low ++ (List.range 8).flatMap (fun k => if lost k then kept k else copied k) ++ high
    bad := more.foldl (fun l w => insertSorted w l) bad }

/-- I3C_MANAGEMENT (R436, R454): paths for a destination; a path to the paired module makes the mirror reachable,
and the re-mirror copies what it holds (R416, R434; log 8). -/
def State.i3c (s : State) (m : I3CMessage) : State :=
  match m with
  | .query => s
  | .setPaths dest ports =>
    if s.inCamp then s
    else
      let live := (ports.filter (fun p => match s.ridge.ports[p]? with
        | some x => x.up
        | none => false)).take 8
      let s1 : State := { s with ridge := { s.ridge with
        paths := assocSet s.ridge.paths dest live
        cut := if live.isEmpty then s.ridge.cut else s.ridge.cut.filter (fun e => e.1 != dest) } }
      if dest ≠ s.pair then s1
      else if live.isEmpty then (if s.mirrorUp then s1.loseMirror else s1)
      else if s.mirrorUp then s1
      else { s1.remirrorAll with mirrorUp := true, parts := s1.parts.map (fun p => { p with remirror := false }) }

end Sys2Proof.Machine
end

