-- ==== Sys2Proof/Machine/ExecEngines.lean ====
section
/-!
DEFINITION. Steps of the engines (R313 to R396).
A step whose condition does not hold changes nothing (log 4).
-/
namespace Sys2Proof.Machine

/-- A step row of the engine behind a card queue; no engine takes cards from another FIFO (R339, R351). -/
def onCards (c fifo : Nat) (s : State) (f : State → State) : Out :=
  onUnit (decide (c < 256) && decide (fifo < 33)) s (fun s => if isCardQueue fifo then f s else s)

/-- CARD_READ (R346). -/
def execCardRead (c : Nat) (fifo : Nat) (s : State) : Out := onCards c fifo s (fun s => s.cardRead c fifo)

/-- COPY (R353). -/
def execCopyCard (c : Nat) (fifo : Nat) (s : State) : Out := onCards c fifo s (fun s => s.runCard c fifo 1)

/-- GATHER (R354). -/
def execGatherCard (c : Nat) (fifo : Nat) (s : State) : Out := onCards c fifo s (fun s => s.runCard c fifo 2)

/-- TRANSPOSE (R355). -/
def execTransposeCard (c : Nat) (fifo : Nat) (s : State) : Out := onCards c fifo s (fun s => s.runCard c fifo 3)

/-- MULTICAST (R357). -/
def execMulticastCard (c : Nat) (fifo : Nat) (s : State) : Out := onCards c fifo s (fun s => s.runCard c fifo 4)

/-- BANKFILL (R358). -/
def execBankfillCard (c : Nat) (fifo : Nat) (s : State) : Out := onCards c fifo s (fun s => s.runCard c fifo 5)

/-- OFFLOAD (R361). -/
def execOffloadCard (c : Nat) (fifo : Nat) (s : State) : Out := onCards c fifo s (fun s => s.runCard c fifo 6)

/-- RELOAD (R361). -/
def execReloadCard (c : Nat) (fifo : Nat) (s : State) : Out := onCards c fifo s (fun s => s.runCard c fifo 7)

/-- DECOMP (R362). -/
def execDecompCard (c : Nat) (fifo : Nat) (s : State) : Out := onCards c fifo s (fun s => s.runCard c fifo 8)

/-- CARD_REPORT (R364). -/
def execCardReport (c : Nat) (fifo : Nat) (s : State) : Out := onCards c fifo s (fun s => s.cardReport c fifo)

/-- SWITCH_HOP (R349). -/
def execSwitchHop (c : Nat) (fifo : Nat) (s : State) : Out := onUnit (decide (c < 256) && decide (fifo < 33)) s (fun s => s.switchHop c fifo)

/-- CLUSTER_STALL (R365). -/
def execClusterStall (cl : Nat) (s : State) : Out := onUnit (decide (cl < 64)) s (fun s => s.clusterStall cl)

/-- MMA (R320). -/
def execMma (c : Nat) (s : State) : Out := onUnit (decide (c < 256)) s (fun s => s.runRoutine c (· == 0))

/-- MMO (R320). -/
def execMmo (c : Nat) (s : State) : Out := onUnit (decide (c < 256)) s (fun s => s.runRoutine c (· == 1))

/-- MMA_MX (R320). -/
def execMmaMx (c : Nat) (s : State) : Out := onUnit (decide (c < 256)) s (fun s => s.runRoutine c (· == 2))

/-- TSTORE (R321). -/
def execTstore (c : Nat) (s : State) : Out := onUnit (decide (c < 256)) s (fun s => s.runRoutine c (· == 3))

/-- TLOAD (R321). -/
def execTload (c : Nat) (s : State) : Out := onUnit (decide (c < 256)) s (fun s => s.runRoutine c (· == 4))

/-- VENDOR_ROUTINE (R318). -/
def execVendorRoutine (c : Nat) (s : State) : Out := onUnit (decide (c < 256)) s (fun s => s.runRoutine c (fun r => decide (32 ≤ r)))

/-- ROUTINE_STEP (R325). -/
def execRoutineStep (c : Nat) (s : State) : Out := onUnit (decide (c < 256)) s (fun s => s.routineStep c)

/-- ROUTINE_COMPLETE (R324). -/
def execRoutineComplete (c : Nat) (s : State) : Out := onUnit (decide (c < 256)) s (fun s => s.routineComplete c)

/-- SWAP_COMPLETE (R316). -/
def execSwapComplete (c : Nat) (s : State) : Out := onUnit (decide (c < 256)) s (fun s => s.swapComplete c)

/-- MATRIX_UNIT_CLAIM (R336). -/
def execMatrixUnitClaim (c : Nat) (s : State) : Out := onUnit (decide (c < 256)) s (fun s => s.claimUnit c)

/-- TILE_LAZY_LOAD (R338). -/
def execTileLazyLoad (c : Nat) (tile : Nat) (s : State) : Out := onUnit (decide (c < 256) && decide (tile < 8)) s (fun s => s.loadTile c tile)

/-- POWER_ALARM_RAISE (R456). -/
def execPowerAlarmRaise (s : State) : Out := onUnit true s (fun s => s.setAlarm true)

/-- POWER_ALARM_CLEAR (R456). -/
def execPowerAlarmClear (s : State) : Out := onUnit true s (fun s => s.setAlarm false)

/-- ACCUMULATE_ARRIVAL (R372). -/
def execAccumulateArrival (c : Nat) (s : State) : Out := onUnit (decide (c < 256)) s (fun s => s.accArrival c)

/-- SFLUSH_ARRIVAL (R375). -/
def execSflushArrival (c : Nat) (s : State) : Out := onUnit (decide (c < 256)) s (fun s => s.flushArrival c)

/-- SUBSCRIPTION (R383). -/
def execSubscription (c : Nat) (s : State) : Out := onUnit (decide (c < 256)) s (fun s => s.subscription c)

/-- PAGE_ISSUE (R386). -/
def execPageIssue (kid : Nat) (swid : Nat) (page : Nat) (s : State) : Out := onUnit (decide (swid < 256)) s (fun s => s.pageIssue (.ofNat 32 kid) swid page)

/-- PAGE_LANDING (R387). -/
def execPageLanding (kid : Nat) (swid : Nat) (c : Nat) (s : State) : Out := onUnit (decide (swid < 256) && decide (c < 256)) s (fun s => s.pageLanding (.ofNat 32 kid) swid c)

/-- PARTIAL_COMBINE (R390). -/
def execPartialCombine (c : Nat) (qslot : Nat) (s : State) : Out := onUnit (decide (c < 256) && decide (qslot < 16)) s (fun s => s.partialCombine c qslot)

end Sys2Proof.Machine
end

