-- ==== Sys2Proof/Machine/HostPort.lean ====
section
/-!
DEFINITION. Translation walks and fault service (R425 to R428), invalidation (R429 to R431), migration
(R433), ridge links (R435 to R438), registers and apertures of the host port (R440 to R442), ingest
windows (R443 to R445).
-/
namespace Sys2Proof.Machine

/-! ### Walks and faults (R425 to R428) -/

/-- The leaf that a walk of the tables finds for a request that is translated (R425). -/
def State.walkLeaf (s : State) (r : WalkRequest) : Option (Nat × Bool) :=
  let va := s.homeVa r.va
  let unit := nbits va 50 4
  let off := nbits va 0 50
  match s.ownerOf r unit off with
  | none => none
  | some pn => match s.tableWalk (s.part pn) r.asid unit off with
    | .ok (leaf, big, _) => some (leaf, big)
    | .error _ => none

/-- The entries of a TLB: 4,096 of the first and 32,768 of the second level of a stack, 192 of a core, 4,096 of the
host port (R35, R36, R41, R420). -/
def tlbSize (home : Nat) : Nat := if home < 8 then 4096 + 32768 else if home < 512 then 192 else 4096

/-- An entry enters its TLB; in a full one the oldest entry makes room (log 54). -/
def tlbEnter (e : TlbEntry) (l : List TlbEntry) : List TlbEntry :=
  e :: (if (l.filter (fun t => t.home == e.home)).length < tlbSize e.home then l
    else (l.reverse.eraseP (fun t => t.home == e.home)).reverse)

/-- The home caches the leaf of a page that is not migrating (R426, R433). -/
def State.fillTlb (s : State) (r : WalkRequest) : State :=
  let va := s.homeVa r.va
  let unit := nbits va 50 4
  let off := nbits va 0 50
  let home := homeOf unit off
  match s.locate r, s.tlbHit home r.asid off, s.walkLeaf r with
  | .at (.remote _), _, _ => s
  | .at _, none, some (leaf, big) =>
    if nbit leaf 62 then s else { s with tlb := tlbEnter ⟨home, r.asid, pageOf off big, big, leaf⟩ s.tlb }
  | _, _, _ => s

/-- TRANSLATION_WALK (R425 to R428, R433). -/
def State.translationWalk (s : State) (r : WalkRequest) : State :=
  match s.openLine r 1 (.walk r.va r.asid r.access) with
  | .ready s1 => s1.fillTlb r
  | .wait s1 => s1
  | .fail s1 => s1
  | .refused s1 => s1.fillTlb r

/-- An unanswered entry is answered: the requests that joined it walk again, or fail (R427, R428). -/
def State.answer (s : State) (pn ent : Nat) (fail : Bool) : State :=
  match (s.part pn).faults.find? (fun f => f.ent.toNat % 2 ^ 31 == ent % 2 ^ 31) with
  | none => s
  | some f =>
    let s1 := s.updPart pn (fun p => { p with faults := p.faults.filter (fun g => g.ent != f.ent) })
    if fail then { s1 with failed := s1.failed ++ f.joined.map (fun w => (w, f.page)) } else s1

/-- FAULT_TIMEOUT (R427, R428): an entry, or requests that wait for room in the ring, ran out of time. -/
def State.faultTimeout (s : State) (pn ent : Nat) : State :=
  let p := s.part pn
  let limit := p.frTmo * 1000000
  if p.frTmo = 0 then s
  else
    let late := (p.waiting.filter (fun w => decide (w.2 + limit ≤ s.cycle))).map (·.1)
    let s1 : State := { (s.updPart pn (fun p => { p with
      waiting := p.waiting.filter (fun w => ¬ w.2 + limit ≤ s.cycle) })) with failed := s.failed ++ late }
    if p.faults.any (fun f => f.ent.toNat % 2 ^ 31 == ent % 2 ^ 31 && decide (f.since + limit ≤ s.cycle))
    then s1.answer pn ent true else s1

/-! ### Invalidation (R429 to R431) -/

/-- The unit that a TLB serves. -/
def homeUnit (home : Nat) : Nat := if home < 8 then home else if home = 512 then 10 else if eastCore (home - 256) then 8 else 9

/-- A page, of 512 MiB when big, lies in a range: first VA, number of pages, address space (R429). -/
def inRange (x : Nat × Nat × Nat) (home asid page : Nat) (big : Bool) : Bool :=
  let first := nbits x.1 0 50 / 65536
  homeUnit home == nbits x.1 50 4 && asid == x.2.2 &&
    (x.2.1 == 0 ||
      (if big then decide (page * 8192 < first + x.2.1 ∧ first < (page + 1) * 8192)
       else decide (first ≤ page ∧ page < first + x.2.1)))

/-- The range that TIVA, TILEN and TICTL.ASID name. -/
def Part.range (p : Part) : Nat × Nat × Nat := (p.tiva, p.tilen, p.tiAsid)

/-- A request of an engine or a ridge transfer holds a page of the range (R431). -/
def State.rangePinned (s : State) (x : Nat × Nat × Nat) : Bool := s.pins.any (fun p => inRange x p.home p.asid p.page false)

/-- TICTL_GO (R429 to R431), with the fields of the word written; the range is that of this moment. -/
def State.tictl (s : State) (pn : Nat) (w : Nat) : State :=
  let s1 := s.updPart pn (fun p => { p with evict := nbit w 30, tiAsid := nbits w 0 13 })
  let p := s1.part pn
  if ¬ nbit w 31 ∨ p.tiBusy then s1
  else if nbits p.tiva 54 10 ≠ s.modNum.toNat ∨ 10 < nbits p.tiva 50 4 then
    s1.updPart pn (fun p => { p with tiBad := true, tiPinned := false })
  else if p.evict ∧ s1.rangePinned p.range then s1.updPart pn (fun p => { p with tiBad := false, tiPinned := true })
  else
    let s2 := s1.updPart pn (fun p => { p with tiRange := p.range, tiBad := false, tiPinned := false, tiBusy := true })
    { s2 with tlb := s2.tlb.filter (fun t => !inRange p.range t.home t.asid t.page t.big) }

/-- A write of one of the partition's ingest windows. -/
def State.ingested (s : State) (pn : Nat) (f : Inbound) : Bool :=
  match f.who with
  | .ingest w => (s.part pn).windows.getLsbD w
  | _ => false

/-- INVALIDATION_ACK (R430): every request through a removed entry is complete, of engines and links by their pins and
of the host by its writes in flight, and every fill that a walk of the range left since is discarded. -/
def State.invalidationAck (s : State) (pn : Nat) : State :=
  let p := s.part pn
  if ¬ p.tiBusy ∨ s.rangePinned p.tiRange ∨ s.flight.any (s.ingested pn) then s
  else
    let s1 := s.updPart pn (fun p => { p with tiBusy := false })
    { s1 with tlb := s1.tlb.filter (fun t => !inRange p.tiRange t.home t.asid t.page t.big) }

/-- BACKGROUND_FILL (R433): the lowest absent line of a migrating page is pulled. -/
def State.backgroundFill (s : State) (va asid : Nat) : State :=
  let page := va / 65536 * 65536
  let r : WalkRequest := ⟨page, asid, 1, 0, noCore ((s.stackPart (nbits va 50 4)).getD 0)⟩
  match s.locate r with
  | .at (.moving k rec_ frame off old leafKey bly) =>
    (match (List.range 256).find? (fun i => !s.lineValid rec_ i) with
     | some i =>
       let q : WalkRequest := { r with va := page + 256 * i }
       (match s.locate q with
        | .at p => (s.pullLine p q).getD s
        | _ => s)
     | none => s.finishMigration (.moving k rec_ frame off old leafKey bly) r)
  | _ => s

/-! ### Ridge links (R435 to R438) -/

/-- LINK_DEAD (R437). -/
def State.linkDead (s : State) (p : Nat) : State := s.dropPort p

/-- FLIT_RECEIVE (R435, R437): a flit that fails its CRC is sent again, and three retries in a row that fail too kill
the link. -/
def State.flitReceive (s : State) (p : Nat) (f : Flit) : State :=
  match s.ridge.ports[p]? with
  | none => s
  | some x =>
    if ¬ x.up then s
    else if f.crcOk ∧ f.seq = x.expect then
      { s with ridge := { s.ridge with ports := s.ridge.ports.setIfInBounds p { x with expect := x.expect + 1, retries := 0 } } }
    else if f.crcOk then s
    else if 3 ≤ x.retries then s.linkDead p
    else { s with ridge := { s.ridge with ports := s.ridge.ports.setIfInBounds p { x with retries := x.retries + 1 } } }

/-- PATH_LOSS_TIMEOUT (R416, R437): 10 ms after the last path died, requests fail and the loss counts as a
lost link. -/
def State.pathLossTimeout (s : State) (m : Nat) : State :=
  match assocGet s.ridge.cut m with
  | some (since, false) =>
    if s.cycle < since + 10000000 then s
    else { s with ridge := { s.ridge with cut := assocSet s.ridge.cut m (since, true) } }.unitLoss (.link (16 + m))
  | _ => s

/-- What a ridge request answers: a state with the bytes read, or that it waits. -/
inductive Served where
  | done (s : State) (l : Option (List Byte))
  | wait (s : State)

/-- The pieces of a ridge write, one 16-byte word after another, as inbound writes; a refused word is dropped
(R212, R243, R438). -/
def State.ridgeWrite (r : WalkRequest) (who : Requester) (l : List Byte) : List (Nat × Nat) → State → Served
  | [], s => .done s none
  | (va, n) :: t, s =>
    let q := { r with va := va, kid := s.pieceKid { r with va := va } }
    match s.openLine q n who with
    | .ready s1 => State.ridgeWrite r who l t (s1.engineWrite q who false [] ((l.drop (va - r.va)).take n) [])
    | .refused s1 => State.ridgeWrite r who l t s1
    | .fail s1 => State.ridgeWrite r who l t s1
    | .wait s1 => .wait s1

/-- The pieces of a ridge read; any failure fails the read. -/
def State.ridgeRead (r : WalkRequest) (who : Requester) : List (Nat × Nat) → List Byte → State → Served
  | [], acc, s => .done s (some acc)
  | (va, n) :: t, acc, s =>
    let q := { r with va := va, kid := s.pieceKid { r with va := va } }
    match s.openLine q n who with
    | .ready s1 => if s1.vbad q n then .done s1 none else State.ridgeRead r who t (acc ++ s1.vread q n) s1
    | .refused s1 => .done s1 none
    | .fail s1 => .done s1 none
    | .wait s1 => .wait s1

/-- The packet names a stack or tower that belongs to its own partition here, which is not being reset (R438, R448);
units 10 and above accept nothing over a link (R420, R422). -/
def State.admits (s : State) (p : RidgePacket) : Bool :=
  let unit := nbits p.va 50 4
  decide (p.pn < 8) && !(s.part p.pn).resetting && (match p.op with
    | .belay k _ _ => p.src == s.pair && s.stackPart k == some p.pn
    | .apply _ => true
    | _ => decide (unit < 10) && s.ownerOf ⟨p.va, p.asid, 1, 0, noCore p.pn⟩ unit (nbits p.va 0 50) == some p.pn)

/-- One packet is served (R373, R374, R422, R434, R438); one that is not admitted fails. -/
def State.serve (s : State) (p : RidgePacket) : Served :=
  let who := Requester.ridge p.src
  if ¬ s.admits p then .done s none
  else match p.op with
  | .write l => State.ridgeWrite ⟨p.va, p.asid, 2, 0, noCore p.pn⟩ who l (splitWords p.va l.length) s
  | .read n => State.ridgeRead ⟨p.va, p.asid, 1, 0, noCore p.pn⟩ who (splitWords p.va n) [] s
  | .accumulate kid core aop ord v =>
    (match (if ord then s.stage who ⟨kid, p.va, 0, p.asid, p.src, core, noCore p.pn, aop, v, 0, []⟩
        else s.applyRun who kid p.asid p.va p.src (noCore p.pn) [(aop, v)]) with
      | .ok s1 => .done s1 none
      | .error s1 => .wait s1)
  | .apply kid => (match s.applyAll who kid with
      | .ok s1 => .done s1 none
      | .error s1 => .wait s1)
  | .belay k pa l => .done (s.write (hbmKey k pa) l) none

/-- The sequence number that comes next from a source (R436). -/
def Ridge.due (r : Ridge) (src : Nat) : Nat := (assocGet r.next src).getD 0

/-- Packets that have arrived take their turn in order of their source, each once (R436). -/
def Ridge.order (src : Nat) : Nat → Ridge → Ridge
  | 0, r => r
  | fuel + 1, r =>
    match r.early.find? (fun p => p.src == src && p.seq == r.due src) with
    | none => r
    | some p => Ridge.order src fuel { r with
        next := assocSet r.next src (p.seq + 1)
        early := r.early.erase p
        held := r.held ++ [p] }

/-- Packets behind which others wait: of one source, one partition and one virtual channel (R435, R447). -/
def ridgeLane (p : RidgePacket) : Nat × Nat × Channel :=
  (p.src, p.pn, match p.op with
    | .belay _ _ _ => .belay
    | _ => .request)

/-- A read that has been served is answered, over the response channel (R435). -/
def State.respond (s : State) (p : RidgePacket) (l : Option (List Byte)) : State :=
  match p.op with
  | .read _ =>
    let s1 := s.send p.src .response p.pn
    { s1 with ridge := { s1.ridge with replies := s1.ridge.replies ++ [(p.src, p.seq, l)] } }
  | _ => s

/-- The packets in their turn are served; one that waits for service stalls those of its own lane alone (R435, R447).
The answer lists those that still wait. -/
def State.serveAll : List RidgePacket → List (Nat × Nat × Channel) → State → State × List RidgePacket
  | [], _, s => (s, [])
  | p :: t, stalled, s =>
    if stalled.contains (ridgeLane p) then
      let r := State.serveAll t stalled s
      (r.1, p :: r.2)
    else match s.serve p with
      | .wait s1 =>
        let r := State.serveAll t (ridgeLane p :: stalled) s1
        (r.1, p :: r.2)
      | .done s1 l => State.serveAll t stalled (s1.respond p l)
def State.serveHeld (s : State) : State :=
  let r := State.serveAll s.ridge.held [] s
  { r.1 with ridge := { r.1.ridge with held := r.2 } }

/-- RIDGE_PACKET_RECEIVE (R434, R436, R438). -/
def State.ridgeReceive (s : State) (p : RidgePacket) : State :=
  if s.house.stage ≠ 6 ∨ ¬ Config.inDomain p.src then s
  else
    let r := s.ridge
    let old := decide (p.seq < r.due p.src) || r.early.any (fun q => q.src == p.src && q.seq == p.seq)
    let early := if old then r.early else r.early ++ [p]
    State.serveHeld { s with ridge := Ridge.order p.src early.length { r with early := early } }

/-! ### Ingest windows (R443 to R445) -/

def sat16 (n : Nat) : Nat := Nat.min n 65535

/-- A poisoned TLP counts, whatever becomes of its write (R443, R445). -/
def Window.notePoison (w : Window) (poisoned : Bool) : Window :=
  if poisoned then { w with psn := sat16 (w.psn + 1), fpsn := w.fpsn + 1 } else w

/-- A dropped write (R444). -/
def Window.dropped (w : Window) (ovr rf tf : Bool) : Window :=
  { w with drop := sat16 (w.drop + 1), ovr := w.ovr || ovr, rf := w.rf || rf, tf := w.tf || tf }

/-- A write is counted in its frame (R445). -/
def Window.counted (w : Window) (n : Nat) : Window := { w with bytes := Nat.min (w.bytes + n) 0xFFFFFFFF }

/-- The descriptor of a frame (R445). -/
def Window.descriptor (w : Window) (i tag : Nat) : Vec :=
  packLanes 32 64 (fun l => .ofNat 32 (match l with
    | 0 => (if w.ovr then 2 ^ 31 else 0) + (if w.fpsn ≠ 0 then 2 ^ 30 else 0) + (if w.rf then 2 ^ 29 else 0) +
        (if w.tf then 2 ^ 28 else 0) + i
    | 1 => tag
    | 2 => w.serial.toNat
    | 3 => w.bytes
    | 4 => w.fpsn
    | _ => 0))

/-- The partition of an ingest window. -/
def State.winPart (s : State) (w : Nat) : Option Nat := (List.range 8).find? (fun p => (s.part p).windows.getLsbD w)

/-- A frame ends (R445): its descriptor is held, or dropped when 16 are held. -/
def State.closeFrame (s : State) (w tag : Nat) : State :=
  let x := { s.win w with serial := (s.win w).serial + 1 }
  let full := 16 ≤ x.held.length
  let y : Window := { x with
    held := if full then x.held else x.held ++ [x.descriptor w tag]
    lost := x.lost || decide full
    ovr := false
    rf := false
    tf := false
    fpsn := 0
    bytes := 0 }
  let s1 := s.updWin w (fun _ => y)
  if full then (match s.winPart w with
    | some pn => s1.interrupt pn 3
    | none => s1) else s1

/-- A write to window w is performed, or waits for service (R442 to R445). A write of which some words are refused
flags the frame and is not counted as dropped (R212, log 66). -/
def State.ingest (s : State) (pn w off : Nat) (data : List Byte) (psn : Bool) : State × Bool :=
  let x := s.win w
  let va := x.tgt + off
  let drop (s : State) (ovr rf tf : Bool) : State × Bool :=
    (s.updWin w (fun x => (x.dropped ovr rf tf).notePoison psn), true)
  if ¬ x.en ∨ x.size < off + data.length then drop s true false false
  else if nbits va 54 10 ≠ s.modNum.toNat ∨ 10 ≤ nbits va 50 4 then drop s false false true
  else
    let r : WalkRequest := ⟨va, x.asid, 2, x.kid.toNat, noCore pn⟩
    match s.putPiece r (.ingest w) [] data (if psn then List.replicate data.length true else []) with
    | .wait s1 => (s1, false)
    | .fail s1 => drop s1 false false true
    | .done s1 n refused =>
      if n = 0 ∧ refused then drop s1 false true false
      else (s1.updWin w (fun x => { (x.counted n).notePoison psn with rf := x.rf || refused }), true)

/-- FRAME_DESCRIPTOR (R445): every write of the frame is complete before its descriptor is delivered (R239). -/
def State.frameDescriptor (s : State) (w : Nat) : State :=
  let s1 := s.landed (.ingest w)
  let x := s1.win w
  match x.held with
  | [] => s1
  | d :: t =>
    if (s1.core x.core).room 8 = 0 then s1
    else
      let v := if x.lost then d ||| BitVec.ofNat 2048 (2 ^ 27) else d
      (s1.putElem x.core 8 ⟨x.kid, .vec v 0, 0, engineSrc⟩).updWin w (fun x => { x with held := t, lost := false })

/-- A write of WCFG (R443). -/
def State.wcfg (s : State) (w : Nat) (v : Nat) : State :=
  s.updWin w (fun x =>
    let y := if x.en then x else { x with asid := nbits v 16 13 }
    if nbit v 31 then { y with
      en := true
      psn := 0
      drop := 0
      serial := 0
      ovr := false
      rf := false
      tf := false
      fpsn := 0
      bytes := 0 }
    else { y with en := false })

/-! ### BAR4 and BAR0 (R398, R415, R423, R427, R429, R440, R443, R452) -/

/-- A write through BAR4 to a stack of the partition; one to another stack is dropped (R440, R442). -/
def State.aperture (s : State) (pn off : Nat) (l : List Byte) (poisoned : Bool) : State :=
  let p := s.part pn
  if ¬ p.stackSet.getLsbD p.aps then s
  else
    let key := hbmKey p.aps (off % 2 ^ 36)
    let s1 := s.write key l
    if poisoned then s1.spoilSpan key l.length else s1

/-- x with its low or high 32-bit word replaced. -/
def setHalfWord (x : Nat) (hi : Bool) (v : Nat) : Nat := if hi then x % 2 ^ 32 + v % 2 ^ 32 * 2 ^ 32 else x / 2 ^ 32 * 2 ^ 32 + v % 2 ^ 32
def clearLow (x n : Nat) : Nat := x / 2 ^ n * 2 ^ n
/-- A LOG field: 0 to 3 store 4. -/
def logField (v : Nat) : Nat := Nat.max 4 (v % 16)

/-- A write of a queue register (R398). -/
def State.queueWrite (s : State) (pn qn reg v : Nat) : State :=
  let upd (f : Queue → Queue) : State := s.updQueue pn qn f
  let off (f : Queue → Queue) : State := upd (fun q => if q.en then q else f q)
  match reg with
  | 0x00 => off (fun q => { q with qbase := clearLow (setHalfWord q.qbase false v) 12 })
  | 0x04 => off (fun q => { q with qbase := setHalfWord q.qbase true v })
  | 0x08 => upd (fun q =>
      let q1 := if q.en then q else { q with asid := nbits v 16 13, pri := nbits v 4 2, log := logField v }
      { q1.copied with en := nbit v 31 })
  | 0x10 => off (fun q => { q with qshd := clearLow (setHalfWord q.qshd false v) 4 })
  | 0x14 => off (fun q => { q with qshd := setHalfWord q.qshd true v })
  | 0x18 => s.qnotify pn qn
  | 0x1C => off (fun q => { q with ridx := .ofNat 32 v, kcopy := .ofNat 32 v })
  | 0x20 => if nbit v 0 then s.haltClear pn qn else s
  | _ => s

/-- A write of a window register (R443). -/
def State.windowWrite (s : State) (w reg v : Nat) : State :=
  let off (f : Window → Window) : State := s.updWin w (fun x => if x.en then x else f x)
  match reg with
  | 0x00 => s.wcfg w v
  | 0x04 => off (fun x => { x with kid := .ofNat 32 v })
  | 0x08 => off (fun x => { x with tgt := clearLow (setHalfWord x.tgt false v) 8 })
  | 0x0C => off (fun x => { x with tgt := setHalfWord x.tgt true v })
  | 0x10 => off (fun x => { x with size := Nat.min (clearLow (v % 2 ^ 32) 8) 0x10000000 })
  | 0x14 => off (fun x => { x with core := v % 256 })
  | 0x18 => s.closeFrame w (v % 2 ^ 32)
  | _ => s

/-- A write of a register of a partition's function. -/
def State.partWrite (s : State) (pn off v : Nat) : State :=
  let upd (f : Part → Part) : State := s.updPart pn f
  match off with
  | 0x200 => upd (fun p => { p with srbase := clearLow (setHalfWord p.srbase false v) 12 })
  | 0x204 => upd (fun p => { p with srbase := setHalfWord p.srbase true v })
  | 0x208 => upd (fun p => { p with srEn := nbit v 31, srLog := logField v })
  | 0x210 => upd (fun p => { p with srcons := .ofNat 32 v })
  | 0x300 => upd (fun p => { p with frbase := clearLow (setHalfWord p.frbase false v) 12 })
  | 0x304 => upd (fun p => { p with frbase := setHalfWord p.frbase true v })
  | 0x308 => upd (fun p => { p with frEn := nbit v 31, frTmo := nbits v 4 16, frLog := logField v })
  | 0x310 => upd (fun p => { p with frcons := .ofNat 32 v })
  | 0x314 => s.answer pn (nbits v 0 31) (nbit v 31)
  | 0x400 => upd (fun p => { p with trdbAddr := p.trdbAddr / 4096 * 4096 + nbits v 20 12 })
  | 0x404 => upd (fun p => { p with trdbAddr := p.trdbAddr % 4096 + nbits v 0 4 * 4096, trdbStk := nbits v 4 3 })
  | 0x410 => upd (fun p => { p with aps := v % 8 })
  | 0x500 => upd (fun p => { p with tiva := clearLow (setHalfWord p.tiva false v) 16 })
  | 0x504 => upd (fun p => { p with tiva := setHalfWord p.tiva true v })
  | 0x508 => upd (fun p => { p with tilen := v % 2 ^ 32 })
  | 0x50C => s.tictl pn v
  | _ =>
    if 0x800 ≤ off ∧ off < 0xA00 then
      let w := (off - 0x800) / 0x20
      if (s.part pn).windows.getLsbD w then s.windowWrite w ((off - 0x800) % 0x20) v else s
    else if 0x10000 ≤ off ∧ off < 0x11000 then s.queueWrite pn ((off - 0x10000) / 0x40) ((off - 0x10000) % 0x40) v
    else s

/-! ### Posted writes of a function (R440) -/

/-- A posted write is performed; false when it waits for service. -/
def State.performArrival (s : State) (pn : Nat) (a : Arrival) : State × Bool :=
  match a with
  | .ingest w off data psn => s.ingest pn w off data psn
  | .reg off v => (s.partWrite pn off v, true)
  | .aperture off data psn => (s.aperture pn off data psn, true)

/-- The ingest writes that a function has made so far take their place before its next write (R440, R444). -/
def State.ingestFirst (s : State) (pn : Nat) : State :=
  if s.flight.any (s.ingested pn) then s.performs (s.ingested pn) else s

/-- Posted writes of a function are performed in order of arrival (R440). -/
def State.drainArrivals (pn : Nat) : List Arrival → State → State
  | [], s => s.updPart pn (fun p => { p with arrivals := [] })
  | a :: t, s =>
    let r := (s.ingestFirst pn).performArrival pn a
    if r.2 then State.drainArrivals pn t r.1 else r.1.updPart pn (fun p => { p with arrivals := a :: t })

/-- Writes that wait for service are tried again, of the host and of other modules (R427). -/
def State.retryWrites (s : State) (pn : Nat) : State :=
  (if (s.part pn).arrivals.isEmpty then s else State.drainArrivals pn (s.part pn).arrivals s).serveHeld

/-- A posted write arrives at partition pn's function (R440). -/
def State.post (s : State) (pn : Nat) (a : Arrival) : State :=
  if ¬ s.functionOn pn then s
  else
    let waiting := (s.part pn).arrivals
    if waiting.isEmpty then
      let r := (s.ingestFirst pn).performArrival pn a
      if r.2 then r.1 else r.1.updPart pn (fun p => { p with arrivals := [a] })
    else State.drainArrivals pn (waiting ++ [a]) s

/-- A write to BAR0 of partition pn's function. The registers of the fault ring serve the writes that wait for
service, and are written whatever waits (R428, R440, log 75). -/
def State.postReg (s : State) (pn off v : Nat) : State :=
  if 0x300 ≤ off ∧ off < 0x318 then (if s.functionOn pn then (s.partWrite pn off v).retryWrites pn else s)
  else s.post pn (.reg off v)

/-- INGEST_WRITE and WCLOSE, WCFG_ENABLE: a write to a window by way of the function that it belongs to (R440, R443
to R445). -/
def State.toWindow (s : State) (w : Nat) (a : Nat → Arrival) : State :=
  match s.winPart w with
  | some pn => s.post pn (a w)
  | none => s
/-- A register of window w. -/
def windowReg (reg v w : Nat) : Arrival := .reg (0x800 + 0x20 * w + reg) v

/-! ### What the host reads (R398, R415, R423, R427, R429, R440, R443, R452) -/

/-- A queue's registers as the host reads them (R398). -/
def Queue.regRead (q : Queue) (reg : Nat) : Nat :=
  match reg with
  | 0x00 => nbits q.qbase 0 32
  | 0x04 => nbits q.qbase 32 32
  | 0x08 => q.en.toNat * 2 ^ 31 + q.asid * 2 ^ 16 + q.pri * 16 + q.log
  | 0x10 => nbits q.qshd 0 32
  | 0x14 => nbits q.qshd 32 32
  | 0x1C => q.ridx.toNat
  | 0x20 => q.err * 256 + q.headWaits.toNat * 2 + q.halt.toNat
  | _ => 0

/-- A window's registers as the host reads them (R443). -/
def Window.regRead (x : Window) (reg : Nat) : Nat :=
  match reg with
  | 0x00 => x.en.toNat * 2 ^ 31 + x.asid * 2 ^ 16
  | 0x04 => x.kid.toNat
  | 0x08 => nbits x.tgt 0 32
  | 0x0C => nbits x.tgt 32 32
  | 0x10 => x.size
  | 0x14 => x.core
  | 0x1C => x.psn * 2 ^ 16 + x.drop
  | _ => 0

/-- The registers of a partition's function as the host reads them; every other offset reads 0 (R440). -/
def State.partRead (s : State) (pn off : Nat) : Nat :=
  let p := s.part pn
  match off with
  | 0x200 => nbits p.srbase 0 32
  | 0x204 => nbits p.srbase 32 32
  | 0x208 => p.srEn.toNat * 2 ^ 31 + p.srLog
  | 0x20C => p.srprod.toNat
  | 0x210 => p.srcons.toNat
  | 0x300 => nbits p.frbase 0 32
  | 0x304 => nbits p.frbase 32 32
  | 0x308 => p.frEn.toNat * 2 ^ 31 + p.frTmo * 16 + p.frLog
  | 0x30C => p.frprod.toNat
  | 0x310 => p.frcons.toNat
  | 0x400 => nbits p.trdbAddr 0 12 * 2 ^ 20
  | 0x404 => p.trdbStk * 16 + nbits p.trdbAddr 12 4
  | 0x408 => p.asidBase
  | 0x40C => p.asidCount
  | 0x410 => p.aps
  | 0x500 => nbits p.tiva 0 32
  | 0x504 => nbits p.tiva 32 32
  | 0x508 => p.tilen
  | 0x50C => p.evict.toNat * 2 ^ 30 + p.tiAsid
  | 0x510 => p.tiBusy.toNat * 2 ^ 31 + p.tiPinned.toNat * 2 ^ 30 + p.tiBad.toNat
  | _ =>
    if 0x800 ≤ off ∧ off < 0xA00 then
      let w := (off - 0x800) / 0x20
      if p.windows.getLsbD w then (s.win w).regRead ((off - 0x800) % 0x20) else 0
    else if 0x10000 ≤ off ∧ off < 0x11000 then (p.queue ((off - 0x10000) / 0x40)).regRead ((off - 0x10000) % 0x40)
    else 0

/-- A 32-bit read of BAR0 of partition pn's function, or with pn = 8 of the physical function; in base camp
the mailbox and the test log stay (R440, R451, R452). Before stage 5 it gets Configuration Request Retry Status and
no value (R449). A read changes nothing. -/
def State.registerRead (s : State) (pn off : Nat) : Option Nat :=
  let h := s.house
  if ¬ s.mailbox then none
  else if pn = 8 then some (
    match off with
    | 0x04 => h.cmd.isSome.toNat * 2 ^ 31 + h.res * 2 ^ 16 + h.rlen
    | 0x08 => (h.stage == 15).toNat * 2 ^ 31 + h.alarm.toNat * 2 ^ 30 + h.stage
    | 0x0C => h.logCnt
    | _ =>
      if 0x1000 ≤ off ∧ off < 0x2000 then ofBytesLE (s.peek (mbKey (off - 0x1000)) 4)
      else if 0x2000 ≤ off ∧ off < 0x4000 then ofBytesLE (s.peek (tlogKey (off - 0x2000)) 4)
      else 0)
  else some (if s.functionOn pn then s.partRead pn off else 0)

/-- A read of n bytes through BAR4 of partition pn's function (R440): a stack outside the partition reads
all ones. -/
def State.apertureRead (s : State) (pn off n : Nat) : List Byte :=
  let p := s.part pn
  if ¬ s.functionOn pn ∨ ¬ p.stackSet.getLsbD p.aps then List.replicate n 0xFF
  else s.peek (hbmKey p.aps (off % 2 ^ 36)) n

/-- REGISTER_WRITE (R9, R440, R452): a 32-bit write to BAR0 of partition pn's function, or with pn = 8 of
the physical function. -/
def State.registerWrite (s : State) (pn off v : Nat) : State :=
  if pn = 8 then
    if ¬ s.mailbox then s
    else if off = 0 then s.mailboxCommand (nbits v 24 8) (nbits v 0 24)
    else if 0x1000 ≤ off ∧ off < 0x2000 then s.pokes (mbKey (off - 0x1000)) (bytesLE 4 v)
    else s
  else s.postReg pn off v

end Sys2Proof.Machine
end

