-- ==== Sys2Proof/Machine/ExecHost.lean ====
section
/-!
DEFINITION. Steps of the command processor, translation, ridge, ingest and housekeeping (R43 to R56, R398 to R457).
A step whose condition does not hold changes nothing (log 4).
-/
namespace Sys2Proof.Machine

/-- PARK_WAKE (R71). -/
def execParkWake (kid : Nat) (ix : Nat) (s : State) : Out := onUnit true s (fun s => s.parkWake (.ofNat 32 kid) ix)

/-- PARK_TIMEOUT (R71). -/
def execParkTimeout (kid : Nat) (ix : Nat) (s : State) : Out := onUnit true s (fun s => s.parkTimeout (.ofNat 32 kid) ix)

/-- CAIRN_PICKUP (R54). -/
def execCairnPickup (c : Nat) (kid : Nat) (ix : Nat) (s : State) : Out := onUnit (decide (c < 256)) s (fun s => s.pickup c (.ofNat 32 kid) ix)

/-- PRIORITY_AGING (R72). -/
def execPriorityAging (kid : Nat) (ix : Nat) (s : State) : Out := onUnit true s (fun s => s.priorityAging (.ofNat 32 kid) ix)

/-- PHASE_START (R44). -/
def execPhaseStart (kid : Nat) (s : State) : Out := onUnit true s (fun s => s.phaseStart (.ofNat 32 kid))

/-- SUMMIT_EXCHANGE (R241). -/
def execSummitExchange (kid : Nat) (s : State) : Out := onUnit true s (fun s => s.summitExchange (.ofNat 32 kid))

/-- QNOTIFY (R400). -/
def execQnotify (pn : Nat) (qn : Nat) (cnt : Nat) (s : State) : Out := onUnit (decide (pn < 8) && decide (qn < 64)) s (fun s => s.postReg pn (0x10000 + 0x40 * qn + 0x18) cnt)

/-- QUEUE_SCAN_TIMER (R400). -/
def execQueueScanTimer (pn : Nat) (s : State) : Out := onUnit (decide (pn < 8)) s (fun s => s.scanTimer pn)

/-- SHADOW_WRITE (R402). -/
def execShadowWrite (pn : Nat) (qn : Nat) (s : State) : Out := onUnit (decide (pn < 8) && decide (qn < 64)) s (fun s => s.shadowWrite pn qn)

/-- QRIDX_RESYNC (R404). -/
def execQridxResync (pn : Nat) (qn : Nat) (s : State) : Out := onUnit (decide (pn < 8) && decide (qn < 64)) s (fun s => s.resync pn qn)

/-- QSTAT_HALT_CLEAR (R398). -/
def execQstatHaltClear (pn : Nat) (qn : Nat) (s : State) : Out := onUnit (decide (pn < 8) && decide (qn < 64)) s (fun s => s.postReg pn (0x10000 + 0x40 * qn + 0x20) 1)

/-- LAUNCH (R406). -/
def execLaunchP (pn : Nat) (qn : Nat) (s : State) : Out := onUnit (decide (pn < 8) && decide (qn < 64)) s (fun s => s.launch pn qn)

/-- SIGNAL (R408). -/
def execSignalP (pn : Nat) (qn : Nat) (s : State) : Out := onUnit (decide (pn < 8) && decide (qn < 64)) s (fun s => s.signal pn qn)

/-- WAIT (R408). -/
def execWaitP (pn : Nat) (qn : Nat) (s : State) : Out := onUnit (decide (pn < 8) && decide (qn < 64)) s (fun s => s.waitPacket pn qn)

/-- WAIT_TIMEOUT (R408). -/
def execWaitTimeout (pn : Nat) (qn : Nat) (s : State) : Out := onUnit (decide (pn < 8) && decide (qn < 64)) s (fun s => s.waitTimeout pn qn)

/-- MARKER (R408). -/
def execMarkerP (pn : Nat) (qn : Nat) (s : State) : Out := onUnit (decide (pn < 8) && decide (qn < 64)) s (fun s => s.marker pn qn)

/-- NOP_PACKET (R408). -/
def execNopPacket (pn : Nat) (qn : Nat) (s : State) : Out := onUnit (decide (pn < 8) && decide (qn < 64)) s (fun s => s.nopPacket pn qn)

/-- PACKET_AGING (R414). -/
def execPacketAging (pn : Nat) (qn : Nat) (s : State) : Out := onUnit (decide (pn < 8) && decide (qn < 64)) s (fun s => s.packetAging pn qn)

/-- KERNEL_COMPLETION (R413). -/
def execKernelCompletion (kid : Nat) (s : State) : Out := onUnit true s (fun s => s.completion (.ofNat 32 kid))

/-- PARTITION_RESET (R448). -/
def execPartitionReset (pn : Nat) (s : State) : Out := onUnit (decide (pn < 8)) s (fun s => s.partitionReset pn)

/-- UNIT_LOSS (R416). -/
def execUnitLoss (unit : LostUnit) (s : State) : Out := onUnit unit.wf s (fun s => s.unitLoss unit)

/-- TRANSLATION_WALK (R425). -/
def execTranslationWalk (req : WalkRequest) (s : State) : Out := onUnit true s (fun s => s.translationWalk req)

/-- FRESP_WALK_AGAIN (R427). -/
def execFrespWalkAgain (pn : Nat) (ent : Nat) (s : State) : Out := onUnit (decide (pn < 8)) s (fun s => (s.answer pn ent false).retryWrites pn)

/-- FRESP_FAIL (R428). -/
def execFrespFail (pn : Nat) (ent : Nat) (s : State) : Out := onUnit (decide (pn < 8)) s (fun s => (s.answer pn ent true).retryWrites pn)

/-- FAULT_TIMEOUT (R428). -/
def execFaultTimeout (pn : Nat) (ent : Nat) (s : State) : Out := onUnit (decide (pn < 8)) s (fun s => s.faultTimeout pn ent)

/-- TICTL_GO (R430). -/
def execTictlGo (pn : Nat) (word : Nat) (s : State) : Out := onUnit (decide (pn < 8)) s (fun s => s.postReg pn 0x50C word)

/-- INVALIDATION_ACK (R430). -/
def execInvalidationAck (pn : Nat) (s : State) : Out := onUnit (decide (pn < 8)) s (fun s => s.invalidationAck pn)

/-- BACKGROUND_FILL (R433). -/
def execBackgroundFill (va : Nat) (asid : Nat) (s : State) : Out := onUnit true s (fun s => s.backgroundFill va asid)

/-- FLIT_RECEIVE (R435). -/
def execFlitReceive (port : Nat) (flit : Flit) (s : State) : Out := onUnit (decide (port < 16)) s (fun s => s.flitReceive port flit)

/-- RIDGE_PACKET_RECEIVE (R436). -/
def execRidgePacketReceive (pkt : RidgePacket) (s : State) : Out := onUnit true s (fun s => s.ridgeReceive pkt)

/-- LINK_DEAD (R437). -/
def execLinkDead (port : Nat) (s : State) : Out := onUnit (decide (port < 16)) s (fun s => s.linkDead port)

/-- PATH_LOSS_TIMEOUT (R437). -/
def execPathLossTimeout (modn : Nat) (s : State) : Out := onUnit (decide (modn < 1024)) s (fun s => s.pathLossTimeout modn)

/-- INGEST_WRITE (R444). -/
def execIngestWrite (win : Nat) (off : Nat) (data : List Byte) (poisoned : Bool) (s : State) : Out := onUnit (decide (win < 16)) s (fun s => s.toWindow win (fun w => .ingest w off data poisoned))

/-- WCLOSE (R445). -/
def execWclose (win : Nat) (tag : Nat) (s : State) : Out := onUnit (decide (win < 16)) s (fun s => s.toWindow win (windowReg 0x18 tag))

/-- FRAME_DESCRIPTOR (R445). -/
def execFrameDescriptor (win : Nat) (s : State) : Out := onUnit (decide (win < 16)) s (fun s => s.frameDescriptor win)

/-- WCFG_ENABLE (R443). -/
def execWcfgEnable (win : Nat) (word : Nat) (s : State) : Out := onUnit (decide (win < 16)) s (fun s => if nbit word 31 then s.toWindow win (windowReg 0x00 word) else s)

/-- APERTURE_ACCESS (R440). -/
def execApertureAccess (pn : Nat) (off : Nat) (data : Option (List Byte)) (_size : Nat) (poisoned : Bool) (s : State) : Out := onUnit (decide (pn < 8)) s (fun s => match data with
    | some l => s.post pn (.aperture off l poisoned)
    | none => s)

/-- REGISTER_WRITE (R9). -/
def execRegisterWrite (pn : Nat) (off : Nat) (word : Nat) (s : State) : Out := onUnit (decide (pn < 9)) s (fun s => s.registerWrite pn off word)

/-- POWER_ON (R449). -/
def execPowerOn (s : State) : Out := onUnit true s (fun s => s.powerOn)

/-- MODULE_RESET (R441). -/
def execModuleReset (s : State) : Out := onUnit true s (fun s => s.moduleReset)

/-- CONFIG (R454). -/
def execConfigOp (arg : List Byte) (s : State) : Out := onUnit true s (fun s => s.onCommand 1 arg (fun s => s.configOp arg))

/-- ROUTINE (R453). -/
def execRoutineOp (arg : List Byte) (s : State) : Out := onUnit true s (fun s => s.onCommand 2 arg (fun s => s.routineOp arg))

/-- ATTEST (R455). -/
def execAttestOp (arg : List Byte) (s : State) : Out := onUnit true s (fun s => s.onCommand 3 arg (fun s => s.attestOp arg))

/-- UNLOAD (R453). -/
def execUnloadOp (arg : List Byte) (s : State) : Out := onUnit true s (fun s => s.onCommand 4 arg (fun s => s.unloadOp arg))

/-- CONFIGURATION_REQUEST (R451). -/
def execConfigurationRequest (fn : Nat) (_reg : Nat) (data : Option Nat) (s : State) : Out := onUnit true s (fun s => s.configRequest fn data)

/-- I3C_MANAGEMENT (R454). -/
def execI3cManagement (msg : I3CMessage) (s : State) : Out := onUnit true s (fun s => s.i3c msg)

/-- BAD_OP (R453). -/
def execBadOp (op : Nat) (_len : Nat) (s : State) : Out := onUnit true s (fun s => if s.house.cmd.all (fun x => x.1 == op) then s.badOp op else s)

end Sys2Proof.Machine
end

