-- ==== Sys2Proof/Machine/Dispatch.lean ====
section
/-!
DEFINITION. Which meaning each instruction has: one call per constructor.
-/
namespace Sys2Proof.Machine

def exec (instr : Instr) (s : State) : Host.Outcome State Fault Refusal :=
  match instr with
  | .nopSlot0 stop qui g => Sys2Proof.Machine.execNopSlot0 stop qui g s
  | .br stop qui g o => Sys2Proof.Machine.execBr stop qui g o s
  | .callR stop qui g o => Sys2Proof.Machine.execCallR stop qui g o s
  | .jr stop qui g a => Sys2Proof.Machine.execJr stop qui g a s
  | .ret stop qui g => Sys2Proof.Machine.execRet stop qui g s
  | .loopR stop qui g c a l => Sys2Proof.Machine.execLoopR stop qui g c a l s
  | .chk stop qui g a o => Sys2Proof.Machine.execChk stop qui g a o s
  | .chkv stop qui g v o => Sys2Proof.Machine.execChkv stop qui g v o s
  | .brvAll stop qui g m o => Sys2Proof.Machine.execBrvAll stop qui g m o s
  | .brvNone stop qui g m o => Sys2Proof.Machine.execBrvNone stop qui g m o s
  | .haltR stop qui g => Sys2Proof.Machine.execHaltR stop qui g s
  | .park stop qui g a b t => Sys2Proof.Machine.execPark stop qui g a b t s
  | .yield stop qui g => Sys2Proof.Machine.execYield stop qui g s
  | .summit stop qui g => Sys2Proof.Machine.execSummit stop qui g s
  | .barset stop qui g i a => Sys2Proof.Machine.execBarset stop qui g i a s
  | .bararr stop qui g i => Sys2Proof.Machine.execBararr stop qui g i s
  | .barwait stop qui g i => Sys2Proof.Machine.execBarwait stop qui g i s
  | .bartest stop qui g i p => Sys2Proof.Machine.execBartest stop qui g i p s
  | .ropePair stop qui g => Sys2Proof.Machine.execRopePair stop qui g s
  | .ropeQuad stop qui g => Sys2Proof.Machine.execRopeQuad stop qui g s
  | .unrope stop qui g => Sys2Proof.Machine.execUnrope stop qui g s
  | .drain stop qui g x => Sys2Proof.Machine.execDrain stop qui g x s
  | .trapR stop qui g c => Sys2Proof.Machine.execTrapR stop qui g c s
  | .sys stop qui g c => Sys2Proof.Machine.execSys stop qui g c s
  | .cread stop qui g d r => Sys2Proof.Machine.execCread stop qui g d r s
  | .cwrite stop qui g r a => Sys2Proof.Machine.execCwrite stop qui g r a s
  | .rfdefer stop qui g a => Sys2Proof.Machine.execRfdefer stop qui g a s
  | .tret stop qui g => Sys2Proof.Machine.execTret stop qui g s
  | .tretAt stop qui g a => Sys2Proof.Machine.execTretAt stop qui g a s
  | .nopK k g => Sys2Proof.Machine.execNopK k g s
  | .addR u g d a b => Sys2Proof.Machine.execAddR u g d a b s
  | .subR u g d a b => Sys2Proof.Machine.execSubR u g d a b s
  | .mulR u g d a b => Sys2Proof.Machine.execMulR u g d a b s
  | .mulhs u g d a b => Sys2Proof.Machine.execMulhs u g d a b s
  | .mulhu u g d a b => Sys2Proof.Machine.execMulhu u g d a b s
  | .divR u g d a b => Sys2Proof.Machine.execDivR u g d a b s
  | .divu u g d a b => Sys2Proof.Machine.execDivu u g d a b s
  | .remR u g d a b => Sys2Proof.Machine.execRemR u g d a b s
  | .remu u g d a b => Sys2Proof.Machine.execRemu u g d a b s
  | .andR u g d a b => Sys2Proof.Machine.execAndR u g d a b s
  | .orR u g d a b => Sys2Proof.Machine.execOrR u g d a b s
  | .xorR u g d a b => Sys2Proof.Machine.execXorR u g d a b s
  | .andn u g d a b => Sys2Proof.Machine.execAndn u g d a b s
  | .shl u g d a b => Sys2Proof.Machine.execShl u g d a b s
  | .shr u g d a b => Sys2Proof.Machine.execShr u g d a b s
  | .sar u g d a b => Sys2Proof.Machine.execSar u g d a b s
  | .rol u g d a b => Sys2Proof.Machine.execRol u g d a b s
  | .minR u g d a b => Sys2Proof.Machine.execMinR u g d a b s
  | .maxR u g d a b => Sys2Proof.Machine.execMaxR u g d a b s
  | .minu u g d a b => Sys2Proof.Machine.execMinu u g d a b s
  | .maxu u g d a b => Sys2Proof.Machine.execMaxu u g d a b s
  | .lea u g d a b x => Sys2Proof.Machine.execLea u g d a b x s
  | .sel u g d a b p => Sys2Proof.Machine.execSel u g d a b p s
  | .clz u g d a => Sys2Proof.Machine.execClz u g d a s
  | .ctz u g d a => Sys2Proof.Machine.execCtz u g d a s
  | .popc u g d a => Sys2Proof.Machine.execPopc u g d a s
  | .rngx u g d a b => Sys2Proof.Machine.execRngx u g d a b s
  | .mov u g d a => Sys2Proof.Machine.execMov u g d a s
  | .addi u g d a i => Sys2Proof.Machine.execAddi u g d a i s
  | .andi u g d a i => Sys2Proof.Machine.execAndi u g d a i s
  | .ori u g d a i => Sys2Proof.Machine.execOri u g d a i s
  | .xori u g d a i => Sys2Proof.Machine.execXori u g d a i s
  | .shli u g d a i => Sys2Proof.Machine.execShli u g d a i s
  | .shri u g d a i => Sys2Proof.Machine.execShri u g d a i s
  | .sari u g d a i => Sys2Proof.Machine.execSari u g d a i s
  | .roli u g d a i => Sys2Proof.Machine.execRoli u g d a i s
  | .muli u g d a i => Sys2Proof.Machine.execMuli u g d a i s
  | .bfx u g d a p n => Sys2Proof.Machine.execBfx u g d a p n s
  | .bfi u g d a p n => Sys2Proof.Machine.execBfi u g d a p n s
  | .li u g d i => Sys2Proof.Machine.execLi u g d i s
  | .cmpEq u g p a b => Sys2Proof.Machine.execCmpEq u g p a b s
  | .cmpNe u g p a b => Sys2Proof.Machine.execCmpNe u g p a b s
  | .cmpLt u g p a b => Sys2Proof.Machine.execCmpLt u g p a b s
  | .cmpLe u g p a b => Sys2Proof.Machine.execCmpLe u g p a b s
  | .cmpLtu u g p a b => Sys2Proof.Machine.execCmpLtu u g p a b s
  | .cmpLeu u g p a b => Sys2Proof.Machine.execCmpLeu u g p a b s
  | .cmpiEq u g p a i => Sys2Proof.Machine.execCmpiEq u g p a i s
  | .cmpiLt u g p a i => Sys2Proof.Machine.execCmpiLt u g p a i s
  | .cmpiLtu u g p a i => Sys2Proof.Machine.execCmpiLtu u g p a i s
  | .cmpiNe u g p a i => Sys2Proof.Machine.execCmpiNe u g p a i s
  | .pand u g p a b => Sys2Proof.Machine.execPand u g p a b s
  | .por u g p a b => Sys2Proof.Machine.execPor u g p a b s
  | .pxor u g p a b => Sys2Proof.Machine.execPxor u g p a b s
  | .pandn u g p a b => Sys2Proof.Machine.execPandn u g p a b s
  | .cmpt u g a b => Sys2Proof.Machine.execCmpt u g a b s
  | .cmpti u g a i => Sys2Proof.Machine.execCmpti u g a i s
  | .ptest u g p a => Sys2Proof.Machine.execPtest u g p a s
  | .pclr u g d a => Sys2Proof.Machine.execPclr u g d a s
  | .fadd u g d a b r => Sys2Proof.Machine.execFadd u g d a b r s
  | .fsub u g d a b r => Sys2Proof.Machine.execFsub u g d a b r s
  | .fmul u g d a b r => Sys2Proof.Machine.execFmul u g d a b r s
  | .ffma u g d a b r => Sys2Proof.Machine.execFfma u g d a b r s
  | .fmin u g d a b => Sys2Proof.Machine.execFmin u g d a b s
  | .fmax u g d a b => Sys2Proof.Machine.execFmax u g d a b s
  | .fabs u g d a => Sys2Proof.Machine.execFabs u g d a s
  | .fneg u g d a => Sys2Proof.Machine.execFneg u g d a s
  | .fcvtWF u g d a b r => Sys2Proof.Machine.execFcvtWF u g d a b r s
  | .fcvtFW u g d a b r => Sys2Proof.Machine.execFcvtFW u g d a b r s
  | .fcvtFWu u g d a b r => Sys2Proof.Machine.execFcvtFWu u g d a b r s
  | .fcvtWuF u g d a b r => Sys2Proof.Machine.execFcvtWuF u g d a b r s
  | .fcmpEq u g p a b => Sys2Proof.Machine.execFcmpEq u g p a b s
  | .fcmpLt u g p a b => Sys2Proof.Machine.execFcmpLt u g p a b s
  | .fcmpLe u g p a b => Sys2Proof.Machine.execFcmpLe u g p a b s
  | .fcmpUn u g p a b => Sys2Proof.Machine.execFcmpUn u g p a b s
  | .fclass u g d a => Sys2Proof.Machine.execFclass u g d a s
  | .ldb g d b o => Sys2Proof.Machine.execLdb g d b o s
  | .ldbu g d b o => Sys2Proof.Machine.execLdbu g d b o s
  | .ldh g d b o => Sys2Proof.Machine.execLdh g d b o s
  | .ldhu g d b o => Sys2Proof.Machine.execLdhu g d b o s
  | .ldw g d b o => Sys2Proof.Machine.execLdw g d b o s
  | .stb g d b o => Sys2Proof.Machine.execStb g d b o s
  | .sth g d b o => Sys2Proof.Machine.execSth g d b o s
  | .stw g d b o => Sys2Proof.Machine.execStw g d b o s
  | .ldwS g d b o => Sys2Proof.Machine.execLdwS g d b o s
  | .ldbuS g d b o => Sys2Proof.Machine.execLdbuS g d b o s
  | .ldhuS g d b o => Sys2Proof.Machine.execLdhuS g d b o s
  | .ldv g v b o m => Sys2Proof.Machine.execLdv g v b o m s
  | .stv g v b o m => Sys2Proof.Machine.execStv g v b o m s
  | .ldvS g v b o m => Sys2Proof.Machine.execLdvS g v b o m s
  | .ldmx4 g v b o m => Sys2Proof.Machine.execLdmx4 g v b o m s
  | .ldmx8 g v b o m => Sys2Proof.Machine.execLdmx8 g v b o m s
  | .ldvx g v i b m w => Sys2Proof.Machine.execLdvx g v i b m w s
  | .stvx g v i b m w => Sys2Proof.Machine.execStvx g v i b m w s
  | .ldvxS g v i b m w => Sys2Proof.Machine.execLdvxS g v i b m w s
  | .shn g d a e t m => Sys2Proof.Machine.execShn g d a e t m s
  | .tsh g d a e t m => Sys2Proof.Machine.execTsh g d a e t m s
  | .vadd u g d a b m x => Sys2Proof.Machine.execVadd u g d a b m x s
  | .vsub u g d a b m x => Sys2Proof.Machine.execVsub u g d a b m x s
  | .vmul u g d a b m x => Sys2Proof.Machine.execVmul u g d a b m x s
  | .vmulh u g d a b m x => Sys2Proof.Machine.execVmulh u g d a b m x s
  | .vmad u g d a b m x => Sys2Proof.Machine.execVmad u g d a b m x s
  | .vmin u g d a b m x => Sys2Proof.Machine.execVmin u g d a b m x s
  | .vmax u g d a b m x => Sys2Proof.Machine.execVmax u g d a b m x s
  | .vminu u g d a b m x => Sys2Proof.Machine.execVminu u g d a b m x s
  | .vmaxu u g d a b m x => Sys2Proof.Machine.execVmaxu u g d a b m x s
  | .vabs u g d a m x => Sys2Proof.Machine.execVabs u g d a m x s
  | .vand u g d a b m x => Sys2Proof.Machine.execVand u g d a b m x s
  | .vor u g d a b m x => Sys2Proof.Machine.execVor u g d a b m x s
  | .vxor u g d a b m x => Sys2Proof.Machine.execVxor u g d a b m x s
  | .vshl u g d a b m x => Sys2Proof.Machine.execVshl u g d a b m x s
  | .vshr u g d a b m x => Sys2Proof.Machine.execVshr u g d a b m x s
  | .vsar u g d a b m x => Sys2Proof.Machine.execVsar u g d a b m x s
  | .vclz u g d a m x => Sys2Proof.Machine.execVclz u g d a m x s
  | .vpopc u g d a m x => Sys2Proof.Machine.execVpopc u g d a m x s
  | .vadds u g d a b m x => Sys2Proof.Machine.execVadds u g d a b m x s
  | .vsubs u g d a b m x => Sys2Proof.Machine.execVsubs u g d a b m x s
  | .vcmpEq u g d a b m x => Sys2Proof.Machine.execVcmpEq u g d a b m x s
  | .vcmpNe u g d a b m x => Sys2Proof.Machine.execVcmpNe u g d a b m x s
  | .vcmpLt u g d a b m x => Sys2Proof.Machine.execVcmpLt u g d a b m x s
  | .vcmpLe u g d a b m x => Sys2Proof.Machine.execVcmpLe u g d a b m x s
  | .vcmpLtu u g d a b m x => Sys2Proof.Machine.execVcmpLtu u g d a b m x s
  | .vcmpLeu u g d a b m x => Sys2Proof.Machine.execVcmpLeu u g d a b m x s
  | .vaddX u g d a sx m x => Sys2Proof.Machine.execVaddX u g d a sx m x s
  | .vsubX u g d a sx m x => Sys2Proof.Machine.execVsubX u g d a sx m x s
  | .vmulX u g d a sx m x => Sys2Proof.Machine.execVmulX u g d a sx m x s
  | .vandX u g d a sx m x => Sys2Proof.Machine.execVandX u g d a sx m x s
  | .vshlX u g d a sx m x => Sys2Proof.Machine.execVshlX u g d a sx m x s
  | .vshrX u g d a sx m x => Sys2Proof.Machine.execVshrX u g d a sx m x s
  | .vsarX u g d a sx m x => Sys2Proof.Machine.execVsarX u g d a sx m x s
  | .vcmpEqX u g d a sx m x => Sys2Proof.Machine.execVcmpEqX u g d a sx m x s
  | .vcmpLtX u g d a sx m x => Sys2Proof.Machine.execVcmpLtX u g d a sx m x s
  | .vdup u g d a sx m x => Sys2Proof.Machine.execVdup u g d a sx m x s
  | .vins u g d a sx m x => Sys2Proof.Machine.execVins u g d a sx m x s
  | .vext u g d a sx m x => Sys2Proof.Machine.execVext u g d a sx m x s
  | .mand u g d a b => Sys2Proof.Machine.execMand u g d a b s
  | .mor u g d a b => Sys2Proof.Machine.execMor u g d a b s
  | .mxor u g d a b => Sys2Proof.Machine.execMxor u g d a b s
  | .mandn u g d a b => Sys2Proof.Machine.execMandn u g d a b s
  | .mpop u g d a => Sys2Proof.Machine.execMpop u g d a s
  | .mfirst u g d a => Sys2Proof.Machine.execMfirst u g d a s
  | .vsel u g d a b m => Sys2Proof.Machine.execVsel u g d a b m s
  | .vperm u g d a b m x => Sys2Proof.Machine.execVperm u g d a b m x s
  | .vrotX u g d a sx m x => Sys2Proof.Machine.execVrotX u g d a sx m x s
  | .vzip u g d a b m x => Sys2Proof.Machine.execVzip u g d a b m x s
  | .vunzip u g d a b m x => Sys2Proof.Machine.execVunzip u g d a b m x s
  | .vcompress u g d a b m x => Sys2Proof.Machine.execVcompress u g d a b m x s
  | .vexpand u g d a b m x => Sys2Proof.Machine.execVexpand u g d a b m x s
  | .vidx u g d i x => Sys2Proof.Machine.execVidx u g d i x s
  | .vredAdd u g d a b m x => Sys2Proof.Machine.execVredAdd u g d a b m x s
  | .vredMax u g d a b m x => Sys2Proof.Machine.execVredMax u g d a b m x s
  | .vredMin u g d a b m x => Sys2Proof.Machine.execVredMin u g d a b m x s
  | .vscanAdd u g d a b m x => Sys2Proof.Machine.execVscanAdd u g d a b m x s
  | .vmredAdd u g d a b m x => Sys2Proof.Machine.execVmredAdd u g d a b m x s
  | .vmredMax u g d a b m x => Sys2Proof.Machine.execVmredMax u g d a b m x s
  | .vmscanAdd u g d a b m x => Sys2Proof.Machine.execVmscanAdd u g d a b m x s
  | .vmcount u g d a b m x => Sys2Proof.Machine.execVmcount u g d a b m x s
  | .vfaddF u g d a b m r => Sys2Proof.Machine.execVfaddF u g d a b m r s
  | .vfsubF u g d a b m r => Sys2Proof.Machine.execVfsubF u g d a b m r s
  | .vfmulF u g d a b m r => Sys2Proof.Machine.execVfmulF u g d a b m r s
  | .vffmaF u g d a b m r => Sys2Proof.Machine.execVffmaF u g d a b m r s
  | .vfminF u g d a b m => Sys2Proof.Machine.execVfminF u g d a b m s
  | .vfmaxF u g d a b m => Sys2Proof.Machine.execVfmaxF u g d a b m s
  | .vfabsF u g d a m => Sys2Proof.Machine.execVfabsF u g d a m s
  | .vfnegF u g d a m => Sys2Proof.Machine.execVfnegF u g d a m s
  | .vfcmpEqF u g d a b m => Sys2Proof.Machine.execVfcmpEqF u g d a b m s
  | .vfcmpLtF u g d a b m => Sys2Proof.Machine.execVfcmpLtF u g d a b m s
  | .vfcmpLeF u g d a b m => Sys2Proof.Machine.execVfcmpLeF u g d a b m s
  | .vfcmpUnF u g d a b m => Sys2Proof.Machine.execVfcmpUnF u g d a b m s
  | .vfaddBf u g d a b m r => Sys2Proof.Machine.execVfaddBf u g d a b m r s
  | .vfmulBf u g d a b m r => Sys2Proof.Machine.execVfmulBf u g d a b m r s
  | .vffmaBf u g d a b m r => Sys2Proof.Machine.execVffmaBf u g d a b m r s
  | .vfdotBf u g d a b m r => Sys2Proof.Machine.execVfdotBf u g d a b m r s
  | .vcvtBfF u g d a b m r => Sys2Proof.Machine.execVcvtBfF u g d a b m r s
  | .vcvtF16F u g d a b m r => Sys2Proof.Machine.execVcvtF16F u g d a b m r s
  | .vcvtE4F u g d a b m r => Sys2Proof.Machine.execVcvtE4F u g d a b m r s
  | .vcvtE5F u g d a b m r => Sys2Proof.Machine.execVcvtE5F u g d a b m r s
  | .vcvtE2F u g d a b m r => Sys2Proof.Machine.execVcvtE2F u g d a b m r s
  | .vcvtFBf u g d a b m r => Sys2Proof.Machine.execVcvtFBf u g d a b m r s
  | .vcvtFF16 u g d a b m r => Sys2Proof.Machine.execVcvtFF16 u g d a b m r s
  | .vcvtFE4 u g d a b m r => Sys2Proof.Machine.execVcvtFE4 u g d a b m r s
  | .vcvtFE5 u g d a b m r => Sys2Proof.Machine.execVcvtFE5 u g d a b m r s
  | .vcvtFE2 u g d a b m r => Sys2Proof.Machine.execVcvtFE2 u g d a b m r s
  | .vcvtWF u g d a b m r => Sys2Proof.Machine.execVcvtWF u g d a b m r s
  | .vcvtFW u g d a b m r => Sys2Proof.Machine.execVcvtFW u g d a b m r s
  | .vcvtBF u g d a b m r => Sys2Proof.Machine.execVcvtBF u g d a b m r s
  | .vcvtE4FSat u g d a b m r => Sys2Proof.Machine.execVcvtE4FSat u g d a b m r s
  | .vcvtE5FSat u g d a b m r => Sys2Proof.Machine.execVcvtE5FSat u g d a b m r s
  | .vpackH u g d a b m => Sys2Proof.Machine.execVpackH u g d a b m s
  | .vpackB u g d a b m => Sys2Proof.Machine.execVpackB u g d a b m s
  | .vpackN u g d a b m => Sys2Proof.Machine.execVpackN u g d a b m s
  | .vunpkLo u g d a t m => Sys2Proof.Machine.execVunpkLo u g d a t m s
  | .vunpkHi u g d a t m => Sys2Proof.Machine.execVunpkHi u g d a t m s
  | .vbexp u g d a m => Sys2Proof.Machine.execVbexp u g d a m s
  | .vscalb u g d a i r => Sys2Proof.Machine.execVscalb u g d a i r s
  | .vexp2 u g d a b m r => Sys2Proof.Machine.execVexp2 u g d a b m r s
  | .vlog2 u g d a b m r => Sys2Proof.Machine.execVlog2 u g d a b m r s
  | .vrcp u g d a b m r => Sys2Proof.Machine.execVrcp u g d a b m r s
  | .vrsqrt u g d a b m r => Sys2Proof.Machine.execVrsqrt u g d a b m r s
  | .vsqrt u g d a b m r => Sys2Proof.Machine.execVsqrt u g d a b m r s
  | .mparmLo g p sx => Sys2Proof.Machine.execMparmLo g p sx s
  | .mparmHi g p sx => Sys2Proof.Machine.execMparmHi g p sx s
  | .mcall g r b n => Sys2Proof.Machine.execMcall g r b n s
  | .mswap g b n => Sys2Proof.Machine.execMswap g b n s
  | .tcfg g t sx => Sys2Proof.Machine.execTcfg g t sx s
  | .tzero g t => Sys2Proof.Machine.execTzero g t s
  | .trowW g v t i e => Sys2Proof.Machine.execTrowW g v t i e s
  | .trowR g v t i e => Sys2Proof.Machine.execTrowR g v t i e s
  | .tcolW g v t i e => Sys2Proof.Machine.execTcolW g v t i e s
  | .tcolR g v t i e => Sys2Proof.Machine.execTcolR g v t i e s
  | .mstat g k => Sys2Proof.Machine.execMstat g k s
  | .tdrop g t => Sys2Proof.Machine.execTdrop g t s
  | .spush g qx sx => Sys2Proof.Machine.execSpush g qx sx s
  | .spushv g qx v m => Sys2Proof.Machine.execSpushv g qx v m s
  | .spop g qx sx => Sys2Proof.Machine.execSpop g qx sx s
  | .spopv g qx v m => Sys2Proof.Machine.execSpopv g qx v m s
  | .scard g qx sx => Sys2Proof.Machine.execScard g qx sx s
  | .sroute g qx sx c => Sys2Proof.Machine.execSroute g qx sx c s
  | .sstat g qx sx => Sys2Proof.Machine.execSstat g qx sx s
  | .sacc g i v o m d => Sys2Proof.Machine.execSacc g i v o m d s
  | .sflush g => Sys2Proof.Machine.execSflush g s
  | .swsub g qx sx n => Sys2Proof.Machine.execSwsub g qx sx n s
  | .swjoin g qx sx n => Sys2Proof.Machine.execSwjoin g qx sx n s
  | .swpop g sx => Sys2Proof.Machine.execSwpop g sx s
  | .swdone g sx => Sys2Proof.Machine.execSwdone g sx s
  | .mgpush g v m => Sys2Proof.Machine.execMgpush g v m s
  | .mgpop g v m => Sys2Proof.Machine.execMgpop g v m s
  | .bundleIssue c => Sys2Proof.Machine.execBundleIssue c s
  | .bundleSkip c => Sys2Proof.Machine.execBundleSkip c s
  | .segmentExpand c => Sys2Proof.Machine.execSegmentExpand c s
  | .loopClose c => Sys2Proof.Machine.execLoopClose c s
  | .bivouac c => Sys2Proof.Machine.execBivouac c s
  | .parkWake kid ix => Sys2Proof.Machine.execParkWake kid ix s
  | .parkTimeout kid ix => Sys2Proof.Machine.execParkTimeout kid ix s
  | .cairnPickup c kid ix => Sys2Proof.Machine.execCairnPickup c kid ix s
  | .priorityAging kid ix => Sys2Proof.Machine.execPriorityAging kid ix s
  | .phaseStart kid => Sys2Proof.Machine.execPhaseStart kid s
  | .summitExchange kid => Sys2Proof.Machine.execSummitExchange kid s
  | .ropeClose c => Sys2Proof.Machine.execRopeClose c s
  | .preemptGrant c => Sys2Proof.Machine.execPreemptGrant c s
  | .preemptOverrun c => Sys2Proof.Machine.execPreemptOverrun c s
  | .timingEvent c => Sys2Proof.Machine.execTimingEvent c s
  | .supplySettled c => Sys2Proof.Machine.execSupplySettled c s
  | .marginWindowEnd c => Sys2Proof.Machine.execMarginWindowEnd c s
  | .quarantine c => Sys2Proof.Machine.execQuarantine c s
  | .softError c => Sys2Proof.Machine.execSoftError c s
  | .controlRegisterUpset c what => Sys2Proof.Machine.execControlRegisterUpset c what s
  | .verticalWireFailure c twr bus col => Sys2Proof.Machine.execVerticalWireFailure c twr bus col s
  | .towerMove c twr => Sys2Proof.Machine.execTowerMove c twr s
  | .refreshPending c twr => Sys2Proof.Machine.execRefreshPending c twr s
  | .refreshPassStart c twr => Sys2Proof.Machine.execRefreshPassStart c twr s
  | .refreshPassEnd c twr => Sys2Proof.Machine.execRefreshPassEnd c twr s
  | .deferralExpiry c => Sys2Proof.Machine.execDeferralExpiry c s
  | .forcedPass c => Sys2Proof.Machine.execForcedPass c s
  | .temperatureChange band => Sys2Proof.Machine.execTemperatureChange band s
  | .popRelease c => Sys2Proof.Machine.execPopRelease c s
  | .pushRoom c => Sys2Proof.Machine.execPushRoom c s
  | .barwaitRelease c => Sys2Proof.Machine.execBarwaitRelease c s
  | .drainRelease c => Sys2Proof.Machine.execDrainRelease c s
  | .sysRingRoom c => Sys2Proof.Machine.execSysRingRoom c s
  | .matrixQueueRoom c => Sys2Proof.Machine.execMatrixQueueRoom c s
  | .tileHoldRelease c => Sys2Proof.Machine.execTileHoldRelease c s
  | .tshSourceRelease c => Sys2Proof.Machine.execTshSourceRelease c s
  | .cardRead c fifo => Sys2Proof.Machine.execCardRead c fifo s
  | .copyCard c fifo => Sys2Proof.Machine.execCopyCard c fifo s
  | .gatherCard c fifo => Sys2Proof.Machine.execGatherCard c fifo s
  | .transposeCard c fifo => Sys2Proof.Machine.execTransposeCard c fifo s
  | .multicastCard c fifo => Sys2Proof.Machine.execMulticastCard c fifo s
  | .bankfillCard c fifo => Sys2Proof.Machine.execBankfillCard c fifo s
  | .offloadCard c fifo => Sys2Proof.Machine.execOffloadCard c fifo s
  | .reloadCard c fifo => Sys2Proof.Machine.execReloadCard c fifo s
  | .decompCard c fifo => Sys2Proof.Machine.execDecompCard c fifo s
  | .cardReport c fifo => Sys2Proof.Machine.execCardReport c fifo s
  | .switchHop c fifo => Sys2Proof.Machine.execSwitchHop c fifo s
  | .clusterStall cl => Sys2Proof.Machine.execClusterStall cl s
  | .mma c => Sys2Proof.Machine.execMma c s
  | .mmo c => Sys2Proof.Machine.execMmo c s
  | .mmaMx c => Sys2Proof.Machine.execMmaMx c s
  | .tstore c => Sys2Proof.Machine.execTstore c s
  | .tload c => Sys2Proof.Machine.execTload c s
  | .vendorRoutine c => Sys2Proof.Machine.execVendorRoutine c s
  | .routineStep c => Sys2Proof.Machine.execRoutineStep c s
  | .routineComplete c => Sys2Proof.Machine.execRoutineComplete c s
  | .swapComplete c => Sys2Proof.Machine.execSwapComplete c s
  | .matrixUnitClaim c => Sys2Proof.Machine.execMatrixUnitClaim c s
  | .tileLazyLoad c tile => Sys2Proof.Machine.execTileLazyLoad c tile s
  | .powerAlarmRaise => Sys2Proof.Machine.execPowerAlarmRaise s
  | .powerAlarmClear => Sys2Proof.Machine.execPowerAlarmClear s
  | .accumulateArrival c => Sys2Proof.Machine.execAccumulateArrival c s
  | .sflushArrival c => Sys2Proof.Machine.execSflushArrival c s
  | .subscription c => Sys2Proof.Machine.execSubscription c s
  | .pageIssue kid swid page => Sys2Proof.Machine.execPageIssue kid swid page s
  | .pageLanding kid swid c => Sys2Proof.Machine.execPageLanding kid swid c s
  | .partialCombine c qslot => Sys2Proof.Machine.execPartialCombine c qslot s
  | .poolEntryFree c => Sys2Proof.Machine.execPoolEntryFree c s
  | .qnotify pn qn cnt => Sys2Proof.Machine.execQnotify pn qn cnt s
  | .queueScanTimer pn => Sys2Proof.Machine.execQueueScanTimer pn s
  | .shadowWrite pn qn => Sys2Proof.Machine.execShadowWrite pn qn s
  | .qridxResync pn qn => Sys2Proof.Machine.execQridxResync pn qn s
  | .qstatHaltClear pn qn => Sys2Proof.Machine.execQstatHaltClear pn qn s
  | .launchP pn qn => Sys2Proof.Machine.execLaunchP pn qn s
  | .signalP pn qn => Sys2Proof.Machine.execSignalP pn qn s
  | .waitP pn qn => Sys2Proof.Machine.execWaitP pn qn s
  | .waitTimeout pn qn => Sys2Proof.Machine.execWaitTimeout pn qn s
  | .markerP pn qn => Sys2Proof.Machine.execMarkerP pn qn s
  | .nopPacket pn qn => Sys2Proof.Machine.execNopPacket pn qn s
  | .packetAging pn qn => Sys2Proof.Machine.execPacketAging pn qn s
  | .kernelCompletion kid => Sys2Proof.Machine.execKernelCompletion kid s
  | .partitionReset pn => Sys2Proof.Machine.execPartitionReset pn s
  | .unitLoss unit => Sys2Proof.Machine.execUnitLoss unit s
  | .translationWalk req => Sys2Proof.Machine.execTranslationWalk req s
  | .frespWalkAgain pn ent => Sys2Proof.Machine.execFrespWalkAgain pn ent s
  | .frespFail pn ent => Sys2Proof.Machine.execFrespFail pn ent s
  | .faultTimeout pn ent => Sys2Proof.Machine.execFaultTimeout pn ent s
  | .tictlGo pn word => Sys2Proof.Machine.execTictlGo pn word s
  | .invalidationAck pn => Sys2Proof.Machine.execInvalidationAck pn s
  | .backgroundFill va asid => Sys2Proof.Machine.execBackgroundFill va asid s
  | .flitReceive port flit => Sys2Proof.Machine.execFlitReceive port flit s
  | .ridgePacketReceive pkt => Sys2Proof.Machine.execRidgePacketReceive pkt s
  | .linkDead port => Sys2Proof.Machine.execLinkDead port s
  | .pathLossTimeout modn => Sys2Proof.Machine.execPathLossTimeout modn s
  | .ingestWrite win off data poisoned => Sys2Proof.Machine.execIngestWrite win off data poisoned s
  | .wclose win tag => Sys2Proof.Machine.execWclose win tag s
  | .frameDescriptor win => Sys2Proof.Machine.execFrameDescriptor win s
  | .wcfgEnable win word => Sys2Proof.Machine.execWcfgEnable win word s
  | .apertureAccess pn off data size poisoned => Sys2Proof.Machine.execApertureAccess pn off data size poisoned s
  | .registerWrite pn off word => Sys2Proof.Machine.execRegisterWrite pn off word s
  | .powerOn => Sys2Proof.Machine.execPowerOn s
  | .moduleReset => Sys2Proof.Machine.execModuleReset s
  | .configOp arg => Sys2Proof.Machine.execConfigOp arg s
  | .routineOp arg => Sys2Proof.Machine.execRoutineOp arg s
  | .attestOp arg => Sys2Proof.Machine.execAttestOp arg s
  | .unloadOp arg => Sys2Proof.Machine.execUnloadOp arg s
  | .doubleBitError loc => Sys2Proof.Machine.execDoubleBitError loc s
  | .configurationRequest fn reg data => Sys2Proof.Machine.execConfigurationRequest fn reg data s
  | .i3cManagement msg => Sys2Proof.Machine.execI3cManagement msg s
  | .badOp op len => Sys2Proof.Machine.execBadOp op len s

end Sys2Proof.Machine
end

