-- ==== Sys2Proof/Machine/Step.lean ====
section
/-!
DEFINITION. One step of the module: time passes, and the step that the agenda names, or else the free
schedule, is taken (log 4); and the placing of one word where the next step fetches it (log 14).
-/
namespace Sys2Proof.Machine

/-- Time passes: at least one cycle (R202, log 4); some inbound writes complete (R243, log 7). -/
def State.later (s : State) : State :=
  { s with
    tick := s.tick + 1
    cycle := s.cycle + 1 + Config.stallCycles s.tick }.settle

/-- The step to be taken in s (log 4). -/
def State.upcoming (s : State) : Instr := s.agenda.headD (Config.schedule s.tick)

/-- One step. -/
def step (s : State) : Host.Outcome State Fault Refusal :=
  exec s.upcoming { s.later with agenda := s.agenda.tail }

noncomputable section

/-- The slot in which a table word is placed. -/
def fetchSlot (w : Nat) : Nat :=
  match decodeIn tableSlots w with
  | some (k, _) => k
  | none => 1

/-- The expanded bundle that holds word w in slot k and nothing else: a group of its own unless w gives
the flags itself (R75, R77). -/
def fetchBundle (k w : Nat) : XBundle :=
  ⟨.ofNat 256 (w * 2 ^ (32 * k) + (if k = 0 then 0 else 2 ^ 31)), false⟩

/-- Core k runs a cairn whose next bundle is x, resident in the loop buffer. -/
def Core.reaching (k : Core) (x : XBundle) : Core :=
  { k with
    run := some (1, 0)
    ctl := { k.ctl with ropeW := 0 }
    matBlk := []
    seq := { k.seq with
      fetch := Fetch.here ⟨0, 0⟩
      br := none
      hold := none
      upset := none
      owes := none
      first := none
      watch := Seq.zero.watch
      half0 := some ⟨0, 0, [x]⟩ } }

/-- The module with one word in the bundle that core 0 issues next (log 14). -/
def State.withFetchWord (s : State) (nbits w : Nat) : State :=
  let v := w % 2 ^ (if nbits < 32 then nbits else 32)
  { s.setCore 0 ((s.core 0).reaching (fetchBundle (fetchSlot v) v)) with agenda := [.bundleIssue 0] }

end

end Sys2Proof.Machine
end

