-- ==== Sys2Proof/Safety.lean ====
section
/-!
DEFINITION. The terms in which claims are stated: when a lone bundle issues, what it leaves behind, what
a register holds at a position, and the canonical form that every step keeps.
-/
namespace Sys2Proof.Machine

/-! ### The bundle in which an encoded instruction stands -/

/-- The core whose bundle it is. -/
def State.me (s : State) : Core := s.core s.focus
/-- What a slot of that bundle sees. -/
def State.ctx (s : State) : Ctx := ⟨s, s.focus, s.lit, s.me.seq.pushIdx⟩
/-- The position of that bundle (R97). -/
def State.here (s : State) : Nat := s.me.seq.pos

/-- The core in focus runs a cairn that is in no rope; nothing holds it; no fault waits to be delivered and the
bundle has not issued before; it stands at the start of an issue group, outside delay slots, at no END of an armed
loop; nothing is in flight (R57, R65, R95, R97, R101, R169, R290, R302, R336). -/
structure State.Ready (s : State) : Prop where
  inRange : s.focus < 256
  running : s.me.run.isSome = true
  alone : s.me.ctl.ropeW = 0
  unheld : s.me.seq.hold = none
  unclaimed : s.me.owesClaim = false
  unowed : s.me.seq.owes = none
  sound : s.me.seq.upset = none
  first : s.me.seq.first = none
  groupLen : s.me.seq.grpLen = 0
  groupWrites : s.me.seq.grpWrites = []
  groupPorts : s.me.seq.grpPorts = []
  straight : s.me.seq.br = none
  inBody : s.me.closing s.me.seq.fetch.pos = []
  settled : s.me.pend = []

/-- A guard that is clean and true (R80). -/
def Core.Guarded (k : Core) (g : BitVec 4) : Prop :=
  (k.pred (g.toNat % 8)).tag = 0 ∧ ((k.pred (g.toNat % 8)).val ^^ g.getLsbD 3) = true

/-- A guard that is clean and false (R80). -/
def Core.GuardFalse (k : Core) (g : BitVec 4) : Prop :=
  (k.pred (g.toNat % 8)).tag = 0 ∧ ((k.pred (g.toNat % 8)).val ^^ g.getLsbD 3) = false

/-- The bundle is ready and its slot's guard is clean and true. -/
def State.Go (s : State) (g : BitVec 4) : Prop := s.Ready ∧ s.me.Guarded g

/-! ### What a bundle leaves -/

/-- Results of one bundle: what is written and with what. -/
abbrev Writes := List (RegId × WVal)

/-- Core k once these results have reached their registers (R97, R217). -/
def Core.putAll (k : Core) (l : Writes) : Core := l.foldl (fun k w => k.putReg w.1 w.2 0) k

/-- What changes in the sequencer with every bundle: position, next bundle, issue group, delay slots, the
tracking of R60, R70 and R103, and push and pop counts. -/
def Seq.bookkeeping (q r : Seq) : Seq :=
  { q with
    fetch := r.fetch
    br := r.br
    pos := r.pos
    exec1 := r.exec1
    replays := r.replays
    firstCycle := r.firstCycle
    first := r.first
    grpLen := r.grpLen
    grpWrites := r.grpWrites
    grpPorts := r.grpPorts
    readFirst := r.readFirst
    written := r.written
    dirty := r.dirty
    predVis := r.predVis
    lastLoad := r.lastLoad
    effect := r.effect
    pushIdx := r.pushIdx
    recs := r.recs
    popsDone := r.popsDone
    popsOver := r.popsOver
    watch := r.watch }

/-- Core k as it stands, but for registers, results in flight, FPM and FPF, BNDL and the bookkeeping of
the sequencer, which are taken from r. -/
def Core.frame (k r : Core) : Core :=
  { k with
    regs := r.regs
    pend := r.pend
    seq := k.seq.bookkeeping r.seq
    ctl := { k.ctl with fpf := r.ctl.fpf, fpm := r.ctl.fpm }
    cnt := { k.cnt with bndl := r.cnt.bndl } }

/-- In t the bundle of s has committed at its position n, and these results reach their registers at
position n + lat; before, the registers hold what they held; nothing else of the core changes but its
place and its bookkeeping (R97, R98, R101, R204). -/
structure Lands (s t : State) (lat : Nat) (l : Writes) : Prop where
  position : t.me.seq.pos = s.here + 1
  counted : t.me.cnt = { s.me.cnt with bndl := s.me.cnt.bndl + 1 }
  before : ∀ j, s.here < j → j < s.here + lat → (t.me.landDue j).regs = s.me.regs ∧ (t.me.landDue j).ctl = s.me.ctl
  after : ∀ j, s.here + lat ≤ j → (t.me.landDue j).regs = (s.me.putAll l).regs ∧
    (t.me.landDue j).ctl = (s.me.putAll l).ctl
  landed : ∀ j, s.here + lat ≤ j → (t.me.landDue j).pend = []
  rest : t.me.frame s.me = s.me

/-- Issue goes on with the next bundle in place (R101). -/
def Onward (s t : State) : Prop :=
  t.me.seq.fetch = s.nextPlace s.focus s.me.seq.fetch.pos ∧ t.me.seq.br = none

/-- Nothing of the module outside the core in focus changes: memory, the other cores, every engine and
register elsewhere. -/
structure Quiet (s t : State) : Prop where
  focus : t.focus = s.focus
  memory : ∀ a, t.byte a = s.byte a
  others : ∀ d, d ≠ s.focus → t.core d = s.core d
  elsewhere : { t with cores := s.cores } = s

/-- The instruction commits in a bundle of its own and only sends these results to their registers, to be
seen from lat positions later on (R97, R98). -/
def Gives (s : State) (i : Instr) (lat : Nat) (l : Writes) : Prop :=
  ∃ t, exec i s = .next t ∧ Lands s t lat l ∧ Quiet s t ∧ Onward s t

/-- The instruction commits in a bundle of its own with the results l; issue goes on at f, and b says which
delay slots are still to come and what follows them (R101). -/
def Turns (s : State) (i : Instr) (l : Writes) (f : Fetch) (b : Option (Nat × Fetch × Pos)) : Prop :=
  ∃ t, exec i s = .next t ∧ Lands s t 1 l ∧ Quiet s t ∧ t.me.seq.fetch = f ∧ t.me.seq.br = b

/-! ### Where results go (R82 to R85) -/

/-- A scalar result: register d, unless it names none, and port n (R82, R85). -/
def toScalar (n : Nat) (d : BitVec 6) (v : SReg) : Writes :=
  (dstS d).map (fun r => (r, .word v.val v.tag)) ++ [(.sPort n, .word v.val v.tag)]
/-- Exceptions are ORed into FPF (R157). -/
def raises (f : BitVec 5) : Writes := [(.fpf, .flags f)]
/-- A predicate result (R84). -/
def toPred (p : BitVec 3) (b : Bool) (t : Tag) : Writes := [(.p p.toNat, .bit b t)]
/-- A vector result: register d, unless it names none, and port n, in the byte lanes en (R83, R85, R217). -/
def toVector (n : Nat) (d : BitVec 5) (x : Vec) (t : VTags) (en : Mask) : Writes :=
  (dstV d).map (fun r => (r, .vec x t en)) ++ [(.vPort n, .vec x t en)]
/-- A mask result (R254). -/
def toMask (m : BitVec 3) (x : Mask) (t : MTags) (en : Mask) : Writes := [(.m m.toNat, .mask x t en)]

/-! ### Elements (R248 to R250) -/

/-- The greatest tag that the active elements of W bytes bring to lane l (R250). -/
def laneJoin (W : Nat) (act : Nat → Bool) (t : Nat → Tag) (l : Nat) : Tag :=
  maxTag ((List.range (4 / W)).map (fun e => if act (l * (4 / W) + e) then t (l * (4 / W) + e) else 0))

/-- The result x, tg, en writes the bytes of the active elements of W bytes and no others: element e with f e,
and each lane with the greatest tag t of its active elements (R248 to R250). -/
structure Elements (W : Nat) (act : Nat → Bool) (f : Nat → BitVec (8 * W)) (t : Nat → Tag) (x : Vec) (tg : VTags)
    (en : Mask) : Prop where
  enabled : ∀ j, j < 256 → en.getLsbD j = act (j / W)
  value : ∀ e, e < 256 / W → act e = true → lane (8 * W) x e = f e
  joined : ∀ l, l < 64 → ltag tg l = laneJoin W act t l

/-- The instruction gives vector d and port n these elements, and the further results l (R249). -/
def GivesVector (s : State) (i : Instr) (lat n : Nat) (d : BitVec 5) (W : Nat) (act : Nat → Bool)
    (f : Nat → BitVec (8 * W)) (t : Nat → Tag) (l : Writes) : Prop :=
  ∃ x tg en, Gives s i lat (toVector n d x tg en ++ l) ∧ Elements W act f t x tg en

/-- The exceptions fl are those of the active elements whose lane comes out clean (R157). -/
def RaisedBy (W : Nat) (act : Nat → Bool) (r : Nat → BitVec 5) (t : Nat → Tag) (fl : BitVec 5) : Prop :=
  ∀ b, fl.getLsbD b = true ↔
    ∃ e, e < 256 / W ∧ act e = true ∧ laneJoin W act t (e * W / 4) = 0 ∧ (r e).getLsbD b = true

/-- The instruction gives floating-point elements and ORs their exceptions into FPF (R157). -/
def GivesFloat (s : State) (i : Instr) (lat n : Nat) (d : BitVec 5) (W : Nat) (act : Nat → Bool)
    (f : Nat → FRes) (t : Nat → Tag) : Prop :=
  ∃ fl, RaisedBy W act (fun e => (f e).flags) t fl ∧
    GivesVector s i lat n d W act (fun e => .ofNat (8 * W) (f e).bits) t (if fl = 0 then [] else raises fl)

/-- The instruction gives mask m the bits f e with tags t e in the bytes of the active elements e, and the
further results l (R254). -/
def GivesMask (s : State) (i : Instr) (lat : Nat) (m : BitVec 3) (W : Nat) (act : Nat → Bool) (f : Nat → Bool)
    (t : Nat → Tag) (l : Writes) : Prop :=
  ∃ x tg en, Gives s i lat (toMask m x tg en ++ l) ∧ ∀ j, j < 256 → en.getLsbD j = act (j / W) ∧
    (act (j / W) = true → x.getLsbD j = f (j / W) ∧ mtag tg j = t (j / W))

/-! ### What a store leaves -/

/-- The bytes at key j for the active j below n take f j; every other byte of the module keeps its value; no
sound word becomes unsound; outside the core in focus nothing else changes (R215, R223). -/
structure Stores (s t : State) (n : Nat) (act : Nat → Bool) (key : Nat → Nat) (f : Nat → Byte) : Prop where
  focus : t.focus = s.focus
  stored : ∀ j, j < n → act j = true → t.byte (key j) = f j
  kept : ∀ a, (∀ j, j < n → act j = true → a ≠ key j) → t.byte a = s.byte a
  sound : ∀ w, w ∈ t.bad → w ∈ s.bad
  others : ∀ d, d ≠ s.focus → t.core d = s.core d
  elsewhere : { t with cores := s.cores, mem := s.mem, bad := s.bad } = s

/-! ### Effects on the module -/

/-- In t the bundle of s has committed at its position n, its results l reach their registers at position
n + lat, and all else stands as in u: u is s with the instruction's own effect (R97, R98, R101, R204). -/
structure Reaches (s t u : State) (lat : Nat) (l : Writes) : Prop where
  focus : t.focus = s.focus
  position : t.me.seq.pos = s.here + 1
  counted : t.me.cnt = { u.me.cnt with bndl := u.me.cnt.bndl + 1 }
  before : ∀ j, s.here < j → j < s.here + lat → (t.me.landDue j).regs = s.me.regs ∧ (t.me.landDue j).ctl = s.me.ctl
  after : ∀ j, s.here + lat ≤ j → (t.me.landDue j).regs = (s.me.putAll l).regs ∧
    (t.me.landDue j).ctl = (s.me.putAll l).ctl
  landed : ∀ j, s.here + lat ≤ j → (t.me.landDue j).pend = []
  rest : t.me.frame u.me = u.me
  others : ∀ d, d ≠ s.focus → t.core d = u.core d
  elsewhere : { t with cores := u.cores } = u

/-- The instruction commits in a bundle of its own with the effect that u shows and the results l. -/
def Acts (s : State) (i : Instr) (lat : Nat) (l : Writes) (u : State) : Prop :=
  ∃ t, exec i s = .next t ∧ Reaches s t u lat l ∧ Onward s t

/-- The push index that the bundle's next indexed effect carries (R62). -/
def State.idx (s : State) : Nat := s.me.seq.pushIdx

/-- An effect of the bundle at this agent has an index that R62 allows and that the agent has not accepted. -/
def State.Fresh (s : State) (agent : Nat) : Prop :=
  (s.me.ctl.hm = true ∨ s.idx < 65536) ∧ s.suppressed s.focus agent s.idx = false

/-- The agent has noted the index that it accepts (R62). -/
def State.noted (s : State) (agent : Nat) : State := s.indexed s.focus agent s.idx (fun s => s)

/-- The running cairn owns the matrix unit (R336). -/
def State.Owns (s : State) : Prop := s.me.ownsUnit = true

/-- The running cairn is pinned (R393). -/
def State.Pinned (s : State) : Prop := s.ctx.unpinned = false

/-- The pop takes the head of its FIFO: no record answers it (R345). -/
def State.Taking (s : State) : Prop := s.me.popRecord = none

/-- The running cairn q of kernel k can be written back: nothing else is due at the end of the pitch, and its
save area and record are open in u (R57, R221, R309, R311). -/
structure State.Leaving (s u : State) (k : Kernel) (q : Cairn) : Prop where
  refreshed : s.me.oldestPending = none
  unmoved : s.me.moveDue = none
  opened : s.openSaves [s.focus] = .ready u
  cores : u.cores = s.cores
  cairn : u.running s.focus = some (k, q)

/-- The cairn has left the core in focus, and f has been done to what the module holds of it (R55, R172). -/
structure Leaves (s u t : State) (k : Kernel) (q : Cairn) (f : Cairn → Cairn) : Prop where
  freed : t.me.run = none
  settled : t.me.pend = []
  counted : t.me.cnt = { s.me.cnt with bndl := s.me.cnt.bndl + 1 }
  others : ∀ d, d ≠ s.focus → t.core d = s.core d
  cairn : t.kernels = (u.updCairn k.kid q.ix f).kernels

/-! ### Traps -/

/-- The instruction raises this trap in a bundle of its own and commits nothing (R94, R114, R299): the
delivery of R299 with the code, TRA and the slot's bit in TRM. -/
def Traps (s : State) (i : Instr) (slot code : Nat) (tra : Word) : Prop :=
  exec i s = .next (s.deliver [s.focus] (posRef s.me.seq.fetch.pos) (fun _ => ⟨code, tra, 2 ^ slot⟩))

/-- The instruction holds its bundle (R165). -/
def Holds (s : State) (i : Instr) (h : Hold) : Prop := exec i s = .next (s.setHold s.focus h)

/-- The instruction holds its bundle for the header of a segment of the chain, and asks for its page (R427). -/
def Asks (s : State) (i : Instr) (seg : Nat) : Prop :=
  exec i s = .next ((s.setHold s.focus (.chain seg)).ask s.focus (.chain seg))

/-! ### Steps of the units beside issue -/

/-- The core in focus would be ready but that it may hold issue for h; the bundle at its place holds the word w of
instruction i in slot k and nothing else, and nothing stands before it (R66, R70, R74, R97, R302, R306). -/
structure State.Facing (s : State) (h : Option Hold) (k w : Nat) (i : Instr) : Prop where
  ready : (s.updCore s.focus (fun k => { k with seq := { k.seq with hold := none } })).Ready
  held : s.me.seq.hold = h
  unasked : s.me.seq.preempt = none
  unripe : s.me.ripe = false
  sound : s.me.seq.upset = none
  place : s.reached s.focus = .bundle (fetchBundle k w)
  narrow : w < 2 ^ 32
  word : decodeSlot k w = .ok i

/-- The step issues the instruction of the bundle that the core in focus faces, and the bundle commits: nothing
holds it any more. -/
def Commits (s : State) (row i : Instr) : Prop :=
  ∃ t, exec row s = .next t ∧ exec i { s with lit := 0 } = .next t ∧ t.me.seq.hold = none ∧
    t.me.seq.pos = s.here + 1 ∧ t.me.cnt.bndl = s.me.cnt.bndl + 1

/-- The step is taken, and P holds of what it leaves. -/
def Yields (s : State) (row : Instr) (P : State → Prop) : Prop := ∃ t, exec row s = .next t ∧ P t

/-! ### Two roped cores (R64 to R67) -/

/-- The module as core d sees it. -/
def State.at_ (s : State) (d : Nat) : State := { s with focus := d }

/-- Core d is one of a pair, and would be ready but for its rope. -/
def State.ReadyIn (s : State) (d : Nat) : Prop :=
  (s.core d).ctl.ropeW = 1 ∧
    ((s.at_ d).updCore d (fun k => { k with ctl := { k.ctl with ropeW := 0 } })).Ready

/-- Cores c and c + 1 are roped as a pair; both are ready, with a guard that is clean and true, stand at one place and go
on at one place; the bundle in focus is theirs (R66). -/
structure State.Paired (s : State) (c : Nat) (g : BitVec 4) : Prop where
  even : c % 2 = 0
  inRange : c + 1 < 256
  focus : s.focus = c ∨ s.focus = c + 1
  ready : ∀ d, d = c ∨ d = c + 1 → s.ReadyIn d
  guarded : ∀ d, d = c ∨ d = c + 1 → (s.core d).Guarded g
  place : (s.core (c + 1)).seq.fetch.pos = (s.core c).seq.fetch.pos
  next : s.nextPlace (c + 1) (s.core c).seq.fetch.pos = s.nextPlace c (s.core c).seq.fetch.pos

/-- The slots of the pair's bundle as core d sees them. -/
def State.ctxOf (s : State) (d : Nat) : Ctx := ⟨s, d, s.lit, (s.core d).seq.pushIdx⟩

/-- Both cores of the pair commit the bundle: core d with the results l d, which reach its registers from lat positions
later on; no other core changes (R66, R97, R101). -/
structure Pairs (s t : State) (c lat : Nat) (l : Nat → Writes) : Prop where
  lands : ∀ d, d = c ∨ d = c + 1 → Lands (s.at_ d) (t.at_ d) lat (l d)
  onward : ∀ d, d = c ∨ d = c + 1 → Onward (s.at_ d) (t.at_ d)
  others : ∀ d, d ≠ c → d ≠ c + 1 → t.core d = s.core d

/-- The pair commits the instruction, and nothing but its cores changes. -/
def PairGives (s : State) (c : Nat) (i : Instr) (lat : Nat) (l : Nat → Writes) : Prop :=
  ∃ t, exec i s = .next t ∧ Pairs s t c lat l ∧ { t with cores := s.cores } = s

/-- The pair raises a trap at one bundle: member d records r d (R67). -/
def PairTraps (s : State) (c : Nat) (i : Instr) (r : Nat → TrapRec) : Prop :=
  ∃ f, f c = r c ∧ f (c + 1) = r (c + 1) ∧
    exec i s = .next (s.deliver [c, c + 1] (posRef (s.core c).seq.fetch.pos) f)

/-! ### The canonical form of memory -/

/-- Memory lists its bytes by strictly rising key and lists no byte 0. -/
def State.Canonical (s : State) : Prop := Memory.wf s.mem = true

end Sys2Proof.Machine
end

