-- ==== Sys2Proof/Certificates/Slice0/Obligations.lean ====
section
/-!
DEFINITION. The obligations: statements about the model, each formalising rules of the spec or resting on
them. None is proved here.
-/
open Sys2Proof Sys2Proof.Machine

/-! ### Slots 1 and 2 (R185 to R199) -/

/-- R186: sums, differences and products of two scalar sources. R187: quotients and remainders, with truncation
toward zero. -/
def Obligations.ScalarArithmetic : Prop :=
  (∀ (s : State) (u : SUnit) (g : BitVec 4) (d a b : BitVec 6) (h : BitVec 3), s.Go g →
    (Instr.addR u g d a b).wf = true →
    let x := s.ctx.rs a
    let y := s.ctx.rs b
    let gives (i : Instr) (lat : Nat) (v : Word) : Prop :=
      Gives s i lat (toScalar (unitPort u) d ⟨v, Tag.max x.tag y.tag⟩)
    gives (.addR u g d a b) 1 (x.val + y.val) ∧
    gives (.subR u g d a b) 1 (x.val - y.val) ∧
    gives (.mulR u g d a b) 3 (x.val * y.val) ∧
    gives (.mulhs u g d a b) 3 (.ofInt 32 (x.val.toInt * y.val.toInt / 2 ^ 32)) ∧
    gives (.mulhu u g d a b) 3 (.ofNat 32 (x.val.toNat * y.val.toNat / 2 ^ 32)) ∧
    gives (.lea u g d a b h) 1 (x.val + (y.val <<< h.toNat))) ∧
  ∀ (s : State) (u : SUnit) (g : BitVec 4) (d a b : BitVec 6), s.Go g →
    (Instr.divR u g d a b).wf = true →
    let x := s.ctx.rs a
    let y := s.ctx.rs b
    let gives (i : Instr) (v : Word) : Prop :=
      Gives s i 12 (toScalar (unitPort u) d ⟨v, Tag.max x.tag y.tag⟩)
    (y.val = 0 →
      gives (.divR u g d a b) 0xFFFFFFFF ∧ gives (.divu u g d a b) 0xFFFFFFFF ∧
      gives (.remR u g d a b) x.val ∧ gives (.remu u g d a b) x.val) ∧
    (x.val = 0x80000000 → y.val = 0xFFFFFFFF →
      gives (.divR u g d a b) 0x80000000 ∧ gives (.remR u g d a b) 0) ∧
    (y.val ≠ 0 → ¬ (x.val = 0x80000000 ∧ y.val = 0xFFFFFFFF) →
      gives (.divR u g d a b) (.ofInt 32 (x.val.toInt.tdiv y.val.toInt)) ∧
      gives (.remR u g d a b) (.ofInt 32 (x.val.toInt - x.val.toInt.tdiv y.val.toInt * y.val.toInt))) ∧
    (y.val ≠ 0 →
      gives (.divu u g d a b) (.ofNat 32 (x.val.toNat / y.val.toNat)) ∧
      gives (.remu u g d a b) (.ofNat 32 (x.val.toNat - x.val.toNat / y.val.toNat * y.val.toNat)))

/-- R186: logic, shifts and rotates; counts are the low five bits of b. R189 to R191: immediate forms, bit fields
and `li`. -/
def Obligations.ScalarLogicAndImmediates : Prop :=
  (∀ (s : State) (u : SUnit) (g : BitVec 4) (d a b : BitVec 6), s.Go g →
    (Instr.andR u g d a b).wf = true →
    let x := s.ctx.rs a
    let y := s.ctx.rs b
    let n := (y.val.extractLsb' 0 5).toNat
    let gives (i : Instr) (v : Word) : Prop :=
      Gives s i 1 (toScalar (unitPort u) d ⟨v, Tag.max x.tag y.tag⟩)
    gives (.andR u g d a b) (x.val &&& y.val) ∧
    gives (.orR u g d a b) (x.val ||| y.val) ∧
    gives (.xorR u g d a b) (x.val ^^^ y.val) ∧
    gives (.andn u g d a b) (x.val &&& ~~~y.val) ∧
    gives (.shl u g d a b) (x.val <<< n) ∧
    gives (.shr u g d a b) (x.val >>> n) ∧
    gives (.sar u g d a b) (.ofInt 32 (x.val.toInt / 2 ^ n)) ∧
    gives (.rol u g d a b) ((x.val <<< n) ||| (x.val >>> (32 - n)))) ∧
  ∀ (s : State) (u : SUnit) (g : BitVec 4) (d a : BitVec 6) (i : BitVec 9) (k : BitVec 5) (n : BitVec 4)
    (w : BitVec 15), s.Go g → (Instr.addi u g d a i).wf = true →
    let x := s.ctx.rs a
    let o := s.ctx.rs d
    let y : Word := i.signExtend 32
    let m : Word := .ofNat 32 (2 ^ (n.toNat + 1) - 1)
    let gives (j : Instr) (lat : Nat) (v : Word) : Prop :=
      Gives s j lat (toScalar (unitPort u) d ⟨v, x.tag⟩)
    gives (.addi u g d a i) 1 (x.val + y) ∧
    gives (.andi u g d a i) 1 (x.val &&& y) ∧
    gives (.ori u g d a i) 1 (x.val ||| y) ∧
    gives (.xori u g d a i) 1 (x.val ^^^ y) ∧
    gives (.shli u g d a k) 1 (x.val <<< k.toNat) ∧
    gives (.shri u g d a k) 1 (x.val >>> k.toNat) ∧
    gives (.sari u g d a k) 1 (.ofInt 32 (x.val.toInt / 2 ^ k.toNat)) ∧
    gives (.roli u g d a k) 1 ((x.val <<< k.toNat) ||| (x.val >>> (32 - k.toNat))) ∧
    gives (.muli u g d a i) 3 (x.val * y) ∧
    gives (.bfx u g d a k n) 1 ((x.val >>> k.toNat) &&& m) ∧
    (d ≠ 63 → Gives s (.bfi u g d a k n) 1 (toScalar (unitPort u) d
      ⟨(o.val &&& ~~~(m <<< k.toNat)) ||| ((x.val <<< k.toNat) &&& (m <<< k.toNat)), Tag.max o.tag x.tag⟩)) ∧
    Gives s (.li u g d w) 1 (toScalar (unitPort u) d ⟨w.signExtend 32, 0⟩)

/-- R186, R188: minima, maxima, selection, bit counts, moves and the mix. -/
def Obligations.ScalarSelectionAndCounts : Prop :=
  ∀ (s : State) (u : SUnit) (g : BitVec 4) (d a b : BitVec 6) (p : BitVec 3), s.Go g →
    (Instr.minR u g d a b).wf = true →
    let x := s.ctx.rs a
    let y := s.ctx.rs b
    let c := s.ctx.rp p
    let gives (i : Instr) (lat : Nat) (v : Word) (t : Tag) : Prop :=
      Gives s i lat (toScalar (unitPort u) d ⟨v, t⟩)
    let t2 := Tag.max x.tag y.tag
    gives (.minR u g d a b) 1 (if x.val.toInt < y.val.toInt then x.val else y.val) t2 ∧
    gives (.maxR u g d a b) 1 (if x.val.toInt > y.val.toInt then x.val else y.val) t2 ∧
    gives (.minu u g d a b) 1 (if x.val.toNat < y.val.toNat then x.val else y.val) t2 ∧
    gives (.maxu u g d a b) 1 (if x.val.toNat > y.val.toNat then x.val else y.val) t2 ∧
    gives (.sel u g d a b p) 1 (if c.val then x.val else y.val) (Tag.max c.tag t2) ∧
    gives (.mov u g d a) 1 x.val x.tag ∧
    gives (.rngx u g d a b) 3 (rngMix x.val y.val) t2 ∧
    (∃ n : Nat, gives (.popc u g d a) 1 (.ofNat 32 n) x.tag ∧
      n = ((List.range 32).filter (fun i => x.val.getLsbD i)).length) ∧
    (∃ n : Nat, gives (.clz u g d a) 1 (.ofNat 32 n) x.tag ∧ n ≤ 32 ∧
      (∀ i, i < n → x.val.getMsbD i = false) ∧ (n < 32 → x.val.getMsbD n = true)) ∧
    (∃ n : Nat, gives (.ctz u g d a) 1 (.ofNat 32 n) x.tag ∧ n ≤ 32 ∧
      (∀ i, i < n → x.val.getLsbD i = false) ∧ (n < 32 → x.val.getLsbD n = true))

/-- R192, R193, R195: compares, predicate logic, `ptest` and `pclr`. R194: a check of two copies passes when values
and tags agree, and raises CHECK_MISMATCH (code 0x06) with TRA := a when either differs. -/
def Obligations.ScalarComparesAndChecks : Prop :=
  (∀ (s : State) (u : SUnit) (g : BitVec 4) (p q r : BitVec 3) (d a b : BitVec 6) (i : BitVec 9), s.Go g →
    (Instr.addR u g d a b).wf = true →
    let x := s.ctx.rs a
    let y := s.ctx.rs b
    let z : Word := i.signExtend 32
    let v := s.ctx.rp q
    let w := s.ctx.rp r
    let two (j : Instr) (f : Bool) : Prop := Gives s j 1 (toPred p f (Tag.max x.tag y.tag))
    let one (j : Instr) (f : Bool) : Prop := Gives s j 1 (toPred p f x.tag)
    let both (j : Instr) (f : Bool) : Prop := Gives s j 1 (toPred p f (Tag.max v.tag w.tag))
    two (.cmpEq u g p a b) (decide (x.val = y.val)) ∧
    two (.cmpNe u g p a b) (decide (x.val ≠ y.val)) ∧
    two (.cmpLt u g p a b) (decide (x.val.toInt < y.val.toInt)) ∧
    two (.cmpLe u g p a b) (decide (x.val.toInt ≤ y.val.toInt)) ∧
    two (.cmpLtu u g p a b) (decide (x.val.toNat < y.val.toNat)) ∧
    two (.cmpLeu u g p a b) (decide (x.val.toNat ≤ y.val.toNat)) ∧
    one (.cmpiEq u g p a i) (decide (x.val = z)) ∧
    one (.cmpiNe u g p a i) (decide (x.val ≠ z)) ∧
    one (.cmpiLt u g p a i) (decide (x.val.toInt < z.toInt)) ∧
    one (.cmpiLtu u g p a i) (decide (x.val.toNat < z.toNat)) ∧
    both (.pand u g p q r) (v.val && w.val) ∧
    both (.por u g p q r) (v.val || w.val) ∧
    both (.pxor u g p q r) (v.val != w.val) ∧
    both (.pandn u g p q r) (v.val && !w.val) ∧
    Gives s (.ptest u g p a) 1 (toPred p (decide (x.tag ≠ 0)) 0) ∧
    Gives s (.pclr u g d a) 1 (toScalar (unitPort u) d ⟨x.val, 0⟩)) ∧
  ∀ (s : State) (u : SUnit) (g : BitVec 4) (a b : BitVec 6) (i : BitVec 9), s.Go g →
    (Instr.cmpt u g a b).wf = true →
    let x := s.ctx.rs a
    let y := s.ctx.rs b
    (x = y → Gives s (.cmpt u g a b) 1 []) ∧
    (x ≠ y → Traps s (.cmpt u g a b) u.slot 0x06 x.val) ∧
    (x = ⟨i.signExtend 32, 0⟩ → Gives s (.cmpti u g a i) 1 []) ∧
    (x ≠ ⟨i.signExtend 32, 0⟩ → Traps s (.cmpti u g a i) u.slot 0x06 x.val)

/-- R152, R153, R196 to R199: FP32 sums, products, extrema, signs, conversions, compares and classes.  A result that
is poisoned raises no exception; `ffma` has no form without a destination. -/
def Obligations.ScalarFloats : Prop :=
  ∀ (s : State) (u : SUnit) (g : BitVec 4) (p : BitVec 3) (d a b : BitVec 6) (r : BitVec 3), s.Go g →
    (Instr.fadd u g d a b r).wf = true →
    let mode := s.ctx.mode r
    let k7 : SReg := if mode = 6 then s.ctx.rs 55 else .zero
    let kb : SReg := if mode = 6 then s.ctx.rs b else .zero
    let x := s.ctx.rs a
    let y := s.ctx.rs b
    let o := s.ctx.rs d
    let n := k7.val.toNat
    let nb := kb.val.toNat
    let gives (i : Instr) (v : FRes) (t : Tag) : Prop :=
      Gives s i 3 (toScalar (unitPort u) d ⟨.ofNat 32 v.bits, t⟩ ++ if t ≠ 0 ∨ v.flags = 0 then [] else raises v.flags)
    let nan (v : Word) : Prop := v.extractLsb' 23 8 = 255 ∧ v.extractLsb' 0 23 ≠ 0
    let v := fp32.decode x.val.toNat
    let w := fp32.decode y.val.toNat
    let t := Tag.max x.tag y.tag
    let un := v.isNaN || w.isNaN
    let compares (i : Instr) (f : Bool) (nv : Bool) : Prop :=
      Gives s i 3 (toPred p f t ++ if nv && decide (t = 0) then raises flagNV else [])
    gives (.fadd u g d a b r) (fpAdd fp32 mode n x.val.toNat y.val.toNat) (maxTag [x.tag, y.tag, k7.tag]) ∧
    gives (.fsub u g d a b r) (fpSub fp32 mode n x.val.toNat y.val.toNat) (maxTag [x.tag, y.tag, k7.tag]) ∧
    gives (.fmul u g d a b r) (fpMul fp32 mode n x.val.toNat y.val.toNat) (maxTag [x.tag, y.tag, k7.tag]) ∧
    (d = 63 → Traps s (.ffma u g d a b r) u.slot 0x01 0) ∧
    (d ≠ 63 → gives (.ffma u g d a b r) (fpFma fp32 mode n x.val.toNat y.val.toNat o.val.toNat)
      (maxTag [x.tag, y.tag, o.tag, k7.tag])) ∧
    gives (.fmin u g d a b) ⟨fpMinMax false x.val.toNat y.val.toNat, 0⟩ (Tag.max x.tag y.tag) ∧
    gives (.fmax u g d a b) ⟨fpMinMax true x.val.toNat y.val.toNat, 0⟩ (Tag.max x.tag y.tag) ∧
    (nan x.val → gives (.fabs u g d a) ⟨0x7FC00000, 0⟩ x.tag ∧ gives (.fneg u g d a) ⟨0x7FC00000, 0⟩ x.tag) ∧
    (¬ nan x.val → gives (.fabs u g d a) ⟨(x.val &&& 0x7FFFFFFF).toNat, 0⟩ x.tag ∧
      gives (.fneg u g d a) ⟨(x.val ^^^ 0x80000000).toNat, 0⟩ x.tag) ∧
    gives (.fcvtFW u g d a b r) (intToFp mode nb x.val.toInt) (Tag.max x.tag kb.tag) ∧
    gives (.fcvtFWu u g d a b r) (intToFp mode nb x.val.toNat) (Tag.max x.tag kb.tag) ∧
    (∃ q : Int × BitVec 5, q = fpToInt (-2147483648) 2147483647 mode nb x.val.toNat ∧
      gives (.fcvtWF u g d a b r) ⟨(BitVec.ofInt 32 q.1).toNat, q.2⟩ (Tag.max x.tag kb.tag)) ∧
    (∃ q : Int × BitVec 5, q = fpToInt 0 4294967295 mode nb x.val.toNat ∧
      gives (.fcvtWuF u g d a b r) ⟨(BitVec.ofInt 32 q.1).toNat, q.2⟩ (Tag.max x.tag kb.tag)) ∧
    compares (.fcmpEq u g p a b) (v.eq w) false ∧
    compares (.fcmpLt u g p a b) (v.lt w) un ∧
    compares (.fcmpLe u g p a b) (v.lt w || v.eq w) un ∧
    compares (.fcmpUn u g p a b) un false ∧
    ∃ n : Nat, Gives s (.fclass u g d a) 3 (toScalar (unitPort u) d ⟨.ofNat 32 (2 ^ n), x.tag⟩) ∧
      (∀ neg, v = .inf neg → n = if neg then 0 else 7) ∧
      (v = .nan → n = if x.val.getLsbD 22 then 9 else 8) ∧
      ∀ neg mant e, v = .fin neg mant e →
        n = if mant = 0 then (if neg then 3 else 4)
          else if x.val.extractLsb' 23 8 = 0 then (if neg then 2 else 5) else (if neg then 1 else 6)

/-! ### Slot 3 (R206 to R230) -/

/-- R211: the governing region of a word is the lowest-numbered valid region of the kernel that contains it; it
alone says whether the word may be read or written, and outside the 26-bit space there is none (R207). -/
def Obligations.GoverningRegion : Prop :=
  ∀ (k : Core) (kid : Word) (a : Nat) (r : Region),
    let owns (q : Region) : Prop :=
      q.v = true ∧ q.own = kid ∧ q.base.toNat * 64 ≤ a ∧ a < (q.limit.toNat + 1) * 64
    (k.governs kid a = some r ↔ kid ≠ 0 ∧ a < 67108864 ∧
      ∃ n : Fin 8, k.regions[n] = r ∧ owns r ∧ ∀ i : Fin 8, i < n → ¬ owns k.regions[i]) ∧
    (k.governs kid a = some r → k.readable kid a = r.rd ∧ k.writable kid a = r.wr ∧ k.engineWritable kid a = r.ew) ∧
    (k.governs kid a = none → k.readable kid a = false ∧ k.writable kid a = false ∧ k.engineWritable kid a = false)

/-- R224, R225, R216: scalar loads deliver the aligned bytes, little-endian, with the word's tag; a poisoned
base and an unreadable word trap, and the speculative forms deliver 0 with tag at least 1 there. -/
def Obligations.ScalarLoads : Prop :=
  ∀ (s : State) (g : BitVec 4) (d b : BitVec 6) (o : BitVec 9), s.Go g → sDst d = true →
    let base := s.ctx.rs b
    let kid := s.me.ctl.kid
    let ea (z : Nat) : Nat := (base.val + o.signExtend 32 * .ofNat 32 z).toNat
    let a (z : Nat) : Nat := ea z - ea z % z
    let tag (z : Nat) : Tag := s.wordTag s.focus kid (a z)
    let byte (z i : Nat) : Byte := s.padByte s.focus kid (a z + i)
    let half : BitVec 16 := byte 2 1 ++ byte 2 0
    let word : BitVec 32 := byte 4 3 ++ (byte 4 2 ++ (byte 4 1 ++ byte 4 0))
    let loads (i : Instr) (z : Nat) (v : Word) : Prop :=
      (base.tag = 0 → s.me.readable kid (a z) = true → Gives s i 4 (toScalar 4 d ⟨v, tag z⟩)) ∧
      (base.tag ≠ 0 → Traps s i 3 0x03 0) ∧
      (base.tag = 0 → s.me.readable kid (a z) = false → Traps s i 3 0x08 (.ofNat 32 (a z)))
    let specs (i : Instr) (z : Nat) (v : Word) : Prop :=
      (base.tag = 0 → s.me.readable kid (a z) = true → Gives s i 4 (toScalar 4 d ⟨v, tag z⟩)) ∧
      (base.tag ≠ 0 ∨ s.me.readable kid (a z) = false → Gives s i 4 (toScalar 4 d ⟨0, Tag.max base.tag 1⟩))
    loads (.ldb g d b o) 1 ((byte 1 0).signExtend 32) ∧
    loads (.ldbu g d b o) 1 ((byte 1 0).zeroExtend 32) ∧
    loads (.ldh g d b o) 2 (half.signExtend 32) ∧
    loads (.ldhu g d b o) 2 (half.zeroExtend 32) ∧
    loads (.ldw g d b o) 4 word ∧
    specs (.ldwS g d b o) 4 word ∧
    specs (.ldbuS g d b o) 1 ((byte 1 0).zeroExtend 32) ∧
    specs (.ldhuS g d b o) 2 (half.zeroExtend 32)

/-- R224: scalar stores write the low bytes of s[d], little-endian, at the aligned address, and nothing else;
a poisoned base, an unwritable word and poisoned data trap in this order. -/
def Obligations.ScalarStores : Prop :=
  ∀ (s : State) (g : BitVec 4) (d b : BitVec 6) (o : BitVec 9), s.Go g → s.Canonical →
    let base := s.ctx.rs b
    let data := s.ctx.rs d
    let kid := s.me.ctl.kid
    let ea (z : Nat) : Nat := (base.val + o.signExtend 32 * .ofNat 32 z).toNat
    let a (z : Nat) : Nat := ea z - ea z % z
    let stores (i : Instr) (z : Nat) : Prop :=
      (base.tag = 0 → s.me.writable kid (a z) = true → data.tag = 0 →
        ∃ t, exec i s = .next t ∧ Lands s t 1 [] ∧ Onward s t ∧
          Stores s t z (fun _ => true) (fun j => s.padKey s.focus kid (a z) + j)
            (fun j => data.val.extractLsb' (8 * j) 8)) ∧
      (base.tag ≠ 0 → Traps s i 3 0x03 0) ∧
      (base.tag = 0 → s.me.writable kid (a z) = false → Traps s i 3 0x08 (.ofNat 32 (a z))) ∧
      (base.tag = 0 → s.me.writable kid (a z) = true → data.tag ≠ 0 → Traps s i 3 0x04 0)
    stores (.stb g d b o) 1 ∧ stores (.sth g d b o) 2 ∧ stores (.stw g d b o) 4

/-- R226: a row load delivers the active bytes of a 256-byte row; each lane takes the greatest tag among its
active bytes' words and mask bits; the first active word without permission traps, or, in the speculative
form, delivers 0 with tag at least 1. -/
def Obligations.VectorRowLoads : Prop :=
  ∀ (s : State) (g : BitVec 4) (v : BitVec 5) (b : BitVec 6) (o : BitVec 7) (m : BitVec 3), s.Go g → vDst v = true →
    let base := s.ctx.rs b
    let kid := s.me.ctl.kid
    let ea := (base.val + o.signExtend 32 * 256).toNat
    let row := ea - ea % 256
    let N := s.ctx.rm m.toNat
    let word (j : Nat) : Nat := row + j / 16 * 16
    let ok (j : Nat) : Bool := s.me.readable kid (word j)
    let tagOf (f : Nat → Tag) (l : Nat) : Tag := maxTag ((List.range 4).map (fun e =>
      if actW 1 N (4 * l + e) then Tag.max (f (4 * l + e)) (mtag N.tags (4 * l + e)) else 0))
    let row6 (i : Instr) (f : Nat → Byte) (w : Nat → Tag) : Prop :=
      ∃ x t en, Gives s i 6 (toVector 2 v x t en) ∧
        (∀ j, j < 256 → en.getLsbD j = actW 1 N j) ∧
        (∀ j, j < 256 → actW 1 N j = true → elem 1 x j = (f j).toNat) ∧
        (∀ l, l < 64 → ltag t l = tagOf w l)
    (base.tag = 0 → (∀ j, j < 256 → actW 1 N j = true → ok j = true) →
      row6 (.ldv g v b o m) (fun j => s.padByte s.focus kid (row + j)) (fun j => s.wordTag s.focus kid (word j))) ∧
    (base.tag ≠ 0 → Traps s (.ldv g v b o m) 3 0x03 0) ∧
    (∀ j, j < 256 → base.tag = 0 → actW 1 N j = true → ok j = false →
      (∀ i, i / 16 < j / 16 → actW 1 N i = true → ok i = true) →
      Traps s (.ldv g v b o m) 3 0x08 (.ofNat 32 (word j))) ∧
    row6 (.ldvS g v b o m)
      (fun j => if base.tag = 0 ∧ ok j = true then s.padByte s.focus kid (row + j) else 0)
      (fun j => if base.tag = 0 ∧ ok j = true then s.wordTag s.focus kid (word j) else Tag.max base.tag 1)

/-- R226: `stv` writes the active bytes of the row and nothing else. -/
def Obligations.VectorRowStores : Prop :=
  ∀ (s : State) (g : BitVec 4) (v : BitVec 5) (b : BitVec 6) (o : BitVec 7) (m : BitVec 3), s.Go g → s.Canonical →
    let base := s.ctx.rs b
    let kid := s.me.ctl.kid
    let ea := (base.val + o.signExtend 32 * 256).toNat
    let row := ea - ea % 256
    let N := s.ctx.rm m.toNat
    let p := s.ctx.rv v
    let ok (j : Nat) : Bool := s.me.writable kid (row + j / 16 * 16)
    let poisoned (j : Nat) : Prop := mtag N.tags j ≠ 0 ∨ (actW 1 N j = true ∧ elemTag 1 p.tags j ≠ 0)
    (base.tag = 0 → (∀ j, j < 256 → actW 1 N j = true → ok j = true) → (∀ j, j < 256 → ¬ poisoned j) →
      ∃ t, exec (.stv g v b o m) s = .next t ∧ Lands s t 1 [] ∧ Onward s t ∧
        Stores s t 256 (actW 1 N) (fun j => s.padKey s.focus kid (row + j)) (fun j => .ofNat 8 (elem 1 p.val j))) ∧
    (base.tag ≠ 0 → Traps s (.stv g v b o m) 3 0x03 0) ∧
    (∀ j, j < 256 → base.tag = 0 → actW 1 N j = true → ok j = false →
      (∀ i, i / 16 < j / 16 → actW 1 N i = true → ok i = true) →
      Traps s (.stv g v b o m) 3 0x08 (.ofNat 32 (row + j / 16 * 16))) ∧
    (∀ j, j < 256 → base.tag = 0 → (∀ j, j < 256 → actW 1 N j = true → ok j = true) → poisoned j →
      Traps s (.stv g v b o m) 3 0x04 0)

/-- R227: an expanding load widens four MX blocks by their scale bytes to BF16; a poisoned base and a word of the sheet
that may not be read trap, the lowest such word first. -/
def Obligations.ExpandingLoads : Prop :=
  ∀ (s : State) (g : BitVec 4) (v : BitVec 5) (b : BitVec 6) (o : BitVec 7) (m : BitVec 3), s.Go g → vDst v = true →
    let base := s.ctx.rs b
    let kid := s.me.ctl.kid
    let ea := (base.val + o.signExtend 32 * 256).toNat
    let sh := ea - ea % 16
    let N := s.ctx.rm m.toNat
    let byte (a : Nat) : Nat := (s.padByte s.focus kid a).toNat
    let tag (a : Nat) : Tag := s.wordTag s.focus kid a
    let widens (i : Instr) (h : Nat) (at_ : Nat → Nat) (el : Nat → Nat) (fm : Fmt) : Prop :=
      let word (e : Nat) : Nat := at_ e - (at_ e - sh) % 16
      let refused (e : Nat) : Prop := e < 128 ∧ actW 2 N e = true ∧ s.me.readable kid (word e) = false
      base.tag = 0 → s.me.readable kid sh = true →
      ((∀ e, ¬ refused e) → ∃ x t en, Gives s i 8 (toVector 2 v x t en) ∧
        (∀ j, j < 256 → en.getLsbD j = actW 2 N (j / 2)) ∧
        (∀ e, e < 128 → actW 2 N e = true → elem 2 x e =
          if tag sh = 3 ∨ tag (word e) = 3 then 0 else mxWiden fm bf16 (byte (sh + 4 * h + e / 32)) (el e)) ∧
        (∀ l, l < 64 → ltag t l = maxTag ((List.range 2).map (fun q =>
          if actW 2 N (2 * l + q) then maxTag [tag sh, tag (word (2 * l + q)), mtag N.tags (2 * (2 * l + q))] else 0)))) ∧
      ∀ e, refused e → (∀ q, refused q → word e ≤ word q) → Traps s i 3 0x08 (.ofNat 32 (word e))
    let at4 (e : Nat) : Nat := sh + 16 + (4 * (ea % 4) + e / 32) * 16 + e % 32 / 2
    let at8 (e : Nat) : Nat := sh + 16 + (4 * (ea % 2) + e / 32) * 32 + e % 32
    widens (.ldmx4 g v b o m) (ea % 4) at4 (fun e => byte (at4 e) / 16 ^ (e % 2) % 16) e2m1 ∧
    widens (.ldmx8 g v b o m) (ea % 2) at8 (fun e => byte (at8 e)) e4m3 ∧
    (base.tag ≠ 0 → Traps s (.ldmx4 g v b o m) 3 0x03 0 ∧ Traps s (.ldmx8 g v b o m) 3 0x03 0) ∧
    (base.tag = 0 → s.me.readable kid sh = false →
      Traps s (.ldmx4 g v b o m) 3 0x08 (.ofNat 32 sh) ∧ Traps s (.ldmx8 g v b o m) 3 0x08 (.ofNat 32 sh))

/-- R228: gathers and scatters keep every element in its own byte position; a failing element delivers 0 with tag at
least 1 in the speculative form; a poisoned base or index, an element without permission (the first one, in element
order) and poisoned data or mask bits trap. -/
def Obligations.IndexedRows : Prop :=
  ∀ (s : State) (g : BitVec 4) (v i : BitVec 5) (b : BitVec 6) (m : BitVec 2) (w : BitVec 3), s.Go g → s.Canonical → w.toNat < 3 →
    let base := s.ctx.rs b
    let kid := s.me.ctl.kid
    let W := 2 ^ w.toNat
    let idx := s.ctx.rv i
    let p := s.ctx.rv v
    let N := s.ctx.rm m.toNat
    let act := actW W N
    let at_ (e : Nat) : Nat :=
      let r := (base.val + .ofNat 32 (elem W idx.val e * 256)).toNat
      r - r % 256 + e * W
    let active (e : Nat) : Prop := e < 256 / W ∧ act e = true
    let reads (e : Nat) : Bool := s.me.readable kid (at_ e)
    let writes (e : Nat) : Bool := s.me.writable kid (at_ e)
    let ok (e : Nat) : Bool := decide (base.tag = 0) && decide (elemTag W idx.tags e = 0) && reads e
    let lost : Prop := base.tag ≠ 0 ∨ ∃ e, active e ∧ elemTag W idx.tags e ≠ 0
    let poisoned (e : Nat) : Prop := elemTag W p.tags e ≠ 0 ∨ mtag N.tags (e * W) ≠ 0
    let gathers (j : Instr) : Prop := GivesVector s j 8 2 v W act
      (fun e => if ok e then .ofNat (8 * W) (s.padRead s.focus kid (at_ e) W) else 0)
      (fun e => Tag.max (if ok e then s.wordTag s.focus kid (at_ e) else maxTag [1, base.tag, elemTag W idx.tags e])
        (mtag N.tags (e * W))) []
    (vDst v = true → ¬ lost → (∀ e, active e → reads e = true) → gathers (.ldvx g v i b m w)) ∧
    (vDst v = true → gathers (.ldvxS g v i b m w)) ∧
    (¬ lost → (∀ e, active e → writes e = true) → (∀ e, active e → ¬ poisoned e) →
      ∃ t, exec (.stvx g v i b m w) s = .next t ∧ Lands s t 1 [] ∧ Onward s t ∧
        Stores s t 256 (fun j => act (j / W)) (fun j => s.padKey s.focus kid (at_ (j / W)) + j % W)
          (fun j => .ofNat 8 (elem W p.val (j / W) / 256 ^ (j % W)))) ∧
    (lost → (vDst v = true → Traps s (.ldvx g v i b m w) 3 0x03 0) ∧ Traps s (.stvx g v i b m w) 3 0x03 0) ∧
    (∀ e, vDst v = true → ¬ lost → active e → reads e = false → (∀ q, q < e → active q → reads q = true) →
      Traps s (.ldvx g v i b m w) 3 0x08 (.ofNat 32 (at_ e))) ∧
    (∀ e, ¬ lost → active e → writes e = false → (∀ q, q < e → active q → writes q = true) →
      Traps s (.stvx g v i b m w) 3 0x08 (.ofNat 32 (at_ e))) ∧
    (¬ lost → (∀ e, active e → writes e = true) → (∃ e, active e ∧ poisoned e) → Traps s (.stvx g v i b m w) 3 0x04 0)

/-- R229, R230: a shift inside the core moves lane groups, or whole words of a row, round the ring of 16; a poisoned
address, a refused word and a poisoned mask trap, a source word in flight holds, an uncorrectable one arrives as such;
the distances that a direction does not have, and 16 outside a rope, trap. In a pair, distance 16 east or west carries
the register, or the row, from the one core to the other, and north or south traps in both (R66, R67). -/
def Obligations.SystolicShifts : Prop :=
  (∀ (s : State) (g : BitVec 4) (d a : BitVec 5) (e : BitVec 3) (n : BitVec 5) (m : BitVec 3), s.Go g → s.Canonical →
    e.toNat < 4 →
    let N := s.ctx.rm m.toNat
    let act := actW 1 N
    let p := s.ctx.rv a
    let from_ (q : Nat) : Nat := if e.toNat = 0 then (q + (16 - n.toNat)) % 16 else (q + n.toNat) % 16
    let kid := s.me.ctl.kid
    let sa := s.ctx.rs (a.zeroExtend 6)
    let sd := s.ctx.rs (d.zeroExtend 6)
    let src := sa.val.toNat - sa.val.toNat % 256
    let dst := sd.val.toNat - sd.val.toNat % 256
    let source (j : Nat) : Nat := src + 16 * from_ (j / 16)
    let unread (w : Nat) : Prop := ∃ j, j < 256 ∧ act j = true ∧ w = source j ∧ s.me.readable kid w = false
    let unwritten (w : Nat) : Prop := ∃ j, j < 256 ∧ act j = true ∧ w = dst + j / 16 * 16 ∧ s.me.writable kid w = false
    let refused (w : Nat) : Prop := unread w ∨ unwritten w
    let flying : Prop := ∃ j, j < 256 ∧ act j = true ∧ s.wordTag s.focus kid (source j) = 2
    let tsh : Instr := .tsh g d a e n m
    (e.toNat < 2 → n.toNat < 16 →
      (vDst d = true → ∃ x t en, Gives s (.shn g d a e n m) 3 (toVector 2 d x t en) ∧
        (∀ j, j < 256 → en.getLsbD j = act j) ∧
        (∀ j, j < 256 → elem 1 x j = elem 1 p.val (16 * from_ (j / 16) + j % 16)) ∧
        (∀ l, l < 64 → ltag t l = laneJoin 1 act
          (fun j => Tag.max (elemTag 1 p.tags (16 * from_ (j / 16) + j % 16)) (mtag N.tags j)) l)) ∧
      (sa.tag = 0 → sd.tag = 0 → (∀ j, j < 256 → mtag N.tags j = 0) → (∀ w, ¬ refused w) → ¬ flying →
        ∃ t, exec tsh s = .next t ∧ Lands s t 1 [] ∧ Onward s t ∧
          (∀ j, j < 256 → act j = true → t.byte (s.padKey s.focus kid (dst + j)) =
            s.padByte s.focus kid (source j + j % 16)) ∧
          (∀ j, j < 256 → act j = true → s.wordTag s.focus kid (source j) = 3 →
            t.isBad (s.padKey s.focus kid (dst + j)) = true) ∧
          (∀ k, (∀ j, j < 256 → act j = true → k ≠ s.padKey s.focus kid (dst + j)) → t.byte k = s.byte k) ∧
          (∀ c, c ≠ s.focus → t.core c = s.core c) ∧
          { t with cores := s.cores, mem := s.mem, bad := s.bad, monitors := s.monitors } = s) ∧
      (sa.tag ≠ 0 ∨ sd.tag ≠ 0 → Traps s tsh 3 0x03 0) ∧
      (∀ w, sa.tag = 0 → sd.tag = 0 → refused w → (∀ q, refused q → w ≤ q) →
        (∀ q, ¬ unread q) ∨ (∀ q, ¬ unwritten q) → Traps s tsh 3 0x08 (.ofNat 32 w)) ∧
      (sa.tag = 0 → sd.tag = 0 → (∀ w, ¬ refused w) → (∃ j, j < 256 ∧ mtag N.tags j ≠ 0) → Traps s tsh 3 0x04 0) ∧
      (sa.tag = 0 → sd.tag = 0 → (∀ w, ¬ refused w) → (∀ j, j < 256 → mtag N.tags j = 0) → flying → Holds s tsh .tsh)) ∧
    (n.toNat = 16 → (vDst d = true → Traps s (.shn g d a e n m) 3 0x12 5) ∧ Traps s tsh 3 0x12 5) ∧
    (n.toNat ≠ 16 → ¬ (e.toNat < 2 ∧ n.toNat < 16) →
      (vDst d = true → Traps s (.shn g d a e n m) 3 0x0A (.ofNat 32 n.toNat)) ∧ Traps s tsh 3 0x0A (.ofNat 32 n.toNat))) ∧
  ∀ (s : State) (c : Nat) (g : BitVec 4) (d a : BitVec 5) (e : BitVec 3) (m : BitVec 3), s.Paired c g → s.Canonical →
    e.toNat < 4 →
    let shn : Instr := .shn g d a e 16 m
    let tsh : Instr := .tsh g d a e 16 m
    -- the core that sends and the core that receives
    let snd := if e.toNat = 0 then c else c + 1
    let rcv := if e.toNat = 0 then c + 1 else c
    let N (k : Nat) : MReg := (s.ctxOf k).rm m.toNat
    let from_ (k : Nat) : VReg := if k = rcv then (s.ctxOf snd).rv a else .zero
    let sa (k : Nat) : SReg := (s.ctxOf k).rs (a.zeroExtend 6)
    let sd (k : Nat) : SReg := (s.ctxOf k).rs (d.zeroExtend 6)
    let kid := (s.core snd).ctl.kid
    let act := actW 1 (N snd)
    let src := (sa snd).val.toNat - (sa snd).val.toNat % 256
    let dst := (sd snd).val.toNat - (sd snd).val.toNat % 256
    (e.toNat < 2 →
      (vDst d = true → ∃ (x : Nat → Vec) (t : Nat → VTags) (en : Nat → Mask), PairGives s c shn 3 (fun k => toVector 2 d (x k) (t k) (en k)) ∧
        ∀ k, k = c ∨ k = c + 1 → Elements 1 (actW 1 (N k)) (fun j => lane 8 (from_ k).val j)
          (fun j => Tag.max (elemTag 1 (from_ k).tags j) (mtag (N k).tags j)) (x k) (t k) (en k)) ∧
      ((∀ k, k = c ∨ k = c + 1 → (sa k).tag = 0 ∧ (sd k).tag = 0 ∧ ∀ j, j < 256 → mtag (N k).tags j = 0) →
        (∀ j, j < 256 → act j = true → (s.core snd).readable kid (src + j / 16 * 16) = true ∧
          (s.core rcv).writable kid (dst + j / 16 * 16) = true ∧ s.wordTag snd kid (src + j / 16 * 16) ≠ 2) →
        ∃ t, exec tsh s = .next t ∧ Pairs s t c 1 (fun _ => []) ∧
          (∀ j, j < 256 → act j = true → t.byte (s.padKey rcv kid (dst + j)) = s.padByte snd kid (src + j)) ∧
          (∀ k, (∀ j, j < 256 → act j = true → k ≠ s.padKey rcv kid (dst + j)) → t.byte k = s.byte k) ∧
          { t with cores := s.cores, mem := s.mem, bad := s.bad, monitors := s.monitors } = s)) ∧
    (2 ≤ e.toNat → (vDst d = true → PairTraps s c shn (fun _ => ⟨0x12, 5, 2 ^ 3⟩)) ∧
      PairTraps s c tsh (fun _ => ⟨0x12, 5, 2 ^ 3⟩))

/-! ### Slots 4 and 5 (R247 to R288) -/

/-- R252, R253: element-wise arithmetic wraps or clamps, under a write mask; logic, shifts with their counts modulo
the element width, and bit counts. -/
def Obligations.VectorIntegers : Prop :=
  (∀ (s : State) (u : VUnit) (g : BitVec 4) (d a b : BitVec 5) (m w : BitVec 3), s.Go g → vDst d = true → w.toNat < 3 →
    let W := 2 ^ w.toNat
    let n := 8 * W
    let p := s.ctx.rv a
    let q := s.ctx.rv b
    let o := s.ctx.rv d
    let N := s.ctx.rm m.toNat
    let x (e : Nat) : BitVec n := lane n p.val e
    let y (e : Nat) : BitVec n := lane n q.val e
    let clamp (z : Int) : BitVec n := .ofInt n (max (-2 ^ (n - 1)) (min (2 ^ (n - 1) - 1) z))
    let gives (i : Instr) (f : Nat → BitVec n) : Prop := GivesVector s i 2 (vunitPort u) d W (actW W N) f
      (fun e => maxTag [elemTag W p.tags e, elemTag W q.tags e, mtag N.tags (e * W)]) []
    gives (.vadd u g d a b m w) (fun e => x e + y e) ∧
    gives (.vsub u g d a b m w) (fun e => x e - y e) ∧
    gives (.vmul u g d a b m w) (fun e => x e * y e) ∧
    gives (.vmulh u g d a b m w) (fun e => .ofInt n ((x e).toInt * (y e).toInt / 2 ^ n)) ∧
    gives (.vmin u g d a b m w) (fun e => if (x e).toInt < (y e).toInt then x e else y e) ∧
    gives (.vmax u g d a b m w) (fun e => if (x e).toInt > (y e).toInt then x e else y e) ∧
    gives (.vminu u g d a b m w) (fun e => if (x e).toNat < (y e).toNat then x e else y e) ∧
    gives (.vmaxu u g d a b m w) (fun e => if (x e).toNat > (y e).toNat then x e else y e) ∧
    gives (.vadds u g d a b m w) (fun e => clamp ((x e).toInt + (y e).toInt)) ∧
    gives (.vsubs u g d a b m w) (fun e => clamp ((x e).toInt - (y e).toInt)) ∧
    GivesVector s (.vabs u g d a m w) 2 (vunitPort u) d W (actW W N) (fun e => .ofNat n (x e).toInt.natAbs)
      (fun e => maxTag [elemTag W p.tags e, mtag N.tags (e * W)]) [] ∧
    (d ≠ 31 → GivesVector s (.vmad u g d a b m w) 2 (vunitPort u) d W (actW W N)
      (fun e => x e * y e + lane n o.val e)
      (fun e => maxTag [elemTag W p.tags e, elemTag W q.tags e, elemTag W o.tags e, mtag N.tags (e * W)]) [])) ∧
  ∀ (s : State) (u : VUnit) (g : BitVec 4) (d a b : BitVec 5) (m w : BitVec 3), s.Go g → vDst d = true → w.toNat < 3 →
    let W := 2 ^ w.toNat
    let n := 8 * W
    let p := s.ctx.rv a
    let q := s.ctx.rv b
    let N := s.ctx.rm m.toNat
    let x (e : Nat) : BitVec n := lane n p.val e
    let y (e : Nat) : BitVec n := lane n q.val e
    let c (e : Nat) : Nat := (y e).toNat % n
    let gives (i : Instr) (f : Nat → BitVec n) : Prop := GivesVector s i 2 (vunitPort u) d W (actW W N) f
      (fun e => maxTag [elemTag W p.tags e, elemTag W q.tags e, mtag N.tags (e * W)]) []
    let one (i : Instr) (f : Nat → BitVec n) : Prop := GivesVector s i 2 (vunitPort u) d W (actW W N) f
      (fun e => maxTag [elemTag W p.tags e, mtag N.tags (e * W)]) []
    gives (.vand u g d a b m w) (fun e => x e &&& y e) ∧
    gives (.vor u g d a b m w) (fun e => x e ||| y e) ∧
    gives (.vxor u g d a b m w) (fun e => x e ^^^ y e) ∧
    gives (.vshl u g d a b m w) (fun e => x e <<< c e) ∧
    gives (.vshr u g d a b m w) (fun e => x e >>> c e) ∧
    gives (.vsar u g d a b m w) (fun e => .ofInt n ((x e).toInt / 2 ^ c e)) ∧
    one (.vclz u g d a m w) (fun e => .ofNat n ((List.range n).findIdx (fun i => (x e).getMsbD i))) ∧
    one (.vpopc u g d a m w) (fun e => .ofNat n ((List.range n).filter (fun i => (x e).getLsbD i)).length)

/-- R254: a compare writes its result into the mask bytes of the active elements. R274, R153: FP32 compares into a
mask; lt and le raise NV on a NaN in a clean active lane. -/
def Obligations.VectorCompares : Prop :=
  (∀ (s : State) (u : VUnit) (g : BitVec 4) (d : BitVec 3) (a b : BitVec 5) (c : BitVec 6) (m : BitVec 3) (m2 : BitVec 2)
    (w : BitVec 3), s.Go g → w.toNat < 3 →
    let W := 2 ^ w.toNat
    let n := 8 * W
    let p := s.ctx.rv a
    let q := s.ctx.rv b
    let r := s.ctx.rs c
    let N := s.ctx.rm m.toNat
    let M := s.ctx.rm m2.toNat
    let x (e : Nat) : BitVec n := lane n p.val e
    let y (e : Nat) : BitVec n := lane n q.val e
    let z : BitVec n := r.val.setWidth n
    let gives (i : Instr) (f : Nat → Bool) : Prop := GivesMask s i 2 d W (actW W N) f
      (fun e => maxTag [elemTag W p.tags e, elemTag W q.tags e, mtag N.tags (e * W)]) []
    let with_ (i : Instr) (f : Nat → Bool) : Prop := GivesMask s i 2 d W (actW W M) f
      (fun e => maxTag [elemTag W p.tags e, r.tag, mtag M.tags (e * W)]) []
    gives (.vcmpEq u g d a b m w) (fun e => decide (x e = y e)) ∧
    gives (.vcmpNe u g d a b m w) (fun e => decide (x e ≠ y e)) ∧
    gives (.vcmpLt u g d a b m w) (fun e => decide ((x e).toInt < (y e).toInt)) ∧
    gives (.vcmpLe u g d a b m w) (fun e => decide ((x e).toInt ≤ (y e).toInt)) ∧
    gives (.vcmpLtu u g d a b m w) (fun e => decide ((x e).toNat < (y e).toNat)) ∧
    gives (.vcmpLeu u g d a b m w) (fun e => decide ((x e).toNat ≤ (y e).toNat)) ∧
    with_ (.vcmpEqX u g d a c m2 w) (fun e => decide (x e = z)) ∧
    with_ (.vcmpLtX u g d a c m2 w) (fun e => decide ((x e).toInt < z.toInt))) ∧
  ∀ (s : State) (u : VUnit) (g : BitVec 4) (d : BitVec 3) (a b : BitVec 5) (m : BitVec 3), s.Go g →
    let p := s.ctx.rv a
    let q := s.ctx.rv b
    let N := s.ctx.rm m.toNat
    let x (e : Nat) : Fp := fp32.decode (elem 4 p.val e)
    let y (e : Nat) : Fp := fp32.decode (elem 4 q.val e)
    let un (e : Nat) : Bool := (x e).isNaN || (y e).isNaN
    let t (e : Nat) : Tag := maxTag [ltag p.tags e, ltag q.tags e, mtag N.tags (4 * e)]
    let gives (i : Instr) (f : Nat → Bool) (nv : Nat → Bool) : Prop :=
      ∃ fl, RaisedBy 4 (actW 4 N) (fun e => if nv e then flagNV else 0) t fl ∧
        GivesMask s i 4 d 4 (actW 4 N) f t (if fl = 0 then [] else raises fl)
    gives (.vfcmpEqF u g d a b m) (fun e => (x e).eq (y e)) (fun _ => false) ∧
    gives (.vfcmpLtF u g d a b m) (fun e => (x e).lt (y e)) un ∧
    gives (.vfcmpLeF u g d a b m) (fun e => (x e).lt (y e) || (x e).eq (y e)) un ∧
    gives (.vfcmpUnF u g d a b m) un (fun _ => false)

/-- R255 to R258: forms with a scalar operand; `vdup`, `vins` at the lowest selected element, `vext`. -/
def Obligations.VectorScalarOperands : Prop :=
  ∀ (s : State) (u : VUnit) (g : BitVec 4) (d a : BitVec 5) (c : BitVec 6) (m : BitVec 2) (w k : BitVec 3), s.Go g →
    vDst d = true → w.toNat < 3 →
    let W := 2 ^ w.toNat
    let n := 8 * W
    let p := s.ctx.rv a
    let r := s.ctx.rs c
    let N := s.ctx.rm m.toNat
    let x (e : Nat) : BitVec n := lane n p.val e
    let y : BitVec n := r.val.setWidth n
    let j := r.val.toNat % (256 / W)
    let gives (i : Instr) (f : Nat → BitVec n) : Prop := GivesVector s i 2 (vunitPort u) d W (actW W N) f
      (fun e => maxTag [elemTag W p.tags e, r.tag, mtag N.tags (e * W)]) []
    gives (.vaddX u g d a c m w) (fun e => x e + y) ∧
    gives (.vsubX u g d a c m w) (fun e => x e - y) ∧
    gives (.vmulX u g d a c m w) (fun e => x e * y) ∧
    gives (.vandX u g d a c m w) (fun e => x e &&& y) ∧
    gives (.vshlX u g d a c m w) (fun e => x e <<< (r.val.toNat % n)) ∧
    gives (.vshrX u g d a c m w) (fun e => x e >>> (r.val.toNat % n)) ∧
    gives (.vsarX u g d a c m w) (fun e => .ofInt n ((x e).toInt / 2 ^ (r.val.toNat % n))) ∧
    GivesVector s (.vdup u g d a c m w) 2 (vunitPort u) d W (actW W N) (fun _ => y)
      (fun e => maxTag [r.tag, mtag N.tags (e * W)]) [] ∧
    (∃ first : Nat → Bool,
      (∀ e, first e = true ↔ e < 256 / W ∧ actS W N e = true ∧ ∀ i, i < e → actS W N i = false) ∧
      GivesVector s (.vins u g d a c m w) 2 (vunitPort u) d W (fun _ => true)
        (fun e => if first e = true then y else x e)
        (fun e => Tag.max (if first e = true then r.tag else elemTag W p.tags e)
          (maxTag ((List.range (256 / W)).map (fun i => mtag N.tags (i * W))))) []) ∧
    Gives s (.vext u g k a c m w) 2 [(.s (48 + k.toNat), .word ((x j).setWidth 32) (Tag.max (elemTag W p.tags j) r.tag))]

/-- R259 to R261: mask logic, `mpop`, `mfirst` and the byte select. -/
def Obligations.VectorMasks : Prop :=
  ∀ (s : State) (u : VUnit) (g : BitVec 4) (d a b m : BitVec 3) (v x y : BitVec 5), s.Go g → vDst v = true →
    let p := s.ctx.rm a.toNat
    let q := s.ctx.rm b.toNat
    let N := s.ctx.rm m.toNat
    let h := s.ctx.rv x
    let l := s.ctx.rv y
    let all (P : MReg) : Tag := maxTag ((List.range 256).map (mtag P.tags))
    let gives (i : Instr) (f : Bool → Bool → Bool) : Prop := GivesMask s i 2 d 1 (fun _ => true)
      (fun j => f (p.bits.getLsbD j) (q.bits.getLsbD j)) (fun j => Tag.max (mtag p.tags j) (mtag q.tags j)) []
    gives (.mand u g d a b) (fun i j => i && j) ∧
    gives (.mor u g d a b) (fun i j => i || j) ∧
    gives (.mxor u g d a b) (fun i j => i != j) ∧
    gives (.mandn u g d a b) (fun i j => i && !j) ∧
    Gives s (.mpop u g d a) 2 [(.s (48 + d.toNat),
      .word (.ofNat 32 ((List.range 256).filter (fun i => p.bits.getLsbD i)).length) (all p))] ∧
    Gives s (.mfirst u g d a) 2 [(.s (48 + d.toNat),
      .word (.ofNat 32 ((List.range 256).findIdx (fun i => p.bits.getLsbD i))) (all p))] ∧
    ∃ r tg, Gives s (.vsel u g v x y m) 2 (toVector (vunitPort u) v r tg (BitVec.allOnes 256)) ∧
      (∀ j, j < 256 → lane 8 r j = if N.bits.getLsbD j then lane 8 h.val j else lane 8 l.val j) ∧
      (∀ i, i < 64 → ltag tg i = maxTag ((List.range 4).map (fun j =>
        Tag.max (if N.bits.getLsbD (4 * i + j) then ltag h.tags i else ltag l.tags i) (mtag N.tags (4 * i + j)))))

/-- R262, R263: permutes. -/
def Obligations.VectorPermutes : Prop :=
  ∀ (s : State) (u : VUnit) (g : BitVec 4) (d a b : BitVec 5) (c : BitVec 6) (m : BitVec 3) (m2 : BitVec 2) (k : BitVec 8)
    (w : BitVec 3), s.Go g → vDst d = true → w.toNat < 3 →
    let W := 2 ^ w.toNat
    let n := 8 * W
    let p := s.ctx.rv a
    let q := s.ctx.rv b
    let r := s.ctx.rs c
    let N := s.ctx.rm m.toNat
    let M := s.ctx.rm m2.toNat
    let x (e : Nat) : BitVec n := lane n p.val e
    let y (e : Nat) : BitVec n := lane n q.val e
    let gov : Tag := maxTag ((List.range (256 / W)).map (fun i => mtag N.tags (i * W)))
    -- the elements taken from a, where `fromA` says so, and else from b, each with its tag
    let masked (i : Instr) (fromA : Nat → Bool) (src : Nat → Nat) : Prop :=
      GivesVector s i 3 (vunitPort u) d W (actW W N) (fun e => if fromA e then x (src e) else y (src e))
        (fun e => Tag.max (if fromA e then elemTag W p.tags (src e) else elemTag W q.tags (src e)) (mtag N.tags (e * W))) []
    let selected (i : Instr) (fromA : Nat → Bool) (src : Nat → Nat) : Prop :=
      GivesVector s i 3 (vunitPort u) d W (fun _ => true) (fun e => if fromA e then x (src e) else y e)
        (fun e => Tag.max (if fromA e then elemTag W p.tags (src e) else elemTag W q.tags e) gov) []
    let before (e : Nat) : Nat := ((List.range e).filter (actS W N)).length
    GivesVector s (.vperm u g d a b m w) 3 (vunitPort u) d W (actW W N) (fun e => x ((y e).toNat % (256 / W)))
      (fun e => maxTag [elemTag W p.tags ((y e).toNat % (256 / W)), elemTag W q.tags e, mtag N.tags (e * W)]) [] ∧
    GivesVector s (.vrotX u g d a c m2 w) 3 (vunitPort u) d W (actW W M) (fun e => x ((e + r.val.toNat) % (256 / W)))
      (fun e => maxTag [elemTag W p.tags ((e + r.val.toNat) % (256 / W)), r.tag, mtag M.tags (e * W)]) [] ∧
    masked (.vzip u g d a b m w) (fun e => e % 2 == 0) (fun e => e / 2) ∧
    masked (.vunzip u g d a b m w) (fun e => decide (e < 128 / W))
      (fun e => if e < 128 / W then 2 * e else 2 * (e - 128 / W)) ∧
    (∃ src : Nat → Nat, (∀ e, e < 256 / W → actS W N e = true → src (before e) = e) ∧
      selected (.vcompress u g d a b m w) (fun e => decide (e < before (256 / W))) src) ∧
    selected (.vexpand u g d a b m w) (actS W N) before ∧
    GivesVector s (.vidx u g d k w) 3 (vunitPort u) d W (fun _ => true) (fun e => .ofNat n (k.toNat + e)) (fun _ => 0) []

/-- R264 to R266: reductions and scans with element 0 of b, and match-and-reduce with its leader mask. -/
def Obligations.VectorReductions : Prop :=
  ∀ (s : State) (u : VUnit) (g : BitVec 4) (d a b : BitVec 5) (m w : BitVec 3), s.Go g → vDst d = true → w.toNat < 3 →
    let W := 2 ^ w.toNat
    let n := 8 * W
    let p := s.ctx.rv a
    let q := s.ctx.rv b
    let N := s.ctx.rm m.toNat
    let x (e : Nat) : BitVec n := lane n p.val e
    let y (e : Nat) : BitVec n := lane n q.val e
    let act : List Nat := (List.range (256 / W)).filter (actS W N)
    let gov : Tag := maxTag ((List.range (256 / W)).map (fun i => mtag N.tags (i * W)))
    let reduces (i : Instr) (v : BitVec n) : Prop := GivesVector s i 6 (vunitPort u) d W (fun _ => true)
      (fun e => if e = 0 then v else 0)
      (fun e => Tag.max (if e = 0 then maxTag (elemTag W q.tags 0 :: act.map (elemTag W p.tags)) else 0) gov) []
    let upTo (e : Nat) : List Nat := act.filter (fun j => decide (j ≤ e))
    let group (e : Nat) : List Nat := (List.range (256 / W)).filter (fun j => actW W N j && x j == x e)
    let tag (useB : Bool) (e : Nat) : Tag := maxTag ((group e).map (fun j =>
      maxTag [elemTag W p.tags j, if useB then elemTag W q.tags j else 0, mtag N.tags (j * W)]))
    let matches_ (i : Instr) (useB : Bool) (f : Nat → BitVec n) : Prop :=
      ∃ lead tg, GivesVector s i 6 (vunitPort u) d W (actW W N) f (tag useB) (toMask m lead tg (BitVec.allOnes 256)) ∧
        ∀ j, j < 256 →
          (lead.getLsbD j = true ↔ actW W N (j / W) = true ∧ ∀ e ∈ group (j / W), j / W ≤ e) ∧
          mtag tg j = if actW W N (j / W) then tag useB (j / W) else 0
    let sum (l : List Nat) (f : Nat → BitVec n) : Nat := (l.map (fun e => (f e).toNat)).sum
    reduces (.vredAdd u g d a b m w) (.ofNat n ((y 0).toNat + sum act x)) ∧
    (∃ v, reduces (.vredMax u g d a b m w) v ∧ v ∈ y 0 :: act.map x ∧ ∀ z ∈ y 0 :: act.map x, z.toInt ≤ v.toInt) ∧
    (∃ v, reduces (.vredMin u g d a b m w) v ∧ v ∈ y 0 :: act.map x ∧ ∀ z ∈ y 0 :: act.map x, v.toInt ≤ z.toInt) ∧
    GivesVector s (.vscanAdd u g d a b m w) 6 (vunitPort u) d W (fun _ => true)
      (fun e => .ofNat n ((y 0).toNat + sum (upTo e) x))
      (fun e => Tag.max (maxTag (elemTag W q.tags 0 :: (upTo e).map (elemTag W p.tags))) gov) [] ∧
    matches_ (.vmredAdd u g d a b m w) true (fun e => .ofNat n (sum (group e) y)) ∧
    (∃ v : Nat → BitVec n, matches_ (.vmredMax u g d a b m w) true v ∧
      ∀ e, e < 256 / W → actW W N e = true →
        v e ∈ (group e).map y ∧ ∀ j ∈ group e, (y j).toInt ≤ (v e).toInt) ∧
    matches_ (.vmscanAdd u g d a b m w) true (fun e => .ofNat n (sum ((group e).filter (fun j => decide (j ≤ e))) y)) ∧
    matches_ (.vmcount u g d a b m w) false (fun e => .ofNat n (group e).length)

/-- R271 to R273: FP32 and BF16 arithmetic rounds once, element by element, and raises the flags of clean
active elements. -/
def Obligations.VectorFloatArithmetic : Prop :=
  ∀ (s : State) (u : VUnit) (g : BitVec 4) (d a b : BitVec 5) (m r : BitVec 3), s.Go g → vDst d = true →
    let mode := s.ctx.mode r
    let p := s.ctx.rv a
    let q := s.ctx.rv b
    let o := s.ctx.rv d
    let h : VReg := if mode = 6 then s.ctx.rv 27 else .zero
    let N := s.ctx.rm m.toNat
    let rnd (W e : Nat) : Nat := elem W h.val e % 65536
    let gives (i : Instr) (W : Nat) (f : Nat → FRes) : Prop := GivesFloat s i 4 (vunitPort u) d W (actW W N) f
      (fun e => maxTag [elemTag W p.tags e, elemTag W q.tags e, elemTag W h.tags e, mtag N.tags (e * W)])
    let fused (i : Instr) (W : Nat) (f : Nat → FRes) : Prop := GivesFloat s i 4 (vunitPort u) d W (actW W N) f
      (fun e => maxTag [elemTag W p.tags e, elemTag W q.tags e, elemTag W o.tags e, elemTag W h.tags e, mtag N.tags (e * W)])
    let plain (i : Instr) (f : Nat → BitVec 32) : Prop := GivesVector s i 4 (vunitPort u) d 4 (actW 4 N) f
      (fun e => maxTag [ltag p.tags e, ltag q.tags e, mtag N.tags (4 * e)]) []
    let one (i : Instr) (f : Word → Word) : Prop := GivesVector s i 4 (vunitPort u) d 4 (actW 4 N)
      (fun e => let x := lane 32 p.val e; if x.extractLsb' 23 8 = 255 ∧ x.extractLsb' 0 23 ≠ 0 then 0x7FC00000 else f x)
      (fun e => maxTag [ltag p.tags e, mtag N.tags (4 * e)]) []
    let dot (e : Nat) : FRes :=
      let v (x : Vec) (i : Nat) : Fp := bf16.decode (elem 2 x i)
      let z := Fp.dot mode [(v p.val (2 * e), v q.val (2 * e)), (v p.val (2 * e + 1), v q.val (2 * e + 1))]
        (fp32.decode (elem 4 o.val e))
      deliver fp32 false mode (rnd 4 e) z.2 z.1
    gives (.vfaddF u g d a b m r) 4 (fun e => fpAdd fp32 mode (rnd 4 e) (elem 4 p.val e) (elem 4 q.val e)) ∧
    gives (.vfsubF u g d a b m r) 4 (fun e => fpSub fp32 mode (rnd 4 e) (elem 4 p.val e) (elem 4 q.val e)) ∧
    gives (.vfmulF u g d a b m r) 4 (fun e => fpMul fp32 mode (rnd 4 e) (elem 4 p.val e) (elem 4 q.val e)) ∧
    gives (.vfaddBf u g d a b m r) 2 (fun e => fpAdd bf16 mode (rnd 2 e) (elem 2 p.val e) (elem 2 q.val e)) ∧
    gives (.vfmulBf u g d a b m r) 2 (fun e => fpMul bf16 mode (rnd 2 e) (elem 2 p.val e) (elem 2 q.val e)) ∧
    (d ≠ 31 →
      fused (.vffmaF u g d a b m r) 4 (fun e =>
        fpFma fp32 mode (rnd 4 e) (elem 4 p.val e) (elem 4 q.val e) (elem 4 o.val e)) ∧
      fused (.vffmaBf u g d a b m r) 2 (fun e =>
        fpFma bf16 mode (rnd 2 e) (elem 2 p.val e) (elem 2 q.val e) (elem 2 o.val e)) ∧
      fused (.vfdotBf u g d a b m r) 4 dot) ∧
    plain (.vfminF u g d a b m) (fun e => .ofNat 32 (fpMinMax false (elem 4 p.val e) (elem 4 q.val e))) ∧
    plain (.vfmaxF u g d a b m) (fun e => .ofNat 32 (fpMinMax true (elem 4 p.val e) (elem 4 q.val e))) ∧
    one (.vfabsF u g d a m) (fun x => x &&& 0x7FFFFFFF) ∧
    one (.vfnegF u g d a m) (fun x => x ^^^ 0x80000000)

/-- R275, R276, R281 to R288: conversions and special functions, lane by lane, with b as the stochastic source
of mode 6; and R138, R146 to R150: the rounding that these and every other floating-point instruction of the model
apply gives the representable neighbour that the mode selects, or the overflow result, with the flags. -/
def Obligations.VectorConversions : Prop :=
  ∀ (s : State) (u : VUnit) (g : BitVec 4) (d a b : BitVec 5) (m r : BitVec 3), s.Go g → vDst d = true →
    let mode := s.ctx.mode r
    let p := s.ctx.rv a
    let h : VReg := if mode = 6 then s.ctx.rv b else .zero
    let N := s.ctx.rm m.toNat
    let gives (i : Instr) (lat : Nat) (f : Nat → Nat → FRes) : Prop :=
      GivesFloat s i lat (vunitPort u) d 4 (actW 4 N) (fun e => f (elem 4 h.val e % 65536) (elem 4 p.val e))
        (fun e => maxTag [ltag p.tags e, ltag h.tags e, mtag N.tags (4 * e)])
    let narrows (i : Instr) (fm : Fmt) (sat : Bool) : Prop := gives i 4 (fun n v => fpCvt fp32 fm sat mode n v)
    let widens (i : Instr) (fm : Fmt) (k : Nat) : Prop :=
      gives i 4 (fun _ v => ⟨(fpCvt fm fp32 false 0 0 (v % 2 ^ k)).bits, 0⟩)
    let special (i : Instr) (k : Nat) : Prop := gives i 8 (fun n v => fpSpecial k mode n v)
    narrows (.vcvtBfF u g d a b m r) bf16 false ∧
    narrows (.vcvtF16F u g d a b m r) fp16 false ∧
    narrows (.vcvtE4F u g d a b m r) e4m3 false ∧
    narrows (.vcvtE5F u g d a b m r) e5m2 false ∧
    narrows (.vcvtE2F u g d a b m r) e2m1 true ∧
    narrows (.vcvtE4FSat u g d a b m r) e4m3 true ∧
    narrows (.vcvtE5FSat u g d a b m r) e5m2 true ∧
    widens (.vcvtFBf u g d a b m r) bf16 16 ∧
    widens (.vcvtFF16 u g d a b m r) fp16 16 ∧
    widens (.vcvtFE4 u g d a b m r) e4m3 8 ∧
    widens (.vcvtFE5 u g d a b m r) e5m2 8 ∧
    widens (.vcvtFE2 u g d a b m r) e2m1 4 ∧
    gives (.vcvtWF u g d a b m r) 4 (fun n v =>
      let z := fpToInt (-2147483648) 2147483647 mode n v
      ⟨(BitVec.ofInt 32 z.1).toNat, z.2⟩) ∧
    gives (.vcvtFW u g d a b m r) 4 (fun n v => intToFp mode n (BitVec.ofNat 32 v).toInt) ∧
    gives (.vcvtBF u g d a b m r) 4 (fun n v =>
      let z := fpToInt (-128) 127 mode n v
      ⟨(BitVec.ofInt 8 z.1).toNat, z.2⟩) ∧
    special (.vexp2 u g d a b m r) 0 ∧
    special (.vlog2 u g d a b m r) 1 ∧
    special (.vrcp u g d a b m r) 2 ∧
    special (.vrsqrt u g d a b m r) 3 ∧
    special (.vsqrt u g d a b m r) 4 ∧
    -- the exact value m * 2 ^ e, negative if neg, rounded to the format f
    ∀ (f : Fmt) (sat neg : Bool) (mode rand m : Nat) (e : Int), f ∈ [fp32, fp16, bf16, e4m3, e5m2, e2m1] → mode < 7 →
      let out := roundFin f sat mode rand neg m e
      -- code c stands for this many units of 2 ^ place c, the exponent range unbounded above (R138, R146)
      let units (c : Nat) : Nat := (if c / 2 ^ f.fbits = 0 then 0 else 2 ^ f.fbits) + c % 2 ^ f.fbits
      let place (c : Nat) : Int := max (c / 2 ^ f.fbits : Nat) 1 - f.bias - f.fbits
      -- the value is T units of 2 ^ k and D of U parts of one more
      let cut (k : Int) (T D U : Nat) : Prop := D < U ∧ U = 2 ^ (k - min e k).toNat ∧
        m * 2 ^ (e - min e k).toNat = T * U + D
      -- the mode selects the neighbour of larger magnitude (R146, R147)
      let up (T D U : Nat) : Prop := D ≠ 0 ∧ ((mode = 0 ∧ (U < 2 * D ∨ (U = 2 * D ∧ T % 2 = 1))) ∨
        (mode = 2 ∧ neg = true) ∨ (mode = 3 ∧ neg = false) ∨ (mode = 4 ∧ U ≤ 2 * D) ∨ (mode = 5 ∧ T % 2 = 0) ∨
        (mode = 6 ∧ 2 ^ 16 ≤ D * 2 ^ 16 / U + rand % 2 ^ 16))
      let chosen (T D U T' : Nat) : Prop := (up T D U ∧ T' = T + 1) ∨ (¬ up T D U ∧ T' = T)
      -- tiny: below the smallest normal value when rounded with the exponent unbounded below (R150)
      let tiny : Prop := ∀ T D U T', cut (e + Nat.log2 m - f.fbits) T D U → chosen T D U T' →
        let k : Int := e + Nat.log2 m - f.fbits
        let n : Int := 1 - f.bias
        T' * 2 ^ (k - min k n).toNat < 2 ^ (n - min k n).toNat
      -- the results of R149
      let toMax : Prop := sat = true ∨ f = e2m1 ∨ mode = 1 ∨ mode = 5 ∨ (mode = 2 ∧ neg = false) ∨ (mode = 3 ∧ neg = true)
      (∀ c, c ≤ f.maxBits → f.decode (f.signed neg c) = .fin neg (units c) (place c)) ∧
      (f ≠ e4m3 → f ≠ e2m1 → f.decode (f.signed neg f.infBits) = .inf neg) ∧
      (m = 0 → out = ⟨f.signed neg 0, 0⟩) ∧
      (m ≠ 0 → ∃ c D U, cut (place c) (units c) D U ∧ ∀ c', chosen (units c) D U (units c + (c' - c)) → c ≤ c' →
        (c' ≤ f.maxBits → out.bits = f.signed neg c' ∧ (D = 0 → out.flags = 0) ∧
          (D ≠ 0 → (tiny → out.flags = 3) ∧ (¬ tiny → out.flags = 1))) ∧
        (f.maxBits < c' → out.flags = 5 ∧ (toMax → out.bits = f.signed neg f.maxBits) ∧
          (¬ toMax → out.bits = if f = e4m3 then 0x7F else f.signed neg f.infBits)))

/-- R277 to R280: packing, unpacking, the shared exponent of each half, and scaling by a power of two. -/
def Obligations.VectorPackingAndScaling : Prop :=
  ∀ (s : State) (u : VUnit) (g : BitVec 4) (d a b t : BitVec 5) (m r : BitVec 3) (k : BitVec 8), s.Go g →
    vDst d = true → t.toNat < 3 →
    let mode := s.ctx.mode r
    let p := s.ctx.rv a
    let q := s.ctx.rv b
    let h : VReg := if mode = 6 then s.ctx.rv 27 else .zero
    let N := s.ctx.rm m.toNat
    -- field i of w bits of a, then of b, out of fields twice as wide; and the tag of its lane
    let field (w i : Nat) : BitVec w :=
      if i < 1024 / w then p.val.extractLsb' (i * (2 * w)) w else q.val.extractLsb' ((i - 1024 / w) * (2 * w)) w
    let its (w i : Nat) : Tag :=
      if i < 1024 / w then ltag p.tags (i * (2 * w) / 32) else ltag q.tags ((i - 1024 / w) * (2 * w) / 32)
    let W := 4 / 2 ^ t.toNat
    let half := 16 / 2 ^ t.toNat
    let unpacks (i : Instr) (off : Nat) : Prop := GivesVector s i 3 (vunitPort u) d W (actW W N)
      (fun e => (p.val.extractLsb' ((off + e) * half) half).setWidth (8 * W))
      (fun e => Tag.max (ltag p.tags ((off + e) * half / 32)) (mtag N.tags (e * W))) []
    let ex (e : Nat) : BitVec 8 := (lane 32 p.val e).extractLsb' 23 8
    let mates (e : Nat) : List Nat := (List.range 64).filter (fun i => actW 4 N i && i / 32 == e / 32)
    GivesVector s (.vpackH u g d a b m) 3 (vunitPort u) d 2 (actW 2 N) (fun e => field 16 e)
      (fun e => Tag.max (its 16 e) (mtag N.tags (2 * e))) [] ∧
    GivesVector s (.vpackB u g d a b m) 3 (vunitPort u) d 1 (actW 1 N) (fun e => field 8 e)
      (fun e => Tag.max (its 8 e) (mtag N.tags e)) [] ∧
    GivesVector s (.vpackN u g d a b m) 3 (vunitPort u) d 1 (actW 1 N) (fun e => field 4 (2 * e + 1) ++ field 4 (2 * e))
      (fun e => maxTag [its 4 (2 * e), its 4 (2 * e + 1), mtag N.tags e]) [] ∧
    unpacks (.vunpkLo u g d a t m) 0 ∧
    unpacks (.vunpkHi u g d a t m) (256 / W) ∧
    (∃ x : Nat → BitVec 8,
      (∀ e, e < 64 → actW 4 N e = true → x e ∈ (mates e).map ex ∧ ∀ i ∈ mates e, (ex i).toNat ≤ (x e).toNat) ∧
      GivesVector s (.vbexp u g d a m) 4 (vunitPort u) d 4 (actW 4 N) (fun e => (x e).setWidth 32)
        (fun e => maxTag ((mates e).map (fun i => Tag.max (ltag p.tags i) (mtag N.tags (4 * i))))) []) ∧
    GivesFloat s (.vscalb u g d a k r) 4 (vunitPort u) d 4 (fun _ => true)
      (fun e => fpScalb mode (elem 4 h.val e % 65536) (elem 4 p.val e) k.toInt)
      (fun e => Tag.max (ltag p.tags e) (ltag h.tags e))

/-! ### Slot 6 (R315 to R336) -/

/-- R330, R334: parameter halves with their tags, and the status word of `mstat`. -/
def Obligations.MatrixParameters : Prop :=
  ∀ (s : State) (g : BitVec 4) (p k : BitVec 3) (a : BitVec 6), s.Go g →
    let x := s.ctx.rs a
    let mp (c : Core) (i : Nat) : MpReg := (c.regs.mp[i]?).getD ⟨0, 0⟩
    let m := s.me.mat
    Gives s (.mparmLo g p a) 1 [(.mp p.toNat, .half false x.val x.tag)] ∧
    Gives s (.mparmHi g p a) 1 [(.mp p.toNat, .half true x.val x.tag)] ∧
    (∀ (c : Core) (hi : Bool) (j i : Nat), i < 8 →
      mp (c.putReg (.mp p.toNat) (.half hi x.val x.tag) j) i = if i ≠ p.toNat then mp c i
        else if hi then ⟨x.val ++ (mp c i).val.setWidth 32, Tag.max (mp c i).tag x.tag⟩
        else ⟨(mp c i).val.extractLsb' 32 32 ++ x.val, x.tag⟩) ∧
    (¬ s.Owns → Holds s (.mstat g k) .claim) ∧
    (s.Owns → ∃ w : Word, Gives s (.mstat g k) 2 [(.s (48 + k.toNat), .word w 0)] ∧
      w.extractLsb' 21 11 = 0 ∧ w.getLsbD 20 = s.house.alarm ∧ w.getLsbD 19 = m.act ∧
      (w.extractLsb' 16 3).toNat = m.queue.length % 8 ∧
      ∀ t, t < 8 → w.getLsbD (8 + t) = ((m.tile t).st == .dirty) ∧ w.getLsbD t = ((m.tile t).st != .uncfg))

/-- R315 to R319: an accepted command joins the unit's queue with its routine, barrier and flags, the rounding
mode and the eight parameter words; a full queue holds the bundle; the checks of R319 come in order. -/
def Obligations.MatrixCommands : Prop :=
  ∀ (s : State) (g : BitVec 4) (r : BitVec 8) (b : BitVec 7) (n : BitVec 1) (who : Word × Nat), s.Go g →
    (Instr.mcall g r b n).wf = true → s.me.run = some who → s.Owns →
    let q (swap : Bool) (c : Nat) : Cmd :=
      ⟨swap, c, b.toNat, n.toNat, s.me.ctl.fpm.toNat, 0, false, s.me.regs.mp.map (fun x => x.val), s.me.ctl.kid, who.2⟩
    let queues (i : Instr) (c : Cmd) : Prop :=
      (s.Fresh agMatrix → s.me.mat.queue.length < 3 → Acts s i 1 [] ((s.noted agMatrix).updCore s.focus
        (fun k => { k with mat := { k.mat with queue := k.mat.queue ++ [c] } }))) ∧
      (s.Fresh agMatrix → 3 ≤ s.me.mat.queue.length → Holds s i .matrixQueue)
    let c := q false r.toNat
    let t := s.me.mat.tile c.tile
    let poisoned (i : Nat) : Prop := ∃ x, s.me.regs.mp[i]? = some x ∧ x.tag ≠ 0
    let known : Prop := r.toNat < 5 ∨ 32 ≤ r.toNat ∧ ∃ k, s.running s.focus = some k ∧ r.toNat ∈ k.1.images
    let clean : Prop := ∀ i, i < 8 → ¬ poisoned i
    let idle : Prop := r.toNat < 5 ∧ (c.M = 0 ∨ c.N = 0)
    let i : Instr := .mcall g r b n
    queues (.mswap g b n) (q true 0) ∧
    (known → clean → (idle ∨ 32 ≤ r.toNat ∨ t.st ≠ .uncfg ∧ formatCode c t = 0) → queues i c) ∧
    (¬ known → Traps s i 6 0x14 0) ∧
    (∀ j, j < 8 → known → poisoned j → (∀ l, l < j → ¬ poisoned l) → Traps s i 6 0x04 (.ofNat 32 j)) ∧
    (known → clean → ¬ idle → r.toNat < 32 → t.st = .uncfg → Traps s i 6 0x09 0) ∧
    (known → clean → ¬ idle → r.toNat < 32 → t.st ≠ .uncfg → formatCode c t ≠ 0 →
      Traps s i 6 0x0A (.ofNat 32 (formatCode c t)))

/-- R331, R332: configuring, clearing and dropping a tile empties it; the checks of `tcfg` and `tzero`. -/
def Obligations.TileConfiguration : Prop :=
  ∀ (s : State) (g : BitVec 4) (t : BitVec 3) (a : BitVec 6), s.Go g → s.Canonical → s.Owns →
    s.me.mat.queue.any (fun q => q.names t.toNat) = false → (s.me.mat.tile t.toNat).st ≠ .lazy →
    let x := s.ctx.rs a
    let u := s.me.mat.tile t.toNat
    let rows := (x.val.extractLsb' 0 8).toNat + 1
    let cols := (x.val.extractLsb' 8 8).toNat + 1
    let fits : Prop := x.val.extractLsb' 19 12 = 0 ∧ (x.val.extractLsb' 16 3).toNat < 2 ∧ rows * cols ≤ 16384
    let key := tileKey s.focus t.toNat 0
    -- tile t becomes y, every byte of it 0 and every element of it sound
    let empties (i : Instr) (y : Tile) : Prop :=
      ∃ v, Acts s i 1 [] v ∧
        (∀ b, v.byte b = if key ≤ b ∧ b < key + 65536 then 0 else s.byte b) ∧
        { v with mem := s.mem } = s.updCore s.focus (fun k => { k with mat := { k.mat with
          tiles := k.mat.tiles.setIfInBounds t.toNat y
          badEls := k.mat.badEls.filter (fun e => e / 16384 != t.toNat) } })
    (x.tag = 0 → x.val = 0 → empties (.tcfg g t a) ⟨.uncfg, 0⟩) ∧
    (x.tag = 0 → x.val.getLsbD 31 = true → fits → empties (.tcfg g t a) ⟨.zero, x.val⟩) ∧
    (x.tag ≠ 0 → Traps s (.tcfg g t a) 6 0x04 0) ∧
    (x.tag = 0 → x.val ≠ 0 → ¬ (x.val.getLsbD 31 = true ∧ fits) → Traps s (.tcfg g t a) 6 0x0A x.val) ∧
    (u.st ≠ .uncfg → empties (.tzero g t) { u with st := .zero }) ∧
    (u.st = .uncfg → Traps s (.tzero g t) 6 0x09 0) ∧
    empties (.tdrop g t) ⟨.uncfg, 0⟩

/-- R333: slice moves between 64 lanes and a row or a column of a tile. -/
def Obligations.TileSlices : Prop :=
  ∀ (s : State) (g : BitVec 4) (v : BitVec 5) (t : BitVec 3) (i : BitVec 8) (e : BitVec 2), s.Go g → s.Canonical →
    vDst v = true → s.Owns →
    s.me.mat.queue.any (fun q => q.names t.toNat) = false → (s.me.mat.tile t.toNat).st ≠ .lazy →
    let p := s.ctx.rv v
    let T := t.toNat
    let u := s.me.mat.tile T
    let bad (n : Nat) : Prop := 16384 * T + n ∈ s.me.mat.badEls
    let at_ (col : Bool) (l : Nat) : Nat × Nat :=
      if col then (64 * e.toNat + l, i.toNat) else (i.toNat, 64 * e.toNat + l)
    let has (col : Bool) (l : Nat) : Prop := l < 64 ∧ (at_ col l).1 < u.rows ∧ (at_ col l).2 < u.cols
    let el (col : Bool) (l : Nat) : Nat := (at_ col l).1 * u.cols + (at_ col l).2
    let inside (col : Bool) : Prop :=
      if col then i.toNat < u.cols ∧ 64 * e.toNat < u.rows else i.toNat < u.rows ∧ 64 * e.toNat < u.cols
    let puts (j : Instr) (col : Bool) : Prop :=
      (u.st ≠ .uncfg → inside col → (∀ l, has col l → ltag p.tags l = 0) →
        ∃ w m, Acts s j 1 [] w ∧
          { w with mem := s.mem } = s.updCore s.focus (fun k => { k with mat := m }) ∧
          m = { s.me.mat with tiles := s.me.mat.tiles.setIfInBounds T { u with st := .dirty }, badEls := m.badEls } ∧
          (∀ n, n ∈ m.badEls ↔ n ∈ s.me.mat.badEls ∧ ∀ l, has col l → n ≠ 16384 * T + el col l) ∧
          (∀ l, has col l → w.tileGet s.focus T (el col l) = lane 32 p.val l) ∧
          (∀ b, (∀ l, has col l → ¬ (tileKey s.focus T (4 * el col l) ≤ b ∧ b < tileKey s.focus T (4 * el col l) + 4)) →
            w.byte b = s.byte b)) ∧
      (u.st = .uncfg → Traps s j 6 0x09 0) ∧
      (u.st ≠ .uncfg → ¬ inside col → Traps s j 6 0x0A (.ofNat 32 i.toNat)) ∧
      (u.st ≠ .uncfg → inside col → (∃ l, has col l ∧ ltag p.tags l ≠ 0) → Traps s j 6 0x04 0)
    let gets (j : Instr) (col : Bool) : Prop :=
      (u.st ≠ .uncfg → inside col → ∃ x tg, Gives s j 4 (toVector 3 v x tg (BitVec.allOnes 256)) ∧
        ∀ l, l < 64 →
          (has col l → ¬ bad (el col l) → lane 32 x l = s.tileGet s.focus T (el col l) ∧ ltag tg l = 0) ∧
          (has col l → bad (el col l) → lane 32 x l = 0 ∧ ltag tg l = 3) ∧
          (¬ has col l → lane 32 x l = 0 ∧ ltag tg l = 0)) ∧
      (u.st = .uncfg → Traps s j 6 0x09 0) ∧
      (u.st ≠ .uncfg → ¬ inside col → Traps s j 6 0x0A (.ofNat 32 i.toNat))
    puts (.trowW g v t i e) false ∧ puts (.tcolW g v t i e) true ∧
    gets (.trowR g v t i e) false ∧ gets (.tcolR g v t i e) true

/-! ### Slot 7 (R339 to R348, R369, R393 to R396) -/

/-- R342, R343, R348, R349: a push places one element of the running kernel at its endpoint, or, where a route stands,
in the skid buffer of the route; it joins the skid buffer too behind elements that are on their way to the endpoint;
it waits for room. -/
def Obligations.StreamPushes : Prop :=
  ∀ (s : State) (g : BitVec 4) (n v : BitVec 5) (a : BitVec 6) (m : BitVec 3), s.Go g → s.Fresh agSwitch →
    qIn n = true →
    let q := n.toNat
    let kid := s.me.ctl.kid
    let x := s.ctx.rs a
    let p := s.ctx.rv v
    let N := s.ctx.rm m.toNat
    let i : Instr := .spush g n a
    let j : Instr := .spushv g n v m
    let places (k : Instr) (pay : Payload) : Prop :=
      let e : Elem := ⟨kid, pay, 0, s.focus⟩
      let own : Dest := .endpoint (s.focus % 4) (q - 16)
      (s.me.routeOf q kid = none → (∀ x ∈ s.me.skid q, x.1 ≠ own) → Acts s k 1 [] ((s.noted agSwitch).updCore s.focus
        (fun k => k.setFifo q ((k.fifo q).els ++ [e])))) ∧
      (s.me.routeOf q kid = none → (∃ x ∈ s.me.skid q, x.1 = own) → Acts s k 1 [] ((s.noted agSwitch).updCore s.focus
        (fun k => { k with skids := k.skids.setIfInBounds (q - 16) (k.skid q ++ [(own, e)]) }))) ∧
      (∀ r, s.me.routeOf q kid = some r → Acts s k 1 [] ((s.noted agSwitch).updCore s.focus (fun k => { k with
        routes := k.routes.setIfInBounds (q - 16) (r.left.elim (some r) (fun l =>
          if l ≤ 1 then none else some { r with left := some (l - 1) }))
        skids := k.skids.setIfInBounds (q - 16) (k.skid q ++ [(r.dest, e)]) })))
    let poisoned : Prop := (∃ b, b < 256 ∧ N.bits.getLsbD b = true ∧ ltag p.tags (b / 4) ≠ 0) ∨ N.tags ≠ 0
    (16 ≤ q → x.tag = 0 → 0 < s.me.outRoom s.focus q kid → places i (.word x.val)) ∧
    (16 ≤ q → x.tag = 0 → s.me.outRoom s.focus q kid = 0 → Holds s i .push) ∧
    (16 ≤ q → x.tag ≠ 0 → Traps s i 7 0x04 0) ∧
    (q < 16 → Traps s i 7 0x0A (.ofNat 32 q) ∧ Traps s j 7 0x0A (.ofNat 32 q)) ∧
    (16 ≤ q → ¬ poisoned → 0 < s.me.outRoom s.focus q kid → ∃ y, places j (.vec y 0) ∧
      ∀ b, b < 256 → lane 8 y b = if N.bits.getLsbD b then lane 8 p.val b else 0) ∧
    (16 ≤ q → ¬ poisoned → s.me.outRoom s.focus q kid = 0 → Holds s j .push) ∧
    (16 ≤ q → poisoned → Traps s j 7 0x04 0)

/-- R342, R346, R348: a card address joins its card queue; a route word sets or removes the route of an
endpoint. -/
def Obligations.CardsAndRoutes : Prop :=
  ∀ (s : State) (g : BitVec 4) (n : BitVec 5) (a : BitVec 6) (w : BitVec 10), s.Go g → qIn n = true →
    let q := n.toNat
    let kid := s.me.ctl.kid
    let x := s.ctx.rs a
    let i : Instr := .scard g n a
    let j : Instr := .sroute g n a w
    let card : Prop := q = 0 ∨ q = 2 ∨ q = 4 ∨ q = 6
    let kind := (w.extractLsb' 7 2).toNat
    let core := (w.extractLsb' 5 2).toNat
    let dest : Dest := if kind = 0 then .endpoint core (w.extractLsb' 0 4).toNat else if kind = 1 then .copyPort core
      else .transposePort
    let good : Prop := if w.getLsbD 9 then kind ≠ 3 ∧ w.getLsbD 4 = false ∧ (kind ≠ 0 → w.extractLsb' 0 4 = 0) ∧
      (kind = 2 → core = 0) else w = 0
    let sets (r : Option Route) : Prop := Acts s j 1 [] ((s.noted agSwitch).updCore s.focus
      (fun k => { k with routes := k.routes.setIfInBounds (q - 16) r }))
    (card → s.Fresh (agCard q) → x.tag = 0 → 0 < s.me.room q →
      Acts s i 1 [] ((s.noted (agCard q)).updCore s.focus (fun k =>
        k.setFifo q ((k.fifo q).els ++ [⟨kid, .card (x.val &&& 0xFFFFFFC0), 0, s.focus⟩])))) ∧
    (card → s.Fresh (agCard q) → x.tag = 0 → s.me.room q = 0 → Holds s i .push) ∧
    (card → x.tag ≠ 0 → Traps s i 7 0x03 0) ∧
    (¬ card → Traps s i 7 0x0A (.ofNat 32 q)) ∧
    (16 ≤ q → good → s.Fresh agSwitch → x.tag = 0 → w.getLsbD 9 = true →
      sets (some ⟨kid, dest, if x.val = 0 then none else some x.val.toNat⟩)) ∧
    (16 ≤ q → w = 0 → s.Fresh agSwitch → x.tag = 0 → sets none) ∧
    (16 ≤ q → ¬ good → Traps s j 7 0x0A (w.setWidth 32)) ∧
    (16 ≤ q → good → x.tag ≠ 0 → Traps s j 7 0x04 0) ∧
    (q < 16 → Traps s j 7 0x0A (.ofNat 32 q))

/-- R340, R344, R345, R347, R394: a pop takes the first element of its kernel, records it and gives its value; it
waits for one; a record answers a rewound pop; `sstat` gives room and supply. -/
def Obligations.StreamPops : Prop :=
  ∀ (s : State) (g : BitVec 4) (n v : BitVec 5) (d : BitVec 6) (m : BitVec 3), s.Go g → qIn n = true → sDst d = true →
    vDst v = true →
    let q := n.toNat
    let kid := s.me.ctl.kid
    let N := s.ctx.rm m.toNat
    let takes (i : Instr) (q : Nat) (l : Writes) : Prop :=
      ∃ t, exec i s = .next t ∧ Onward s t ∧ Reaches s t (s.updCore s.focus (fun k =>
        k.setFifo q ((k.fifo q).els.eraseP (fun e => e.kid == kid)))) 2 l ∧
        t.me.seq.popsDone = s.me.seq.popsDone + if s.me.ctl.hm then 0 else 1
    let endpoint : Prop := 16 ≤ q
    let pops : Prop := q = 1 ∨ q = 3 ∨ q = 5 ∨ q = 7 ∨ q = 8 ∨ endpoint
    let scalar (i : Instr) (q : Nat) : Prop :=
      (∀ e, s.Taking → s.me.headOf q kid = some e → takes i q (toScalar 5 d e.word)) ∧
      (s.Taking → s.me.headOf q kid = none → Holds s i .pop) ∧
      (∀ r, s.me.popRecord = some r → Acts s i 2 (toScalar 5 d r.w0) s)
    (∀ e : Elem, (∀ x, e.pay = .word x → e.word = ⟨x, e.tag⟩) ∧
      ∀ x t, e.pay = .vec x t → e.word = ⟨lane 32 x 0, ltag t 0⟩) ∧
    (∀ e, s.me.headOf q kid = some e ↔ ∃ l r, (s.me.fifo q).els = l ++ e :: r ∧ e.kid = kid ∧ ∀ f ∈ l, f.kid ≠ kid) ∧
    (pops → scalar (.spop g n d) q) ∧
    (¬ pops → Traps s (.spop g n d) 7 0x0A (.ofNat 32 q)) ∧
    (s.Pinned → scalar (.swpop g d) 9) ∧
    (¬ s.Pinned → Traps s (.swpop g d) 7 0x0A 0xFFFFFFFF) ∧
    (∀ e x t, q = 8 ∨ endpoint → s.Taking → s.me.headOf q kid = some e → e.pay = .vec x t →
      ∃ y tg en, takes (.spopv g n v m) q ((dstV v).map (fun r => (r, .vec y tg en))) ∧
        Elements 1 (actW 1 N) (fun j => lane 8 x j) (fun j => Tag.max (ltag t (j / 4)) (mtag N.tags j)) y tg en) ∧
    (∀ e x, q = 8 ∨ endpoint → s.Taking → s.me.headOf q kid = some e → e.pay = .word x →
      ∃ y tg en, takes (.spopv g n v m) q ((dstV v).map (fun r => (r, .vec y tg en))) ∧
        Elements 1 (actW 1 N) (fun j => if j < 4 then x.extractLsb' (8 * j) 8 else 0)
          (fun j => Tag.max (if j < 4 then e.tag else 0) (mtag N.tags j)) y tg en) ∧
    (q = 8 ∨ endpoint → s.Taking → s.me.headOf q kid = none → Holds s (.spopv g n v m) .pop) ∧
    (¬ (q = 8 ∨ endpoint) → Traps s (.spopv g n v m) 7 0x0A (.ofNat 32 q)) ∧
    Gives s (.sstat g n d) 2 (toScalar 5 d ⟨.ofNat 32
      ((if 16 ≤ q then s.me.outRoom s.focus q kid else if q < 8 ∧ q % 2 = 0 then s.me.room q else 0) % 65536 * 65536 +
       (if 16 ≤ q ∨ 8 ≤ q ∨ q % 2 = 1 then ((s.me.fifo q).els.filter (fun e => decide (e.kid = kid))).length else 0) % 65536), 0⟩)

/-- R236, R368 to R370, R375: `sacc` and `sflush` complete: with room in the core's accumulate queue each joins it,
`sacc` with its target base, offsets, values, lanes and operation; a full queue holds them. A `sacc` with no
active lane does nothing and raises nothing; poison among the base and the active lanes' offsets traps first, then
poison among their values and mask bits. -/
def Obligations.Accumulations : Prop :=
  ∀ (s : State) (g : BitVec 4) (i v : BitVec 5) (o : BitVec 4) (m : BitVec 3) (d : BitVec 1), s.Go g → o.toNat < 7 →
    let k4 := (s.me.regs.s[52]?).getD .zero
    let k5 := (s.me.regs.s[53]?).getD .zero
    let I := s.ctx.rv i
    let V := s.ctx.rv v
    let N := s.ctx.rm m.toNat
    let act (l : Nat) : Prop := l < 64 ∧ actW 4 N l = true
    let base : Prop := k4.tag ≠ 0 ∨ k5.tag ≠ 0 ∨ ∃ l, act l ∧ ltag I.tags l ≠ 0
    let data : Prop := ∃ l, act l ∧ (ltag V.tags l ≠ 0 ∨ mtag N.tags (4 * l) ≠ 0)
    let sacc : Instr := .sacc g i v o m d
    let sflush : Instr := .sflush g
    let adds : Payload := .acc (k5.val ++ k4.val) I.val V.val N.bits o.toNat (d == 1)
    -- s with one element more in the accumulate queue of its core
    let joined (p : Payload) : State := (s.noted agAcc).updCore s.focus (fun k =>
      k.setFifo accQueue ((k.fifo accQueue).els ++ [⟨s.me.ctl.kid, p, 0, s.focus⟩]))
    -- they complete
    (s.Fresh agAcc → (∃ l, act l) → ¬ base → ¬ data → 0 < s.me.room accQueue →
      ∃ t, exec sacc s = .next t ∧ Reaches s t (joined adds) 1 [] ∧ Onward s t) ∧
    ((∀ l, ¬ act l) → ∃ t, exec sacc s = .next t ∧ Reaches s t s 1 [] ∧ Onward s t) ∧
    (s.Fresh agAcc → 0 < s.me.room accQueue →
      ∃ t, exec sflush s = .next t ∧ Reaches s t (joined .flush) 1 [] ∧ Onward s t) ∧
    -- they wait
    (s.Fresh agAcc → (∃ l, act l) → ¬ base → ¬ data → s.me.room accQueue = 0 → Holds s sacc .push) ∧
    (s.Fresh agAcc → s.me.room accQueue = 0 → Holds s sflush .push) ∧
    -- they trap
    ((∃ l, act l) → base → Traps s sacc 7 0x03 0) ∧
    (¬ base → data → Traps s sacc 7 0x04 0)

/-- R393 to R396: subscriptions, the release of a landing buffer, partials into the merge buffer, and merged
results out of it, each freeing the slot of its query unless another query holds that slot by then. -/
def Obligations.SweepAndMerge : Prop :=
  ∀ (s : State) (g : BitVec 4) (n v : BitVec 5) (a : BitVec 6) (w : BitVec 4) (m : BitVec 3), s.Go g → qIn n = true →
    vDst v = true → s.Pinned →
    let kid := s.me.ctl.kid
    let x := s.ctx.rs a
    let p := s.ctx.rv v
    let N := s.ctx.rm m.toNat
    let k2 := s.ctx.rs 50
    let k3 := s.ctx.rs 51
    let k6 := s.ctx.rs 54
    let subscribes (i : Instr) (join : Bool) : Prop :=
      (n = 9 → s.Fresh agSweep → x.tag = 0 → Acts s i 1 [] ((s.noted agSweep).updCore s.focus (fun k => { k with
        subs := k.subs ++ [⟨kid, .sub (x.val &&& 0xFFFFFFC0) w.toNat join, 0, s.focus⟩] }))) ∧
      (n = 9 → x.tag ≠ 0 → Traps s i 7 0x03 0) ∧
      (n ≠ 9 → Traps s i 7 0x0A (.ofNat 32 n.toNat))
    let damaged := k6.val.getLsbD 29
    let active (l : Nat) : Prop := l < 64 ∧ actW 4 N l = true
    let poisoned : Prop := k6.tag ≠ 0 ∨ damaged = false ∧
      (k2.tag ≠ 0 ∨ k3.tag ≠ 0 ∨ ∃ l, active l ∧ (ltag p.tags l ≠ 0 ∨ mtag N.tags (4 * l) ≠ 0))
    subscribes (.swsub g n a w) false ∧
    subscribes (.swjoin g n a w) true ∧
    (s.Fresh agSweep → x.tag = 0 → Acts s (.swdone g a) 1 [] ((s.noted agSweep).updCore s.focus (fun k => { k with
      lands := (k.lands[(x.val.extractLsb' 24 3).toNat]?).elim k.lands (fun l =>
        k.lands.setIfInBounds (x.val.extractLsb' 24 3).toNat
          (if l.refs ≤ 1 then ⟨0, 0, 0⟩ else { l with refs := l.refs - 1 })) })).closeSweeps) ∧
    (x.tag ≠ 0 → Traps s (.swdone g a) 7 0x04 0) ∧
    (s.Fresh agMerge → ¬ poisoned → 0 < s.poolFree (s.focus / 4) → ∃ o : Vec,
      (∀ l, l < 64 → lane 32 o l = if N.bits.getLsbD (4 * l) then lane 32 p.val l else 0) ∧
      Acts s (.mgpush g v m) 1 [] ((s.noted agMerge).placePartial s.focus kid k6.val
        (if damaged then none else some ⟨k2.val, k3.val, o⟩))) ∧
    (s.Fresh agMerge → ¬ poisoned → s.poolFree (s.focus / 4) = 0 → Holds s (.mgpush g v m) .push) ∧
    (poisoned → Traps s (.mgpush g v m) 7 0x04 0) ∧
    (∀ e o M L r no, s.Taking → s.me.headOf 10 kid = some e → e.pay = .merged o M L r no →
      let slot := (r.extractLsb' 20 4).toNat
      -- the query that sent the result still holds its slot
      let holds : Bool := (s.me.slot slot).any (fun q => q.no == no)
      ∃ t y tg en, exec (.mgpop g v m) s = .next t ∧ Onward s t ∧
        Reaches s t (s.updCore s.focus (fun k =>
          let k1 := k.setFifo 10 ((k.fifo 10).els.eraseP (fun e => e.kid == kid))
          if holds then k1.setSlot slot none else k1)) 2
          ((dstV v).map (fun d => (d, .vec y tg en)) ++
            [(.s 50, .word M e.tag), (.s 51, .word L e.tag), (.s 54, .word r 0)]) ∧
        Elements 1 (actW 1 N) (fun j => lane 8 o j) (fun j => Tag.max e.tag (mtag N.tags j)) y tg en) ∧
    (s.Taking → s.me.headOf 10 kid = none → Holds s (.mgpop g v m) .pop)

/-! ### Slot 0 (R57 to R70, R80, R94 to R103, R112, R155, R164 to R184, R200 to R204, R299, R300) -/

/-- R99 to R101, R166, R167, R170, R171: a taken branch leaves three delay slots before its target; one that is not
taken leaves the next bundle in place. A `call` whose link lies past a header that waits for fault service holds
(R427), which is the model's choice (log 58). -/
def Obligations.Branches : Prop :=
  ∀ (s : State) (stop : Bool) (g : BitVec 4) (o : BitVec 20) (o4 : BitVec 14) (o5 : BitVec 15) (a : BitVec 6)
    (v : BitVec 5) (m : BitVec 3), s.Go g →
    let f := s.me.seq.fetch.pos
    let on := s.nextPlace s.focus f
    let far := targetAt (f.seg + (o.extractLsb' 9 11).toInt * 16) (o.extractLsb' 0 9).toNat (posRef f)
    let near (d : Int) : Fetch := targetAt f.seg (f.idx + d) (posRef f)
    let takes (i : Instr) (l : Writes) (t : Fetch) : Prop := Turns s i l on (some (3, t, f))
    let x := s.ctx.rs a
    let M := s.ctx.rm m.toNat
    let N := s.ctx.rs 47
    takes (.br stop false g o) [] far ∧
    (s.chainWaits s.focus f 4 = none → takes (.callR stop false g o) [(.s 47, .word (s.link s.focus f) 0)] far) ∧
    (∀ seg, s.chainWaits s.focus f 4 = some seg → Asks s (.callR stop false g o) seg) ∧
    Traps s (.br true true g o) 0 0x01 0 ∧
    (x.tag = 0 → takes (.jr stop false g a) [] ⟨refPos x.val, false, 3, x.val⟩) ∧
    (x.tag ≠ 0 → Traps s (.jr stop false g a) 0 0x05 0) ∧
    (N.tag = 0 → takes (.ret stop false g) [] ⟨refPos N.val, false, 3, N.val⟩) ∧
    (N.tag ≠ 0 → Traps s (.ret stop false g) 0 0x05 0) ∧
    (x.tag ≠ 0 → takes (.chk stop false g a o4) [] (near o4.toInt)) ∧
    (x.tag = 0 → Gives s (.chk stop false g a o4) 1 []) ∧
    ((∃ l, l < 64 ∧ ltag (s.ctx.rv v).tags l ≠ 0) → takes (.chkv stop false g v o5) [] (near o5.toInt)) ∧
    ((∀ l, l < 64 → ltag (s.ctx.rv v).tags l = 0) → Gives s (.chkv stop false g v o5) 1 []) ∧
    (M.tags = 0 → (∀ j, j < 256 → M.bits.getLsbD j = true) →
      takes (.brvAll stop false g m o5) [] (near o5.toInt) ∧ Gives s (.brvNone stop false g m o5) 1 []) ∧
    (M.tags = 0 → (∀ j, j < 256 → M.bits.getLsbD j = false) →
      takes (.brvNone stop false g m o5) [] (near o5.toInt) ∧ Gives s (.brvAll stop false g m o5) 1 []) ∧
    (M.tags = 0 → (∃ j, j < 256 ∧ M.bits.getLsbD j = true) → (∃ j, j < 256 ∧ M.bits.getLsbD j = false) →
      Traps s (.brvAll stop false g m o5) 0 0x07 0 ∧ Traps s (.brvNone stop false g m o5) 0 0x07 0) ∧
    (M.tags ≠ 0 → Traps s (.brvAll stop false g m o5) 0 0x05 0 ∧ Traps s (.brvNone stop false g m o5) 0 0x05 0)

/-- R101, R103, R168, R169: a loop with count 0 goes past its body, any other arms its counter, or holds where its END
lies past a header that waits for fault service (R427), which is the model's choice (log 58); an armed loop
closes at its END; a bundle of `nop`s is skipped and counted in NULS; delay slots run out at their target. -/
def Obligations.LoopsAndDelaySlots : Prop :=
  ∀ (s : State) (stop : Bool) (g : BitVec 4) (c : BitVec 1) (a : BitVec 6) (l : BitVec 13) (n : BitVec 3) (L : LoopCtr)
    (goal past : Fetch) (at_ : Pos) (j : Nat), s.Ready → l ≠ 0 → n ≠ 0 →
    let f := s.me.seq.fetch.pos
    let on := s.nextPlace s.focus f
    let ahead (d : Nat) : Except Pos Pos := s.forward s.focus f d
    let x := s.ctx.rs a
    let i : Instr := .loopR stop false g c a l
    let nop : Instr := .nopK n g
    (∀ p, ahead (l.toNat + 1) = .ok p → past = ⟨p, false, 1, posRef p⟩) →
    (∀ p, ahead (l.toNat + 1) = .error p → past = ⟨⟨p.seg, p.idx + 1⟩, true, 1, posRef p⟩) →
    -- s with counter c armed as L, whose END is here
    let armed : State := s.updCore s.focus (fun k =>
      { k with regs := { k.regs with lc := k.regs.lc.setIfInBounds c.toNat L } })
    -- s in a delay slot of a branch at at_ to goal, with j more to come
    let slot : State := s.updCore s.focus (fun k => { k with seq := { k.seq with br := some (j, goal, at_) } })
    -- a skipped bundle of u leaves these loop counters and goes on at p
    let skips (u : State) (lc : Vector LoopCtr 2) (p : Fetch) (b : Option (Nat × Fetch × Pos)) : Prop :=
      ∃ t, exec nop u = .next t ∧ exec (.nopSlot0 stop false g) u = .next (t.updCore s.focus (fun k =>
          { k with seq := { k.seq with grpLen := if stop then 0 else u.me.seq.grpLen + 1 } })) ∧ Quiet u t ∧
        t.me.seq.pos = s.here + 1 ∧ t.me.regs = { u.me.regs with lc := lc } ∧
        t.me.ctl = u.me.ctl ∧ t.me.cnt = { u.me.cnt with nuls := u.me.cnt.nuls + 1 } ∧
        t.me.seq.fetch = p ∧ t.me.seq.br = b
    let far := if x.val = 0 then l.toNat + 1 else l.toNat
    (s.me.Guarded g → x.tag ≠ 0 → Traps s i 0 0x05 0) ∧
    (∀ seg, s.me.Guarded g → x.tag = 0 → s.chainWaits s.focus f far = some seg → Asks s i seg) ∧
    (s.me.Guarded g → x.tag = 0 → s.chainWaits s.focus f far = none → ∃ t L, exec i s = .next t ∧ Quiet s t ∧ t.me.frame s.me = s.me ∧
      t.me.seq.pos = s.here + 1 ∧ t.me.pend = [] ∧ t.me.ctl = s.me.ctl ∧
      t.me.cnt = { s.me.cnt with bndl := s.me.cnt.bndl + 1 } ∧
      t.me.seq.fetch = (if x.val = 0 then past else on) ∧ t.me.seq.br = none ∧
      t.me.regs = { s.me.regs with
        lc := s.me.regs.lc.setIfInBounds c.toNat L
        lcLast := if x.val = 0 then s.me.regs.lcLast else c.toNat } ∧
      L.cnt = x.val ∧ L.tag = 0 ∧ (L.armed = true ↔ x.val ≠ 0) ∧
      (∀ p, ahead 1 = .ok p → L.start = p) ∧ (∀ p, ahead l.toNat = .ok p → L.stop = some p) ∧
      (∀ p, ahead l.toNat = .error p → L.stop = none)) ∧
    skips s s.me.regs.lc on none ∧
    (L.armed = true → L.stop = some f → L.tag = 0 → 1 < L.cnt.toNat →
      skips armed (s.me.regs.lc.setIfInBounds c.toNat { L with cnt := L.cnt - 1 })
        ⟨L.start, false, 1, posRef f⟩ none) ∧
    (L.armed = true → L.stop = some f → L.tag = 0 → L.cnt.toNat ≤ 1 →
      skips armed (s.me.regs.lc.setIfInBounds c.toNat { L with cnt := 0, armed := false }) on none) ∧
    (L.armed = true → L.stop = some f → L.tag ≠ 0 → Traps armed nop 0 0x05 0) ∧
    (j ≤ 1 → skips slot s.me.regs.lc goal none) ∧
    (2 ≤ j → skips slot s.me.regs.lc on (some (j - 1, goal, at_)))

/-- R59, R62, R80, R94, R96, R112: an illegal form, a suspension without Q = 1, a poisoned guard, a read of a register that the issue group has
written, and an index beyond R62's bound each trap; a false guard leaves nothing; an effect that its agent has
accepted is suppressed and counted. -/
def Obligations.GuardsAndIndices : Prop :=
  ∀ (s : State) (u : SUnit) (g : BitVec 4) (d a b : BitVec 6) (o : BitVec 20) (n : BitVec 7) (r : RegId), s.Ready →
    let add : Instr := .addR u g d a b
    let br : Instr := .br true false g o
    let arr : Instr := .bararr true false g n
    let old : State := s.updCore s.focus (fun k => { k with seq := { k.seq with grpLen := 1, grpWrites := [r] } })
    let vis := (s.me.seq.predVis[g.toNat % 8]?).getD 0
    -- the guard's predicate has not changed for two positions (R103)
    let settled : Prop := g.toNat % 8 ≠ 0 ∧ (vis = 0 ∨ vis + 2 ≤ s.here)
    let nothing (j : Instr) : Prop := ∃ t, exec j s = .next t ∧ Quiet s t ∧ Onward s t ∧
      t.me.seq.pos = s.here + 1 ∧ t.me.regs = s.me.regs ∧ t.me.ctl = s.me.ctl ∧ t.me.pend = [] ∧
      (settled → t.me.cnt = { s.me.cnt with nuls := s.me.cnt.nuls + 1 }) ∧
      (¬ settled → t.me.cnt = { s.me.cnt with bndl := s.me.cnt.bndl + 1 })
    (∀ i k w, encode i = some (k, w) → i.wf = false → Traps s i k 0x01 0) ∧
    (∀ i ∈ ([.haltR true false g, .park true false g a b 0, .yield true false g, .summit true false g,
      .ropePair true false g, .ropeQuad true false g, .unrope true false g] : List Instr), Traps s i 0 0x01 0) ∧
    ((s.me.pred (g.toNat % 8)).tag ≠ 0 → add.wf = true →
      Traps s add u.slot 0x05 0 ∧ Traps s br 0 0x05 0 ∧ Traps s arr 0 0x05 0) ∧
    (s.me.GuardFalse g → add.wf = true → nothing add ∧ nothing br ∧ nothing arr) ∧
    (s.me.Guarded g → add.wf = true → r ∈ idS a ∨ r ∈ idS b ∨ r ∈ idP (g.toNat % 8) → Traps old add u.slot 0x02 0) ∧
    (s.me.Guarded g → s.me.ctl.hm = false → 65536 ≤ s.idx → Traps s arr 0 0x10 1) ∧
    (s.me.Guarded g → s.idx < 65536 → s.suppressed s.focus (barAgent n.toNat) s.idx = true →
      Acts s arr 1 [] (s.updCore s.focus (fun k => { k with cnt := { k.cnt with supp := k.cnt.supp + 1 } })))

/-- R57, R58, R60, R62, R222: a bundle with Q = 1 ends the pitch: the next bundle is the entry of a new one, in
which ports read 0 and tracking and indices start afresh; in handler mode only the ports read 0 (R300). -/
def Obligations.PitchEnds : Prop :=
  ∀ (s : State) (g : BitVec 4), s.Ready → s.me.seq.preempt = none → s.me.oldestPending = none →
    s.me.moveDue = none →
    ∃ t, exec (.nopSlot0 true true g) s = .next t ∧ Quiet s t ∧ Onward s t ∧ t.me.run = s.me.run ∧
      t.me.seq.pos = s.here + 1 ∧ t.me.pend = [] ∧
      t.me.regs = { s.me.regs with sPort := .replicate 6 ⟨0, 0⟩, vPort := .replicate 4 ⟨0, 0⟩ } ∧
      t.me.cnt = { s.me.cnt with bndl := s.me.cnt.bndl + 1 } ∧
      (s.me.ctl.hm = true → t.me.ctl = s.me.ctl ∧ t.me.seq.pser = s.me.seq.pser ∧ t.me.seq.recs = s.me.seq.recs ∧
        t.me.seq.pushIdx = s.me.seq.pushIdx ∧ t.me.spr = s.me.spr) ∧
      (s.me.ctl.hm = false → t.me.ctl = { s.me.ctl with pent := t.me.seq.fetch.pos } ∧
        t.me.seq.pser = s.me.seq.pser + 1 ∧ t.me.seq.readFirst = [] ∧ t.me.seq.written = [] ∧
        t.me.seq.dirty = false ∧ t.me.seq.recs = [] ∧ t.me.seq.pushIdx = 0 ∧ t.me.seq.pix = 0 ∧
        t.me.spr = .ofNat 32 (s.me.spc.toNat * 256 + s.me.fev.toNat * 16 + s.me.spt.toNat))

/-- R47 to R55, R64 to R68, R69, R172 to R175, R306 to R309: what a suspension makes of the running cairn, and the
bytes of memory that it writes: save area, then record, in the layouts of R307 and R47, and nothing else; a `park` on a
word that does not hold its value goes on; a waiting request is granted at a Q bundle; roping waits; in handler mode
all but `halt` are illegal. That the device keeps which loop counter was armed most recently is the model's choice
(log 51). -/
def Obligations.Suspensions : Prop :=
  ∀ (s u w : State) (k : Kernel) (q : Cairn) (g : BitVec 4) (a b : BitVec 6) (tmo : BitVec 8), s.Go g → s.Leaving u k q →
    let p := s.ctx.rs a
    let v := s.ctx.rs b
    let adr := p.val.toNat / 4 * 4
    let park : Instr := .park true true g a b tmo
    let cl := k.home q.vcl
    let matching : Prop := s.wordTag s.focus s.me.ctl.kid adr = 0 ∧ s.padRead s.focus s.me.ctl.kid adr 4 = v.val.toNat
    -- what the device keeps of a cairn that leaves: its rope, and the loop counter armed most recently (R169), which
    -- R307 gives no place in the save area: that it is kept is the model's choice (log 51)
    let kept (q : Cairn) : Cairn := { q with ropew := 0, lcLast := s.me.regs.lcLast }
    -- the core as its save describes it: the pitch has ended, and the next one begins at the next bundle
    let K : Core := { s.me with
      ctl := { s.me.ctl with pent := (s.nextPlace s.focus s.me.seq.fetch.pos).pos }
      seq := { s.me.seq with pser := s.me.seq.pser + 1, recs := [] } }
    -- in t the save area, if the suspension writes it, and the record hold the cairn, and in their mirror copies too
    -- where their pages are belayed; every other byte of the module is as x has it
    let written (x t : State) (save : Bool) (code : CState) (f : BitVec 512 → BitVec 512) : Prop :=
      ∀ (j pa j' pa' : Nat) (bly bly' : Bool), j < 8 → j' < 8 → pa + 0x3550 ≤ 2 ^ 36 → pa' + 64 ≤ 2 ^ 36 →
      let A := hbmKey j pa
      let B := hbmKey j' pa'
      let span (e base n : Nat) : Prop := base ≤ e ∧ e < base + n
      let inside (e : Nat) : Prop := (save = true ∧ (span e A 0x3550 ∨ (bly = true ∧ span e (mirrorKey j pa) 0x3550))) ∨
        span e B 64 ∨ (bly' = true ∧ span e (mirrorKey j' pa') 64)
      A + 0x3550 ≤ B ∨ B + 64 ≤ A →
      -- the tables that translate them lie elsewhere
      (∀ (y : State) m b, y = { x with mem := m, bad := b } → (∀ e, ¬ inside e → y.byte e = x.byte e) →
        (save = true → ∀ i, i < 0x3550 → y.locate (k.req (q.save + i) 2 s.focus) = .at (.hbm j (pa + i) bly)) ∧
        ∀ i, i < 64 → y.locate (k.req (k.recVa q.ix + i) 2 (noCore k.pn)) = .at (.hbm j' (pa' + i) bly')) →
      let area := K.saveBytes s.focus q.ix 0
      let record := bytesLE 64 (recSeal (f (K.recordNow code))).toNat
      (save = true → t.peek A 0x3550 = area ∧ (bly = true → x.mirrorUp = true → t.peek (mirrorKey j pa) 0x3550 = area)) ∧
      t.peek B 64 = record ∧ (bly' = true → x.mirrorUp = true → t.peek (mirrorKey j' pa') 64 = record) ∧
      ∀ e, ¬ inside e → t.byte e = x.byte e
    -- a READY cairn joins a queue; an earlier entry of its kernel there takes a link to it (R52)
    let ready (i : Instr) : Prop := ∃ t,
      exec i s = .next t ∧ Leaves s u t k q (fun q =>
        { kept q with st := .ready, only := none, since := u.cycle, level := 0, sum := false }) ∧
      (cl < 64 → (t.cluster cl).runq = (u.cluster cl).runq ++ [(k.kid, q.ix)]) ∧
      ((∀ e ∈ (u.cluster cl).runq, e.1 ≠ k.kid) → u.Canonical → written u t true .ready id)
    let stays (i : Instr) (kernels : List Kernel) (h : Option Hold) : Prop := ∃ t, exec i s = .next t ∧
      t.me.run = s.me.run ∧ t.me.seq.hold = h ∧ t.kernels = kernels ∧ Onward s t ∧
      t.me.seq.pos = s.here + 1 ∧ (s.me.ctl.hm = false → t.me.ctl = { s.me.ctl with pent := t.me.seq.fetch.pos }) ∧
      (∀ d, d ≠ s.focus → t.core d = s.core d) ∧ t.mem = s.mem
    (s.openRecords [s.focus] = .ready w → w.cores = s.cores → w.running s.focus = some (k, q) →
      ∃ t, exec (.haltR true true g) s = .next t ∧ Leaves s w t k q (fun q => { q with st := .done }) ∧
        (s.me.ctl.hm = false → w.Canonical → written w t false .done id)) ∧
    (s.me.ctl.hm = false →
      ready (.yield true true g) ∧
      (s.me.seq.preempt.isSome = true → ready (.nopSlot0 true true g)) ∧
      (∃ t, exec (.summit true true g) s = .next t ∧
        Leaves s u t k q (fun q => { kept q with st := .parked, sum := true }) ∧
        (u.Canonical → written u t true .parked (fun r => recPut r 261 1 1))) ∧
      (p.tag = 0 → v.tag = 0 → s.ctx.canRead adr = true → matching → ∃ t l, exec park s = .next t ∧
        Leaves s u t k q (fun q => { kept q with st := .parked }) ∧
        t.monitors = l ++ [⟨k.kid, q.ix, s.focus, adr / 64, u.cycle, tmo.toNat, false⟩] ∧
        (u.Canonical → written u t true .parked (fun r => recPut (recPut (recPut (recPut r 192 32
          (s.focus % 4 * 2 ^ 26 + adr / 64 % 2 ^ 20 * 64)) 224 32 v.val.toNat) 264 8 tmo.toNat) 262 1 0))) ∧
      (s.me.seq.preempt = none → p.tag = 0 → v.tag = 0 → s.ctx.canRead adr = true → ¬ matching →
        stays park s.kernels none) ∧
      (s.me.seq.preempt = none → p.tag = 0 → v.tag ≠ 0 → s.ctx.canRead adr = true → stays park s.kernels none) ∧
      (p.tag ≠ 0 → Traps s park 0 0x03 0) ∧
      (p.tag = 0 → s.ctx.canRead adr = false → Traps s park 0 0x08 (.ofNat 32 adr)) ∧
      (s.me.seq.preempt = none → s.running s.focus = some (k, q) → 4 ≤ q.pin →
        stays (.ropePair true true g) (s.updCairn k.kid q.ix (fun q => { q with ropeWait := some 0 })).kernels
          (some (.rope 0)) ∧
        stays (.ropeQuad true true g) (s.updCairn k.kid q.ix (fun q => { q with ropeWait := some 1 })).kernels
          (some (.rope 1))) ∧
      (s.running s.focus = some (k, q) → q.pin < 4 →
        Traps s (.ropePair true true g) 0 0x12 1 ∧ Traps s (.ropeQuad true true g) 0 0x12 1)) ∧
    (s.me.seq.preempt = none → s.me.ctl.hm = false → ∃ t, exec (.unrope true true g) s = .next t ∧ Quiet s t ∧
      Onward s t ∧ t.me.run = s.me.run ∧ t.me.ctl = { s.me.ctl with pent := t.me.seq.fetch.pos, ropeW := 0, lead := 0 }) ∧
    (s.me.ctl.hm = true → ∀ i ∈ ([.yield true true g, .summit true true g, park, .ropePair true true g,
      .ropeQuad true true g, .unrope true true g] : List Instr), Traps s i 0 0x01 0) ∧
    -- the layout of the save area (R307, R308)
    (∀ (K : Core) (c cix pix : Nat), K.seq.recs.length ≤ 16 → cix < 2 ^ 32 → pix < 2 ^ 32 →
      let L := K.saveBytes c cix pix
      let n (o len : Nat) : Nat := ofBytesLE ((L.drop o).take len)
      let W (o : Nat) : Nat := n o 4
      let r := K.regs
      L.length = 0x3550 ∧ W 0 = 1 ∧ W 4 = cix ∧ W 8 = K.seq.pser.toNat ∧ W 0xC = pix ∧
      W 0x10 = K.ctl.fpm.toNat ∧ W 0x14 = K.ctl.fpf.toNat ∧
      W 0x18 = (if K.ctl.hm then 2 ^ 31 else 0) + K.ctl.trc.toNat ∧ W 0x1C = K.ctl.trb.toNat ∧
      W 0x20 = K.ctl.trm.toNat ∧ W 0x24 = K.ctl.tra.toNat ∧ W 0x28 = K.ctl.hndl.toNat ∧ W 0x2C = K.ctl.bvn.toNat ∧
      W 0x30 = K.ctl.maxp.toNat ∧ W 0x34 = (if (r.lc[0]).armed then 1 else 0) + (if (r.lc[1]).armed then 2 else 0) ∧
      W 0x38 = 0 ∧ W 0x3C = (crc32c (L.take 0x3C ++ L.drop 0x40)).toNat ∧
      (∀ i (_ : i < 2), W (0x40 + 8 * i) = (posRef (r.lc[i]).start).toNat ∧
        ∀ p, (r.lc[i]).stop = some p → W (0x44 + 8 * i) = (posRef p).toNat) ∧
      (∀ i (_ : i < 56), W (0x80 + 4 * i) = (r.s[i]).val.toNat ∧ nbits (n 0x160 16) (2 * i) 2 = (r.s[i]).tag.toNat) ∧
      (∀ i (_ : i < 8), nbits (n 0x170 16) (2 * i) 2 = (r.p[i]).tag.toNat) ∧
      (∀ i (_ : i < 8), n (0x180 + 8 * i) 8 = (r.mp[i]).val.toNat ∧ nbits (W 0x1C0) (2 * i) 2 = (r.mp[i]).tag.toNat) ∧
      (∀ i (_ : i < 2), nbits (W 0x1C0) (16 + 2 * i) 2 = (r.lc[i]).tag.toNat) ∧
      (∀ i (_ : i < 7), n (0x200 + 32 * i) 32 = (r.m[i + 1]).bits.toNat ∧ n (0x300 + 64 * i) 64 = (r.m[i + 1]).tags.toNat) ∧
      (∀ i (_ : i < 28), n (0x500 + 16 * i) 16 = (r.v[i]).tags.toNat ∧ n (0x700 + 256 * i) 256 = (r.v[i]).val.toNat) ∧
      W 0x2440 = K.seq.recs.length ∧
      ∀ e (_ : e < K.seq.recs.length), (L.drop (0x2450 + 272 * e)).take 272 = (K.seq.recs[e]).bytes) ∧
    -- the fields of a record and its tag (R47 to R53)
    (∀ (K : Core) (code : CState),
      let r := K.recordNow code
      let pent := posAddr K.ctl.pent % 2 ^ 64
      recField r 0 64 = pent ∧ recField r 64 64 = pent ∧ recField r 128 64 = recField K.recd 128 64 ∧
      recField r 256 3 = code.code ∧ recField r 261 2 = 0 ∧ recField r 315 2 = K.ctl.ropeW.toNat ∧
      (∀ i (_ : i < 8), nbits (recField r 320 8) i 1 = if i = 0 ∨ (K.regs.p[i]).val = true then 1 else 0) ∧
      recField r 336 16 = K.seq.pser.toNat ∧ recField r 352 32 = (K.regs.lc[0]).cnt.toNat ∧
      recField r 384 32 = (K.regs.lc[1]).cnt.toNat ∧ recField r 416 32 = 0xFFFFFFFF) ∧
    ∀ r, recTagOk (recSeal r) = true ∧ recField (recSeal r) 0 480 = recField r 0 480

/-- R165, R176 to R179, R181, R183: barriers are set, arrived at, tested and waited for; `drain` holds its bundle while
a remote operation is outstanding, and holds nothing where none is (that it holds in two parts is the model's: log 60);
`sys` posts a service request of 16 bytes; `rfdefer` asks for a deferral of refresh. -/
def Obligations.BarriersAndRequests : Prop :=
  ∀ (s : State) (stop : Bool) (g : BitVec 4) (n : BitVec 7) (p : BitVec 3) (a : BitVec 6) (x : BitVec 3) (c : BitVec 16),
    s.Go g → x.toNat < 5 →
    let v := s.ctx.rs a
    let kid := s.me.ctl.kid
    let ag := barAgent n.toNat
    let b := s.bar s.focus n.toNat
    let P := s.part (s.corePart s.focus)
    let full : Prop := (P.srprod - P.srcons).toNat = 2 ^ P.srLog
    let place := s.ringPlace (s.corePart s.focus) P.srbase P.srLog 16 P.srprod
    let ix := (s.me.run.map (fun e => e.2)).getD 0
    let sets (y : Barrier) : State := (s.noted ag).setBar s.focus n.toNat y
    (∀ (t : State) (y : Barrier), t.focus < 256 →
      (t.setBar t.focus n.toNat y).bar t.focus n.toNat = y ∧
      ∀ i, i < 128 → i ≠ n.toNat → (t.setBar t.focus n.toNat y).bar t.focus i = t.bar t.focus i) ∧
    (v.tag = 0 → s.Fresh ag → Acts s (.barset stop false g n a) 1 [] (sets ⟨v.val.extractLsb' 0 16, kid⟩)) ∧
    (v.tag ≠ 0 → Traps s (.barset stop false g n a) 0 0x04 0) ∧
    (s.Fresh ag → kid = b.own → b.cnt ≠ 0 → Acts s (.bararr stop false g n) 1 [] (sets { b with cnt := b.cnt - 1 })) ∧
    (s.Fresh ag → kid ≠ b.own ∨ b.cnt = 0 → Acts s (.bararr stop false g n) 1 [] ((s.noted ag).updCore s.focus
      (fun k => { k with cnt := { k.cnt with barz := k.cnt.barz + 1 } }))) ∧
    (b.own = kid → b.cnt = 0 → Gives s (.barwait stop false g n) 1 [] ∧
      Gives s (.bartest stop false g n p) 1 (toPred p true 0)) ∧
    (¬ (b.own = kid ∧ b.cnt = 0) → Holds s (.barwait stop false g n) .barwait ∧
      Gives s (.bartest stop false g n p) 1 (toPred p false 0)) ∧
    (s.drainHolds s.focus x.toNat = false → Gives s (.drain stop false g x) 1 []) ∧
    (s.drainHolds s.focus x.toNat = true → Holds s (.drain stop false g x) (.drain x.toNat false)) ∧
    (s.Fresh agRing → P.srEn = false → Acts s (.sys stop false g c) 1 [] (s.noted agRing)) ∧
    (∀ y, s.Fresh agRing → P.srEn = true → ¬ full → place = some y →
      Acts s (.sys stop false g c) 1 [] (((s.noted agRing).placeWrite 0 y
        (bytesLE 4 c.toNat ++ bytesLE 4 kid.toNat ++ bytesLE 4 ix ++ bytesLE 4 (s.modNum.toNat * 256 + s.focus))).updPart
          (s.corePart s.focus) (fun P => { P with
            srprod := P.srprod + 1
            msix := P.msix.setIfInBounds 1 ((P.msix[1]?).getD 0 + 1) }))) ∧
    (s.Fresh agRing → P.srEn = true → full ∨ place = none → Holds s (.sys stop false g c) .sys) ∧
    (v.tag ≠ 0 → Gives s (.rfdefer stop false g a) 1 []) ∧
    (v.tag = 0 → Acts s (.rfdefer stop false g a) 1 [] (s.updCore s.focus (fun k =>
      { k with deferTo := s.cycle + min (v.val.toNat % 65536) (s.deferLeft s.me) * 1000000 })))

/-- R182, R200 to R204: what a `cread` of each control register gives. -/
def Obligations.ControlRegisterReads : Prop :=
  ∀ (s : State) (stop : Bool) (g : BitVec 4) (d : BitVec 6) (r : BitVec 12), s.Go g → sDst d = true →
    let k := s.me
    let x := k.ctl
    let m := k.margin
    let i (r : BitVec 12) : Instr := .cread stop false g d r
    let into (v : Word) (t : Tag) : Writes := (dstS d).map (fun q => (q, .word v t))
    let is (r : BitVec 12) (v : Word) : Prop := Gives s (i r) 1 (into v 0)
    let num (r : BitVec 12) (v : Nat) : Prop := is r (.ofNat 32 v)
    let now := k.seq.firstCycle.getD s.cycle
    let cych (v : Option Word) : State := s.updCore s.focus (fun k => { k with seq := { k.seq with cych := v } })
    let bit (b : Bool) (n : Nat) : Nat := if b then 2 ^ n else 0
    num 0x00 (s.modNum.toNat * 256 + s.focus) ∧ num 0x01 s.focus ∧ is 0x02 x.kid ∧ num 0x03 x.asid.toNat ∧
    num 0x04 x.vcl.toNat ∧ num 0x05 x.role.toNat ∧ num 0x06 (x.lead.toNat * 4 + x.ropeW.toNat) ∧
    Acts s (i 0x08) 1 (into (.ofNat 32 now) 0) (cych (some (.ofNat 32 (now / 2 ^ 32)))) ∧
    Acts s (i 0x09) 1 (into (k.seq.cych.getD (.ofNat 32 (now / 2 ^ 32))) 0) (cych none) ∧
    num 0x10 x.fpm.toNat ∧ num 0x11 x.fpf.toNat ∧
    Gives s (i 0x20) 1 (into (k.lcOf 0).cnt (k.lcOf 0).tag) ∧ Gives s (i 0x21) 1 (into (k.lcOf 1).cnt (k.lcOf 1).tag) ∧
    is 0x22 (posRef x.pent) ∧ num 0x23 (bit x.hm 31 + x.trc.toNat) ∧ is 0x24 x.trb ∧ num 0x25 x.trm.toNat ∧
    is 0x26 x.tra ∧ is 0x27 x.hndl ∧ num 0x28 x.bvn.toNat ∧ is 0x29 x.maxp ∧ is 0x2A (s.cluster (s.focus / 4)).age ∧
    (∀ n q, n < 8 → k.regions[n]? = some q →
      num (.ofNat 12 (0x40 + 2 * n)) (if q.own = x.kid then q.base.toNat * 64 else 0) ∧
      num (.ofNat 12 (0x41 + 2 * n)) (if q.own = x.kid then
        q.swz.toNat * 2 ^ 30 + bit q.v 29 + bit q.rd 28 + bit q.wr 27 + bit q.ew 26 + q.limit.toNat * 64 else 0)) ∧
    num 0x50 (s.deferNow k * 65536 + k.refreshMask) ∧ num 0x51 (s.deferCap * 65536 + s.deferLeft k) ∧ is 0x52 k.spr ∧
    num 0x60 (bit m.sub 8 + m.floor.toNat) ∧ num 0x61 (m.gua.toNat * 65536 + m.cur.toNat) ∧ num 0x62 m.lim.toNat ∧
    is 0x63 m.rpw ∧ num 0x64 m.thr.toNat ∧ num 0x65 (m.win.toNat * 65536 + m.esc.toNat) ∧
    num 0x66 (m.hard.toNat * 65536 + m.strk.toNat * 16 + bit m.pend 1 + bit m.quar 0) ∧
    (s.Owns → num 0x80 (s.mstWord k)) ∧ (¬ s.Owns → Holds s (i 0x80) .claim) ∧
    num 0xA0 (s.vatFree (s.focus / 4) * 65536 + (s.cluster (s.focus / 4)).grow * 256 + (s.cluster (s.focus / 4)).exh) ∧
    is 0xC0 k.cnt.bndl ∧ is 0xC1 k.cnt.nuls ∧ is 0xC2 k.cnt.rply ∧ is 0xC3 k.cnt.bivc ∧ is 0xC4 k.cnt.rwnd ∧
    is 0xC5 k.cnt.istl ∧ is 0xC6 k.cnt.barz ∧ is 0xC7 k.cnt.lstl ∧ is 0xC8 k.cnt.pick ∧ is 0xC9 k.cnt.supp ∧
    is 0xCA k.cnt.sysq ∧ (0xCB ≤ r.toNat → r.toNat ≤ 0xFF → is r 0) ∧
    (cregAssigned r.toNat = false → Traps s (i r) 0 0x0C 0)

/-- R182, R200 to R210, R296, R335: what a `cwrite` of each control register changes. That a write of RPW
begins a window and keeps WIN and STRK is the model's choice (log 74). -/
def Obligations.ControlRegisterWrites : Prop :=
  ∀ (s : State) (stop : Bool) (g : BitVec 4) (a : BitVec 6) (r : BitVec 12), s.Go g →
    let y := s.ctx.rs a
    let v := y.val
    let i (r : BitVec 12) : Instr := .cwrite stop false g r a
    let does (r : BitVec 12) (u : State) : Prop := Acts s (i r) 1 [] u
    let core (r : BitVec 12) (f : Core → Core) : Prop := does r (s.updCore s.focus f)
    let ctl (r : BitVec 12) (f : Ctl → Ctl) : Prop := core r (fun k => { k with ctl := f k.ctl })
    let count (r : BitVec 12) (f : Counters → Counters) : Prop := core r (fun k => { k with cnt := f k.cnt })
    let margin (r : BitVec 12) (f : Margin → Margin) : Prop := core r (fun k => { k with margin := f k.margin })
    let gua := s.me.margin.gua
    let low8 : BitVec 8 := v.extractLsb' 0 8
    -- CUR becomes w; a rise holds issue while the supply settles (R294)
    let sets (w : BitVec 8) (k : Core) : Core := { k with
      margin := { k.margin with cur := w }
      seq := if k.margin.cur < w then { k.seq with hold := some .supply, holdSince := s.cycle } else k.seq }
    -- the region pair as its owner sees it (R208)
    let mine (q : Region) : Region :=
      if q.own = s.me.ctl.kid then q else ⟨0, 0, false, false, false, false, 0, s.me.ctl.kid⟩
    let region (r : BitVec 12) (n : Nat) (f : Region → Region) : Prop := ∀ q, s.me.regions[n]? = some q →
      core r (fun k => { k with regions := k.regions.setIfInBounds n (f (mine q)) })
    (y.tag = 0 →
      Gives s (i 0x10) 1 [(.fpm, .word v 0)] ∧ Gives s (i 0x11) 1 [(.fpf, .word v 0)] ∧
      Gives s (i 0x20) 1 [(.lc 0, .word v 0)] ∧ Gives s (i 0x21) 1 [(.lc 1, .word v 0)] ∧
      ctl 0x23 (fun x => { x with trc := v.extractLsb' 0 16 }) ∧ ctl 0x24 (fun x => { x with trb := v }) ∧
      ctl 0x25 (fun x => { x with trm := low8 }) ∧ ctl 0x26 (fun x => { x with tra := v }) ∧
      ctl 0x27 (fun x => { x with hndl := v }) ∧ ctl 0x28 (fun x => { x with bvn := low8 }) ∧
      ctl 0x29 (fun x => { x with maxp := v }) ∧
      does 0x2A (s.updCluster (s.focus / 4) (fun q => { q with age := v })) ∧
      (∀ n, n < 8 →
        region (.ofNat 12 (0x40 + 2 * n)) n (fun q => { q with base := v.extractLsb' 6 20 }) ∧
        region (.ofNat 12 (0x41 + 2 * n)) n (fun q => ⟨q.base, if v.extractLsb' 30 2 = 3 then 0 else v.extractLsb' 30 2,
          v.getLsbD 29, v.getLsbD 28, v.getLsbD 27, v.getLsbD 26, v.extractLsb' 6 20, q.own⟩)) ∧
      core 0x60 (fun k =>
        let k1 := { k with margin := { k.margin with sub := v.getLsbD 8, floor := low8 } }
        if v.getLsbD 8 then k1 else sets gua k1) ∧
      (s.me.margin.sub = true → core 0x61 (sets (if gua < low8 then gua else low8))) ∧
      (s.me.margin.sub = false → does 0x61 s) ∧
      margin 0x62 (fun x => { x with lim := low8 }) ∧
      margin 0x63 (fun x => { x with rpw := v, winStart := s.cycle }) ∧
      margin 0x64 (fun x => { x with thr := v.extractLsb' 0 16 }) ∧
      (s.Owns → core 0x80 (fun k => { k with mat := { k.mat with mst := low8 &&& 0xDF } })) ∧
      (¬ s.Owns → Holds s (i 0x80) .claim) ∧
      -- its own bundle is counted before the write: BNDL reads v at the next position
      count 0xC0 (fun x => { x with bndl := v - 1 }) ∧ count 0xC1 (fun x => { x with nuls := v }) ∧
      count 0xC2 (fun x => { x with rply := v }) ∧ count 0xC3 (fun x => { x with bivc := v }) ∧
      count 0xC4 (fun x => { x with rwnd := v }) ∧ count 0xC5 (fun x => { x with istl := v }) ∧
      count 0xC6 (fun x => { x with barz := v }) ∧ count 0xC7 (fun x => { x with lstl := v }) ∧
      count 0xC8 (fun x => { x with pick := v }) ∧ count 0xC9 (fun x => { x with supp := v }) ∧
      count 0xCA (fun x => { x with sysq := v }) ∧
      (r ∈ ([0, 1, 2, 3, 4, 5, 6, 8, 9, 0x22, 0x50, 0x51, 0x52, 0x65, 0x66, 0xA0] : List (BitVec 12)) ∨
        0xCB ≤ r.toNat ∧ r.toNat ≤ 0xFF → does r s)) ∧
    (cregAssigned r.toNat = true → y.tag ≠ 0 → Traps s (i r) 0 0x04 0) ∧
    (cregAssigned r.toNat = false → Traps s (i r) 0 0x0C 0) ∧
    (cregAssigned r.toNat = true ↔ r.toNat ≤ 6 ∨ r = 8 ∨ r = 9 ∨ r = 0x10 ∨ r = 0x11 ∨
      0x20 ≤ r.toNat ∧ r.toNat ≤ 0x2A ∨ 0x40 ≤ r.toNat ∧ r.toNat ≤ 0x52 ∨ 0x60 ≤ r.toNat ∧ r.toNat ≤ 0x66 ∨
      r = 0x80 ∨ r = 0xA0 ∨ 0xC0 ≤ r.toNat ∧ r.toNat ≤ 0xFF)

/-- R63, R180, R184, R204, R299 to R301: `trap` delivers TRAP_INSTR: the save, the trap registers, handler mode and the
handler's place, or the kernel's failure where no handler stands; a delivery whose rewind is not refused counts in
RWND, which is the model's reading (log 21), and TRA is 0 where both grounds of a refusal hold, which is another
(log 20); in handler mode the kernel fails with DOUBLE_FAULT; `tret` rewinds to the pitch entry, and a rewind that is
refused is a fault in handler mode; `tret.at` begins a pitch at its target. -/
def Obligations.TrapsAndReturns : Prop :=
  ∀ (s u : State) (k : Kernel) (q : Cairn) (stop : Bool) (g : BitVec 4) (a : BitVec 6) (c : BitVec 16), s.Go g →
    k.outcome = none →
    let trap : Instr := .trapR stop false g c
    let tret : Instr := .tret stop false g
    let x := s.ctx.rs a
    let h := s.me.ctl.hndl
    let still (r : Regs) : Regs := { r with sPort := .replicate 6 ⟨0, 0⟩, vPort := .replicate 4 ⟨0, 0⟩ }
    let opened : Prop := u.cores = s.cores ∧ u.running s.focus = some (k, q)
    let trapped : State := u.updCairn k.kid q.ix (fun q => { q with st := .trapped, ropeWait := none })
    let delivers (code : Nat) (tra n : Word) : Prop :=
      (h ≠ 0xFFFFFFFF → ∃ t, exec trap s = .next t ∧ t.me.run = s.me.run ∧ t.me.regs = still s.me.regs ∧
        t.me.ctl = { s.me.ctl with
          trc := .ofNat 16 code
          trb := posRef s.me.seq.fetch.pos
          trm := 1
          tra := tra
          hm := true } ∧
        t.me.seq.fetch = ⟨refPos h, false, 3, h⟩ ∧ t.me.seq.br = none ∧ t.me.seq.pos = s.here ∧
        t.me.cnt = { s.me.cnt with rwnd := s.me.cnt.rwnd + n } ∧
        (∀ d, d ≠ s.focus → t.core d = s.core d) ∧ t.kernels = trapped.kernels) ∧
      (h = 0xFFFFFFFF → ∃ t, exec trap s = .next t ∧ t.me.run = none ∧
        t.kernels = (trapped.updKernel k.kid
          (fun k => { k with outcome := some (.ofNat 32 (0x10000 + code)) })).kernels)
    let returns (i : Instr) (f : Fetch) (p : Pos) (n : Word) (more : Seq → Prop) : Prop :=
      ∃ t, exec i s = .next t ∧ t.me.run = s.me.run ∧ t.me.regs = still s.me.regs ∧
        t.me.ctl = { s.me.ctl with hm := false, pent := p } ∧ t.me.seq.fetch = f ∧ t.me.seq.br = none ∧
        t.me.seq.pushIdx = 0 ∧ t.me.seq.popsDone = 0 ∧ t.me.seq.readFirst = [] ∧ t.me.seq.written = [] ∧ more t.me.seq ∧
        t.me.cnt = { s.me.cnt with bndl := s.me.cnt.bndl + 1, rwnd := s.me.cnt.rwnd + n } ∧
        (∀ d, d ≠ s.focus → t.core d = s.core d) ∧
        t.kernels = (s.updCairn k.kid q.ix (fun q => { q with st := .running })).kernels
    (s.me.ctl.hm = false →
      (s.openSaves [s.focus] = .ready u → opened →
        (s.me.seq.dirty = false → s.me.seq.popsOver = false → delivers 0x0D (c.setWidth 32) 1) ∧
        (s.me.seq.dirty = true → delivers 0x10 0 0) ∧
        (s.me.seq.dirty = false → s.me.seq.popsOver = true → delivers 0x10 2 0)) ∧
      Traps s trap 0 0x0D (c.setWidth 32) ∧
      Traps s tret 0 0x01 0 ∧ Traps s (.tretAt stop false g a) 0 0x01 0) ∧
    (s.me.ctl.hm = true →
      (s.openRecords [s.focus] = .ready u → opened → ∃ t, exec trap s = .next t ∧ t.me.run = none ∧
        t.kernels = (u.updKernel k.kid (fun k => { k with outcome := some 5 })).kernels) ∧
      (s.running s.focus = some (k, q) → s.me.seq.preempt = none → s.me.refusal = none →
        returns tret ⟨s.me.ctl.pent, false, 0, posRef s.me.ctl.pent⟩ s.me.ctl.pent 1
          (fun r => r.pser = s.me.seq.pser ∧ r.recs = s.me.seq.recs)) ∧
      (s.me.seq.preempt = none → s.me.refusal ≠ none →
        ∃ v, exec tret s = .next (v.doubleFault [s.focus] 0x10) ∧ Reaches s v s 1 []) ∧
      (s.running s.focus = some (k, q) → s.me.seq.preempt = none → x.tag = 0 →
        returns (.tretAt stop false g a) ⟨refPos x.val, false, 3, x.val⟩ (refPos x.val) 0
          (fun r => r.pser = s.me.seq.pser + 1 ∧ r.recs = [])) ∧
      (x.tag ≠ 0 → Traps s (.tretAt stop false g a) 0 0x05 0))

/-! ### Steps beside the instructions of a bundle -/

/-- R97, R98, R103, R169, R177, R179, R181, R230, R315, R327, R343, R344, R392: a bundle at its place issues; one that
waited commits once what it waited for is there, and its cycles of waiting are counted (R204). -/
def Obligations.WaitingBundlesIssue : Prop :=
  ∀ (s : State) (w : Nat) (g : BitVec 4) (d a b : BitVec 6) (n q : BitVec 5) (e : BitVec 3) (m : BitVec 3) (bar : BitVec 7)
    (c : BitVec 16) (ns : BitVec 1) (h : Hold) (scope : Nat) (inQ : Bool), s.me.Guarded g →
    let f := s.focus
    let kid := s.me.ctl.kid
    let waited : Word := .ofNat 32 (s.cycle - s.me.seq.holdSince)
    let x := s.ctx.rs a
    let vis := (s.me.seq.predVis[g.toNat % 8]?).getD 0
    let B := s.bar f bar.toNat
    let N := s.ctx.rm m.toNat
    let sa := s.ctx.rs (n.zeroExtend 6)
    let sd := s.ctx.rs (q.zeroExtend 6)
    let from_ (j : Nat) : Nat := if e.toNat = 0 then (j + 15) % 16 else (j + 1) % 16
    let src := sa.val.toNat - sa.val.toNat % 256
    let dst := sd.val.toNat - sd.val.toNat % 256
    (s.Facing none 1 w (.addR .a g d a b) → Commits s (.bundleIssue f) (.addR .a g d a b)) ∧
    (s.Facing none 1 w (.addR .a (g ^^^ 8) d a b) → g.toNat % 8 ≠ 0 → vis = 0 ∨ vis + 2 ≤ s.here →
      Yields s (.bundleSkip f) (fun t => t.me.seq.pos = s.here + 1 ∧ t.me.regs = s.me.regs ∧
        t.me.cnt = { s.me.cnt with nuls := s.me.cnt.nuls + 1 })) ∧
    (∀ (i : Nat) (L : LoopCtr), i < 2 → s.Facing none 1 0 (.nopK 1 0) → L.armed = true → L.tag = 0 →
      L.stop = some s.me.seq.fetch.pos → 1 < L.cnt.toNat →
      let u := s.updCore f (fun k => { k with regs := { k.regs with lc := k.regs.lc.setIfInBounds i L } })
      Yields u (.loopClose f) (fun t => t.me.seq.fetch.pos = L.start ∧
        t.me.regs.lc = s.me.regs.lc.setIfInBounds i { L with cnt := L.cnt - 1 })) ∧
    (s.Facing (some .pop) 7 w (.spop g n a) → 16 ≤ n.toNat → s.Taking → (s.me.headOf n.toNat kid).isSome = true →
      Commits s (.popRelease f) (.spop g n a) ∧
      Yields s (.popRelease f) (fun t => t.me.cnt.istl = s.me.cnt.istl + waited)) ∧
    (s.Facing (some .push) 7 w (.spush g n a) → 16 ≤ n.toNat → s.Fresh agSwitch → x.tag = 0 →
      0 < s.me.outRoom s.focus n.toNat kid → Commits s (.pushRoom f) (.spush g n a)) ∧
    (s.Facing (some .barwait) 0 w (.barwait true false g bar) → B.own = kid → B.cnt = 0 →
      Commits s (.barwaitRelease f) (.barwait true false g bar) ∧
      Yields s (.barwaitRelease f) (fun t => t.me.cnt.istl = s.me.cnt.istl + waited)) ∧
    (s.me.seq.hold = some (.drain scope inQ) → f < 256 → s.me.run.isSome = true → s.me.seq.preempt = none →
      s.drainHolds f scope = false → inQ = false ∨ s.me.moveDue = none →
      Yields s (.drainRelease f) (fun t => t = s.updCore f (fun k => { k with
        cnt := { k.cnt with istl := k.cnt.istl + waited }
        seq := { k.seq with hold := none } }))) ∧
    (s.Facing (some .sys) 0 w (.sys true false g c) → s.Fresh agRing → s.sysFull f = false →
      Commits s (.sysRingRoom f) (.sys true false g c) ∧
      Yields s (.sysRingRoom f) (fun t => t.me.cnt.sysq = s.me.cnt.sysq + waited)) ∧
    (s.Facing (some .matrixQueue) 6 w (.mswap g bar ns) → s.Fresh agMatrix → s.Owns → s.me.mat.queue.length < 3 →
      Commits s (.matrixQueueRoom f) (.mswap g bar ns)) ∧
    (∀ t, h = .tile t → s.Facing (some h) 6 w (.tzero g e) → s.Owns →
      s.me.mat.queue.any (fun q => q.names e.toNat) = false →
      (s.me.mat.tile e.toNat).st ≠ .lazy → (s.me.mat.tile e.toNat).st ≠ .uncfg →
      Commits s (.tileHoldRelease f) (.tzero g e)) ∧
    (s.Facing (some .tsh) 3 w (.tsh g q n e 1 m) → e.toNat < 2 → sa.tag = 0 → sd.tag = 0 →
      (∀ j, j < 256 → mtag N.tags j = 0) →
      (∀ j, j < 256 → actW 1 N j = true → s.me.readable kid (src + 16 * from_ (j / 16)) = true ∧
        s.me.writable kid (dst + j / 16 * 16) = true ∧ s.wordTag f kid (src + 16 * from_ (j / 16)) ≠ 2) →
      Commits s (.tshSourceRelease f) (.tsh g q n e 1 m)) ∧
    (s.Facing (some .push) 7 w (.mgpush g n m) → s.Fresh agMerge → s.Pinned → (s.ctx.rs 54).tag = 0 →
      (s.ctx.rs 54).val.getLsbD 29 = true → 0 < s.poolFree (f / 4) →
      Commits s (.poolEntryFree f) (.mgpush g n m))

/-- R65 to R67, R70, R73, R118, R119, R306: expansion of the segment that issue waits for, the closing of a pair, the
bivouac, the granting or overrun of a request to leave; a roped pair runs one stream on the registers of each member,
takes a fault of one member in both, and traps where a decision differs. That both members go on at the leader's place
and take it for PENT is the model's reading (log 29), and that the device keeps which loop counter was armed last is
its choice (log 51). -/
def Obligations.SequencerEvents : Prop :=
  (∀ (s u : State) (c : Nat) (n : Kernel) (q : Cairn), c < 256 → (s.core c).ctl.ropeW = 0 →
    let k := s.core c
    let open_ : Prop := s.openSaves [c] = .ready u ∧ u.cores = s.cores ∧ u.running c = some (n, q)
    let becomes (t : State) (f : Cairn → Cairn) : Prop := t.kernels = (u.updCairn n.kid q.ix f).kernels
    let kept (x : Cairn) : Cairn := { x with ropew := 0, lcLast := k.regs.lcLast }
    let ready (x : Cairn) : Cairn :=
      { kept x with st := .ready, only := none, since := u.cycle, level := 0, sum := false }
    (∀ (seg : Nat) (v : State) (h : Half), s.running c = some (n, q) → s.wantedSeg c = some seg →
      s.expand n c seg = .ok v h → v.cores = s.cores → seg = k.seq.fetch.pos.seg →
      Yields s (.segmentExpand c) (fun t => (t.core c).resident seg = some h ∧ (t.core c).seq.fetch = k.seq.fetch ∧
        (k.seq.hold = some .expand → (t.core c).seq.hold = none ∧
          (t.core c).cnt = { k.cnt with lstl := k.cnt.lstl + .ofNat 32 (v.cycle - k.seq.holdSince) }) ∧
        ∀ d, d ≠ c → t.core d = s.core d)) ∧
    (∀ (seg : Nat) (v : State), s.running c = some (n, q) → s.wantedSeg c = some seg → s.expand n c seg = .fail v →
      seg = k.seq.fetch.pos.seg → v.kernel n.kid = some n → n.outcome = none →
      Yields s (.segmentExpand c) (fun t =>
        t.kernels = (v.updKernel n.kid (fun x => { x with outcome := some 3 })).kernels)) ∧
    (∀ (line val : Nat), s.mayIssue [c] = true → k.seq.hold = none → k.ripe = true → k.seq.watch.load = some (line, val) → open_ →
      Yields s (.bivouac c) (fun t => (t.core c).run = none ∧ becomes t (fun x => { kept x with st := .parked }) ∧
        (t.core c).cnt = { k.cnt with rwnd := k.cnt.rwnd + 1, bivc := k.cnt.bivc + 1 } ∧
        ∃ l, t.monitors = l ++ [⟨n.kid, q.ix, c, line % 2 ^ 20, u.cycle, 0x80, false⟩])) ∧
    (s.grantable c = true → open_ → Yields s (.preemptGrant c) (fun t => (t.core c).run = none ∧ becomes t ready)) ∧
    (∀ t0, k.run.isSome = true → k.seq.preempt = some t0 → k.ctl.maxp ≠ 0 → k.seq.overrun = false →
      k.seq.owes = none → k.owesClaim = false → k.seq.hold ≠ some .claim → (∀ g, k.seq.hold ≠ some (.towerMove g)) → s.grantable c = false → t0 + 4 * k.ctl.maxp.toNat ≤ s.cycle →
      k.ctl.hm = false →
      exec (.preemptOverrun c) s = .next ((s.updCore c (fun x => { x with seq := { x.seq with overrun := true } })).deliver
        [c] (posRef k.seq.fetch.pos) (fun d => ⟨0x13, 0, if d = c then 1 else 0⟩))) ∧
    (∀ (r : Cairn), c % 2 = 0 → (∀ d, d / 4 = c / 4 → (s.core d).seq.owes = none) → k.moveDue = none →
      (s.core (c + 1)).moveDue = none → s.running c = some (n, q) → s.running (c + 1) = some (n, r) →
      n.cairns.find? (fun x => x.vcl == q.vcl && x.pin == 4 + c % 4) = some q →
      n.cairns.find? (fun x => x.vcl == q.vcl && x.pin == 4 + (c % 4 + 1)) = some r →
      q.st = .running → r.st = .running → k.seq.hold = some (.rope 0) → (s.core (c + 1)).seq.hold = some (.rope 0) →
      Yields s (.ropeClose c) (fun t => ∀ d, d = c ∨ d = c + 1 →
        (t.core d).seq.hold = none ∧ (t.core d).seq.fetch = k.seq.fetch ∧
        (t.core d).ctl = { (s.core d).ctl with ropeW := 1, lead := .ofNat 2 (c % 4), pent := k.seq.fetch.pos } ∧
        (t.core d).regs = (s.core d).regs))) ∧
  ∀ (s : State) (c : Nat) (g : BitVec 4) (u : SUnit) (d a b : BitVec 6) (o : BitVec 14) (stop : Bool), s.Paired c g →
    (Instr.addR u g d a b).wf = true →
    let x (k : Nat) : SReg := (s.ctxOf k).rs a
    let y (k : Nat) : SReg := (s.ctxOf k).rs b
    let cmpt : Instr := .cmpt u g a b
    let chk : Instr := .chk stop false g a o
    -- the members k, one of which is j and the other i
    let pair (j i : Nat) : Prop := j = c ∧ i = c + 1 ∨ j = c + 1 ∧ i = c
    PairGives s c (.addR u g d a b) 1
      (fun k => toScalar (unitPort u) d ⟨(x k).val + (y k).val, Tag.max (x k).tag (y k).tag⟩) ∧
    (x c = y c → x (c + 1) = y (c + 1) → PairGives s c cmpt 1 (fun _ => [])) ∧
    (∀ j i, pair j i → x j ≠ y j → x i = y i → ∃ f,
      exec cmpt s = .next (s.deliver [c, c + 1] (posRef (s.core c).seq.fetch.pos) f) ∧
      f j = ⟨0x06, (x j).val, 2 ^ u.slot⟩ ∧ (f i).code = 0x06 ∧ (f i).mask = 0) ∧
    (∀ j i, pair j i → (x j).tag ≠ 0 → (x i).tag = 0 → PairTraps s c chk (fun _ => ⟨0x12, 0, 1⟩)) ∧
    ((x c).tag = 0 → (x (c + 1)).tag = 0 → PairGives s c chk 1 (fun _ => []))

/-- R290 to R304: replays and their limit, escalation below the guard voltage, the core that cannot be trusted any
more, the window's end, quarantine, rewinds after soft errors, and registers that an upset strikes. That an upset of
TRC ends handler mode (log 30), that the window counts with RPW = 0 too (log 33), and that the device keeps which loop
counter was armed last (log 51) are the model's choices. -/
def Obligations.MarginEvents : Prop :=
  ∀ (s u : State) (c : Nat) (n : Kernel) (q : Cairn) (i : Nat), c < 256 →
    let k := s.core c
    let m := k.margin
    let alone : Prop := k.ctl.ropeW = 0
    let does (row : Instr) (f : Core → Core) : Prop := exec row s = .next (s.updCore c f)
    -- s in which the bundle that is due has issued a first time (R115, R290)
    let issued := s.noteFirst c
    let replays (f : Core → Core) : Prop := exec (.timingEvent c) s = .next (issued.updCore c f)
    let struck (t : UpsetTarget) (f : Regs → Regs) : Prop :=
      does (.controlRegisterUpset c t) (fun k => { k with regs := f k.regs })
    let upset (r : Nat) (f : Ctl → Ctl) : Prop := does (.controlRegisterUpset c (.creg r)) (fun k => { k with
      ctl := f k.ctl
      seq := { k.seq with upset := some r } })
    let win : BitVec 16 := if m.win = 65535 then 65535 else m.win + 1
    let esc : BitVec 16 := if m.esc = 65535 then 65535 else m.esc + 1
    let first : Option Nat := some (k.seq.firstCycle.getD s.cycle)
    let ended : Prop := m.rpw ≠ 0 ∧ m.winStart + max 1024 m.rpw.toNat ≤ s.cycle
    let above : Prop := m.thr < m.win
    let low := if m.gua < m.floor then m.gua else m.floor
    (alone → k.run.isSome = true → s.blocked c = false → k.seq.replays < m.lim.toNat → ¬ (m.rpw ≠ 0 ∧ m.thr < win ∧ m.cur < m.gua) →
      replays (fun k => { k with
        cnt := { k.cnt with rply := k.cnt.rply + 1 }
        seq := { k.seq with replays := k.seq.replays + 1, firstCycle := first }
        margin := { m with win := win } })) ∧
    (alone → k.run.isSome = true → s.blocked c = false → k.seq.hold = none → m.lim.toNat ≤ k.seq.replays → m.cur < m.gua →
      m.rpw = 0 →
      replays (fun k => { k with
        cnt := { k.cnt with rply := k.cnt.rply + 1 }
        seq := { k.seq with replays := 0, firstCycle := first, hold := some .supply, holdSince := s.cycle }
        margin := { m with cur := m.cur + 1, esc := esc, win := win } })) ∧
    -- the first issue gives the results that a replay gives again
    (alone → (s.due c = none → issued = s) ∧ ∀ b, s.due c = some b → k.seq.first = none →
      let l := State.judge { s with lit := b.lit } c b
      holdsOf true l = [] → issued = s.updCore c (fun k => { k with seq := { k.seq with first := some (resultsOf l) } })) ∧
    (alone → k.run.isSome = true → s.blocked c = false → m.lim.toNat ≤ k.seq.replays → ¬ m.cur < m.gua → k.ctl.hm = false →
      k.refusal = none → issued.openSaves [c] = .ready u → u.cores = issued.cores → u.running c = some (n, q) →
      Yields s (.timingEvent c) (fun t => (t.core c).run = none ∧
        (t.core c).margin = { m with
          win := win
          hard := if m.hard = 255 then 255 else m.hard + 1
          quar := true
          pend := false } ∧
        t.kernels = (u.updCairn n.kid q.ix (fun x =>
          { x with st := .ready, only := none, since := u.cycle, level := 0, sum := false, ropew := 0,
                   lcLast := k.regs.lcLast })).kernels)) ∧
    (k.seq.hold = some .supply → does (.supplySettled c) (fun k => { k with seq := { k.seq with hold := none } })) ∧
    (ended → ¬ (above ∧ m.strk = 3) → does (.marginWindowEnd c) (fun k => { k with margin := { m with
      strk := if m.thr < m.win then (if m.strk = 15 then 15 else m.strk + 1) else 0
      cur := if m.win = 0 ∧ m.sub = true ∧ low < m.cur then m.cur - 1 else m.cur
      win := 0
      winStart := s.cycle } })) ∧
    (alone → ended → above → m.strk = 3 → m.quar = false → m.pend = false → k.run.isSome = true →
      Yields s (.marginWindowEnd c) (fun t => (t.core c).margin.strk = 4 ∧ (t.core c).margin.pend = true ∧
        (t.core c).seq.preempt.isSome = true)) ∧
    (m.pend = true → k.run = none →
      (∀ n ∈ s.kernels, n.inPhase = true → (s.quarantineNow c).stuckKernel n.kid = false) →
      does (.quarantine c) (fun k => { k with margin := { m with quar := true, pend := false } })) ∧
    (alone → k.run.isSome = true → k.ctl.hm = false → k.refusal = none → k.seq.hold = none →
      Yields s (.softError c) (fun t => (t.core c).run = k.run ∧ (t.core c).pend = [] ∧
        (t.core c).seq.fetch = ⟨k.ctl.pent, false, 0, posRef k.ctl.pent⟩ ∧
        (t.core c).regs = { k.regs with sPort := .replicate 6 ⟨0, 0⟩, vPort := .replicate 4 ⟨0, 0⟩ } ∧
        (t.core c).cnt = { k.cnt with rwnd := k.cnt.rwnd + 1 } ∧ (t.core c).ctl = k.ctl ∧
        ∀ d, d ≠ c → t.core d = s.core d)) ∧
    struck (.scalar i) (fun r => { r with s := r.s.setIfInBounds i ⟨0, 3⟩ }) ∧
    struck (.vector i) (fun r => { r with v := r.v.setIfInBounds i ⟨0, BitVec.allOnes 128⟩ }) ∧
    (i ≠ 0 → struck (.pred i) (fun r => { r with p := r.p.setIfInBounds i ⟨false, 3⟩ }) ∧
      struck (.mask i) (fun r => { r with m := r.m.setIfInBounds i ⟨0, BitVec.allOnes 512⟩ })) ∧
    struck (.mparam i) (fun r => { r with mp := r.mp.setIfInBounds i ⟨0, 3⟩ }) ∧
    struck (.loopCtr i) (fun r => { r with lc := r.lc.setIfInBounds i { k.lcOf i with cnt := 0, tag := 3 } }) ∧
    (k.run.isSome = true → k.seq.upset = none →
      upset 0x10 (fun x => { x with fpm := 0 }) ∧ upset 0x11 (fun x => { x with fpf := 0 }) ∧
      upset 0x23 (fun x => { x with trc := 0, hm := false }) ∧ upset 0x24 (fun x => { x with trb := 0 }) ∧
      upset 0x25 (fun x => { x with trm := 0 }) ∧ upset 0x26 (fun x => { x with tra := 0 }) ∧
      upset 0x28 (fun x => { x with bvn := 8 }) ∧ upset 0x29 (fun x => { x with maxp := 65536 }))

/-- R28, R29, R215, R218 to R222, R311: columns and towers are replaced by spares until none is left; passes of refresh
become pending, start, end, and are forced; a stored word that fails reads as uncorrectable. That the interval between
passes counts from the end of the last one (log 65), that SPC is counted anew when a tower moves (log 31), and that one
capacity LEFT runs down for all towers of a core (log 32) are the model's choices. -/
def Obligations.TowerEvents : Prop :=
  ∀ (s : State) (c g bus col : Nat) (T : Tower), c < 256 → g < 16 → bus < 3 → (s.core c).towers[g]? = some T →
    let k := s.core c
    let with_ (t : Tower) (k : Core) : Core := { k with towers := k.towers.setIfInBounds g t }
    let does (row : Instr) (f : Core → Core) : Prop := exec row s = .next (s.updCore c f)
    let fev : BitVec 4 := if k.fev = 15 then 15 else k.fev + 1
    let busy : Prop := ∃ (i : Nat) (t : Tower), k.towers[i]? = some t ∧ t.running.isSome = true
    let other : Prop := ∃ (i : Nat) (t : Tower), i ≠ g ∧ k.towers[i]? = some t ∧ t.pendSince.isSome = true
    let fails := Instr.verticalWireFailure c g bus col
    -- some other tower has a pass pending or running; some other tower waits for a spare
    let due : Prop := ∃ (i : Nat) (t : Tower), i ≠ g ∧ k.towers[i]? = some t ∧
      (t.pendSince.isSome = true ∨ t.running.isSome = true)
    let waits : Prop := ∃ (i : Nat) (t : Tower), i ≠ g ∧ k.towers[i]? = some t ∧ t.moving ≠ []
    let starts (t : State) : Prop := (t.core c).towers = k.towers.setIfInBounds g
      { T with pendSince := none, running := some s.cycle } ∧ (t.core c).leftSince = k.leftSince
    (∀ p, T.phys = some p →
      let l := k.colsOf p
      let cols := k.cols.setIfInBounds p (l ++ [⟨bus, col, (l.filter (fun e => e.bus == bus)).length⟩])
      (columnsLeft l bus ≠ 0 → does fails (fun k => { k with
        cols := cols
        fev := fev
        spc := .ofNat 8 (Core.spareVias { k with cols := cols }) })) ∧
      (columnsLeft l bus = 0 → k.spareTowers ≠ [] → bus ≠ 2 →
        does fails (with_ { T with moving := T.moving ++ [(bus, col)] })) ∧
      (columnsLeft l bus = 0 → k.spareTowers = [] → k.run = none → k.margin.quar = false → k.margin.pend = false →
        does fails (fun k => { with_ { T with dead := T.dead ++ (T.moving ++ [(bus, col)]), moving := [] } k with
          margin := { k.margin with quar := true, pend := false } }))) ∧
    (T.phys = none → Yields s fails (fun t => t = s)) ∧
    (∀ p l, k.spareTowers = p :: l → l ≠ [] ∨ ¬ waits → T.moving ≠ [] → k.run = none → k.seq.hold = none →
      Yields s (.towerMove c g) (fun t =>
        (t.core c).towers = k.towers.setIfInBounds g { T with phys := some p, moving := [], dead := [] } ∧
        (t.core c).spareTowers = l ∧ (t.core c).spt = .ofNat 2 l.length ∧ (t.core c).fev = fev ∧
        (t.core c).spc = .ofNat 8 (t.core c).spareVias ∧ (t.core c).cols = k.cols ∧
        ∀ d, d ≠ c → t.core d = s.core d)) ∧
    -- with the last spare gone, what still waited for one is lost (R311 step 4)
    (∀ p, k.spareTowers = [p] → waits → T.moving ≠ [] → k.run = none → k.seq.hold = none → k.margin.pend = false →
      Yields s (.towerMove c g) (fun t => (t.core c).spareTowers = [] ∧ (t.core c).margin.quar = true ∧
        ∀ (i : Nat) (x : Tower), i ≠ g → k.towers[i]? = some x →
          (t.core c).towers[i]? = some { x with dead := x.dead ++ x.moving, moving := [] })) ∧
    (T.pendSince = none → T.running = none → T.lastPass + s.refreshInterval ≤ s.cycle →
      does (.refreshPending c g) (fun k => { with_ { T with pendSince := some s.cycle } k with
        leftSince := some (k.leftSince.getD (s.cycle, s.deferCap)) })) ∧
    (s.refreshInterval = if s.house.temp = .hot then 8000000000 else 16000000000) ∧
    (s.deferCap = if s.house.temp = .cool then 32000 else if s.house.temp = .warm then 8000 else 0) ∧
    (T.pendSince.isSome = true → ¬ busy → s.deferNow k = 0 → Yields s (.refreshPassStart c g) starts) ∧
    (T.pendSince.isSome = true → ¬ busy → s.deferNow k = 0 → ¬ other → Yields s (.deferralExpiry c) starts) ∧
    (∀ r, k.run = none → k.leftSince = some r → T.pendSince.isSome = true → ¬ busy → s.deferLeft k = 0 → ¬ other →
      Yields s (.forcedPass c) (fun t => starts t ∧ (t.core c).deferTo = s.cycle)) ∧
    (∀ v, T.running = some v → v + 2000000 ≤ s.cycle →
      let ended := with_ { T with running := none, lastPass := s.cycle }
      (due ∨ T.pendSince.isSome = true → does (.refreshPassEnd c g) ended) ∧
      (¬ due → T.pendSince = none →
        does (.refreshPassEnd c g) (fun k => { ended k with leftSince := none }))) ∧
    (∀ b, Yields s (.temperatureChange b) (fun t => t.house = { s.house with temp := b } ∧ t.mem = s.mem ∧
      ∀ d x, d < 256 → (s.core d).leftSince = some x →
        (t.core d).leftSince = some (x.1, min x.2 (t.deferCap + (s.cycle - x.1) / 1000000)))) ∧
    (∀ a, a < 2 ^ 26 → Yields s (.doubleBitError (.tower c a)) (fun t => t.isBad (towerKey c a) = true ∧ t.mem = s.mem ∧
      ∀ b, b / 16 ≠ towerKey c a / 16 → t.isBad b = s.isBad b)) ∧
    (∀ j a, j < 8 → a < 2 ^ 36 → Yields s (.doubleBitError (.hbm j a)) (fun t => t.isBad (hbmKey j a) = true)) ∧
    (∀ r, r < 256 → Yields s (.doubleBitError (.bankRow c 1 r)) (fun t => 256 + r ∈ (t.core c).mat.badRows))

/-- R44, R45, R51, R54 to R56, R71, R72, R201, R203, R310, R407, R410, R411: cairns wake, rise in priority and are picked
up; phases start, or fail with their records copied into the array. That the device gives back which loop counter was
armed last (log 51), and that a pickup counts as writing the core's towers (log 12), are the model's choices. -/
def Obligations.CairnEvents : Prop :=
  ∀ (s u : State) (n : Kernel) (q : Cairn) (c : Nat), c < 256 → s.kernel n.kid = some n →
    n.outcome = none →
    let kid := n.kid.toNat
    let cl := n.home q.vcl
    let rec_ := [(n.recVa q.ix, 2, 64)]
    let of_ (ix : Nat) (m : Monitor) : Bool := m.kid == n.kid && m.cix == ix
    let mine := of_ q.ix
    let wakes (only : Option Nat) (t : State) : Prop :=
      t.kernels = (u.updCairn n.kid q.ix (fun x =>
        { x with st := .ready, only := only, since := u.cycle, level := 0, sum := false })).kernels ∧
      (∀ m ∈ t.monitors, mine m = false) ∧ (t.cluster cl).runq = (u.cluster cl).runq ++ [(n.kid, q.ix)]
    -- every member of the rope that is parked wakes, each on the core whose line it watches
    let wakeRope (t : State) : Prop := ∀ x ∈ n.ropeOf q, ∀ m, s.monitors.find? (of_ x.ix) = some m →
      ∃ y, (t.kernel n.kid).bind (fun k => k.cairn x.ix) = some y ∧ y.st = .ready ∧ y.only = some m.core
    let ends (x : State) (o : Word) (t : State) : Prop :=
      t.kernels = (x.updKernel n.kid (fun k => { k with outcome := some o })).kernels
    let age := (s.cluster cl).age.toNat
    let known : Prop := n.cairn q.ix = some q ∧ n.home q.vcl < 64
    -- waking
    (∀ m, known → s.monitors.find? mine = some m →
      let late : Prop := m.tmo ≠ 0 ∧ m.since + (8 + m.tmo % 8) * 2 ^ (m.tmo / 8) ≤ s.cycle
      (q.ropew = 0 → s.openAll n.asid kid (noCore n.pn) (.kernel n.kid) rec_ = .ready u →
        (m.hit = true → Yields s (.parkWake kid q.ix) (wakes (some m.core))) ∧
        (late → Yields s (.parkTimeout kid q.ix) (wakes (some m.core)))) ∧
      (∀ v, State.openCairns n (((n.ropeOf q).filter (fun x => s.monitors.any (of_ x.ix))).map (·.ix)) s = .ready v →
        v.kernels = s.kernels →
        (m.hit = true → Yields s (.parkWake kid q.ix) wakeRope) ∧ (late → Yields s (.parkTimeout kid q.ix) wakeRope))) ∧
    (known → q.st = .ready → age ≠ 0 → q.pri + q.level < 3 → q.since + age * (q.level + 1) ≤ s.cycle →
      Yields s (.priorityAging kid q.ix) (fun t =>
        t = s.updCairn n.kid q.ix (fun x => { x with level := x.level + 1 }))) ∧
    -- pickup
    (∀ (r : BitVec 512) (save : Option (List Byte)), known → s.choice c = some (n, q) → q.ropew = 0 →
      s.readCairn c n q.ix = .ok u r save → u.cores = s.cores →
      Yields s (.cairnPickup c kid q.ix) (fun t =>
        let k := t.core c
        let w (l : List Byte) (o : Nat) : Word := .ofNat 32 (ofBytesLE ((l.drop o).take 4))
        k.run = some (n.kid, q.ix) ∧ k.pend = [] ∧
        k.seq.fetch = ⟨addrPos (recField r 0 64), false, 0, posRef (addrPos (recField r 0 64))⟩ ∧
        k.regs.lcLast = q.lcLast ∧
        k.cnt = { (s.core c).cnt with pick := (s.core c).cnt.pick + 1 } ∧
        k.ctl.kid = n.kid ∧ k.ctl.asid = .ofNat 13 (recField r 288 13) ∧ k.ctl.vcl = .ofNat 10 (recField r 305 10) ∧
        k.ctl.role = .ofNat 4 (recField r 301 4) ∧ k.ctl.pent = addrPos (recField r 64 64) ∧
        (∀ i : Fin 8, (k.regs.p[i]).val = nbit (recField r 320 8) i.val) ∧
        (∀ i : Fin 2, (k.regs.lc[i]).cnt = .ofNat 32 (recField r (352 + 32 * i.val) 32)) ∧
        (save = none → k.regs.s = .replicate 56 ⟨0, 0⟩ ∧ k.regs.v = .replicate 28 ⟨0, 0⟩ ∧
          k.ctl.hndl = n.handler ∧ k.ctl.bvn = 8 ∧ k.ctl.maxp = 65536 ∧ k.ctl.hm = false ∧ k.ctl.trc = 0 ∧
          k.ctl.fpm = 0 ∧ k.ctl.fpf = 0) ∧
        (∀ l, save = some l → (∀ i : Fin 56, (k.regs.s[i]).val = w l (0x80 + 4 * i.val)) ∧
          k.ctl.hndl = w l 0x28 ∧ k.ctl.maxp = w l 0x30 ∧ k.ctl.tra = w l 0x24 ∧ k.ctl.hm = (w l 0x18).getLsbD 31) ∧
        -- the record as read governs the run (R54)
        t.kernels = ((u.noteWrote n.kid (some (256 + c))).updCairn n.kid q.ix (fun x => { x with
          pri := recField r 259 2
          pin := recField r 317 3
          vcl := recField r 305 10
          role := recField r 301 4
          save := recField r 128 64
          st := .running
          only := none
          level := 0 })).kernels ∧ t.recHeld n q.ix = r)) ∧
    -- phases
    (∀ (a b : State) (pl l : List Byte), n.again = [] → n.started = false → s.fetchObj (.kernel n.kid) n (n.plst + 4 * n.phase) 4 = .ok a pl →
      a.fetchObj (.kernel n.kid) n n.stab (32 * n.nsched) = .ok b l →
      (pickSched (ofBytesLE pl) (schedTable n.nsched n.nmax l) = none → Yields s (.phaseStart kid) (ends s 1)) ∧
      (∀ (d v : State) (e : Sched) (f : List Nat) (rl : List Byte),
        pickSched (ofBytesLE pl) (schedTable n.nsched n.nmax l) = some e → e.ok = true → b.bindable n = some f →
        b.bindsNext n = true → b.fetchObj (.kernel n.kid) n e.tmpl (64 * e.ncairn) = .ok d rl →
        d.openAll n.asid kid (noCore n.pn) (.kernel n.kid) [(n.carr, 2, 64 * e.ncairn)] = .ready v →
        let recs := (List.range e.ncairn).map (fun i => BitVec.ofNat 512 (ofBytesLE ((rl.drop (64 * i)).take 64)))
        -- the records stand in the kernel's array before they are checked
        let copied := v.vwrite (n.req n.carr 2 (noCore n.pn)) rl
        (recs.all (recordOk e.v) = false ∨ pinClash recs = true →
          Yields s (.phaseStart kid) (fun t => ends s 2 t ∧ t.mem = copied.mem)) ∧
        (recs.all (recordOk e.v) = true → pinClash recs = false →
          copied.openAll n.asid kid (noCore n.pn) (.kernel n.kid) (recs.map (fun r => (recField r 128 64, 2, 4))) = .ready u →
          Yields s (.phaseStart kid) (fun t => ∃ k, t.kernel n.kid = some k ∧ k.started = true ∧ k.waits = false ∧
            k.v = e.v ∧ k.handler = .ofNat 32 e.handler ∧ k.phase = n.phase ∧ k.cairns.length = e.ncairn ∧
            (∀ v, v < e.v → k.home v = f.getD (v % f.length) 0) ∧
            ∀ x ∈ k.cairns, x.st = .ready ∧ x.ropew = 0 ∧ x.level = 0 ∧ x.since = s.cycle))))

/-- R51, R69, R241, R411 to R413, R416, R417, R448: summits open, kernels complete, run again or fail with a lost unit, and
a partition is reset. That accepted work which is not complete stays over a partition reset (log 42), that registers and
control registers read 0 after it (log 1), and what the repair flow writes (log 55) are the model's choices. -/
def Obligations.KernelEvents : Prop :=
  ∀ (s u : State) (n : Kernel) (q : Cairn) (c pn : Nat), c < 256 → pn < 8 →
    let known : Prop := s.kernel n.kid = some n ∧ n.cairn q.ix = some q ∧ n.outcome = none ∧ n.home q.vcl < 64
    let kid := n.kid.toNat
    let cl := n.home q.vcl
    let rec_ := [(n.recVa q.ix, 2, 64)]
    let mine (m : Monitor) : Bool := m.kid == n.kid && m.cix == q.ix
    let wakes (only : Option Nat) (t : State) : Prop :=
      t.kernels = (u.updCairn n.kid q.ix (fun x =>
        { x with st := .ready, only := only, since := u.cycle, level := 0, sum := false })).kernels ∧
      (∀ m ∈ t.monitors, mine m = false) ∧ (t.cluster cl).runq = (u.cluster cl).runq ++ [(n.kid, q.ix)]
    let finished : Prop := n.started = true ∧ (∀ x ∈ n.cairns, x.st = .done) ∧ n.nphase ≤ n.phase + 1
    let req (va access : Nat) : WalkRequest := ⟨va, n.asid, access, 0, noCore n.pn⟩
    -- summits
    (known → (∃ x ∈ n.cairns, x.st ≠ .done ∧ ¬ (x.st = .parked ∧ x.sum = true)) →
      Yields s (.summitExchange kid) (fun t => t = s)) ∧
    (∀ v, known → n.cairns.filter (fun x => x.st == .parked && x.sum) = [q] →
      (∀ x ∈ n.cairns, x.st = .done ∨ (x.st = .parked ∧ x.sum = true)) → s.remoteDone n.kid = true →
      s.settleKernel n = .ok v → v.openAll n.asid kid (noCore n.pn) (.kernel n.kid) rec_ = .ready u →
      Yields s (.summitExchange kid) (wakes none)) ∧
    -- before it goes on, every word that the kernel writes is complete (R241, R242)
    ((∀ e ∈ s.staged, e.kid ≠ n.kid) → ∃ v, s.settleKernel n = .ok v ∧ v.kernels = s.kernels ∧ v.staged = s.staged ∧
      ∀ f ∈ v.flight, n.writes f = false) ∧
    -- completion
    (∀ v, known → finished → s.commandsDone n.kid = true → s.settleKernel n = .ok v → v.kernels = s.kernels →
      let spans := (if n.sts = 0 then [] else [(n.sts, 2, 8)]) ++ (if n.sig = 0 then [] else [(n.sig, 1, 8), (n.sig, 2, 8)])
      v.openAll n.asid 0 (noCore n.pn) (.kernel n.kid) spans = .ready u →
      (n.sig = 0 ∨ u.vbad (req n.sig 1) 8 = false → Yields s (.kernelCompletion kid) (fun t =>
        t.kernels = s.kernels.filter (fun x => x.kid != n.kid) ∧
        t.parts = (u.completeLaunch n.pn n.qn n.kid).parts)) ∧
      (∀ j pa, u.Canonical → n.sig = 0 → n.sts ≠ 0 → n.sts % 8 = 0 → u.locate (req n.sts 2) = .at (.hbm j pa false) → pa % 8 = 0 →
        Yields s (.kernelCompletion kid) (fun t => ∀ i, i < 8 →
          t.byte (hbmKey j pa + i) = (wordsLE [n.status.toNat, n.serial.toNat]).getD i 0)) ∧
      (∀ j pa, u.Canonical → n.sts = 0 → n.sig ≠ 0 → n.sig % 8 = 0 → u.vbad (req n.sig 1) 8 = false → pa % 8 = 0 →
        u.locate (req n.sig 1) = .at (.hbm j pa false) → u.locate (req n.sig 2) = .at (.hbm j pa false) →
        Yields s (.kernelCompletion kid) (fun t =>
          t.peekN (hbmKey j pa) 8 = (u.peekN (hbmKey j pa) 8 + 2 ^ 64 - 1) % 2 ^ 64))) ∧
    -- lost units and partition reset
    (known → (∀ p i, (s.queue p i).en = false) → s.kernels = [n] → s.clusterPart (c / 4) = some n.pn → (s.core c).run = some (n.kid, q.ix) →
      s.recordsBelayed n = false → Yields s (.unitLoss (.core c)) (fun t =>
        (t.core c).run = none ∧ (t.core c).margin.quar = true ∧
        (n.rcl = false → t.kernels = [{ n with outcome := some 6 }]) ∧
        (n.rcl = true → ∃ k, t.kernels = [k] ∧ k.kid = n.kid ∧ k.phase = 0 ∧ k.started = false ∧ k.cairns = [] ∧
          k.outcome = none))) ∧
    (s.stackPart pn = none →
      Yields s (.unitLoss (.stack pn)) (fun t => t.lostStacks = insertSorted pn s.lostStacks ∧ t.kernels = s.kernels)) ∧
    ((s.part pn).groups ≠ 0 → (∀ k ∈ s.kernels, k.pn ≠ pn) →
      Yields s (.partitionReset pn) (fun t =>
        (∀ d, d < 256 → (s.part pn).groups.getLsbD (clusterGroup (d / 4)) = true →
          (t.core d).run = none ∧ (t.core d).regs = Regs.zero ∧ (t.core d).ctl = Ctl.zero ∧
          (t.core d).cnt = Counters.zero ∧ (t.core d).mat = MatUnit.reset ∧
          -- the repair flow may write the remap tables anew (R29)
          let tables := if Config.repairs d s.tick then (s.core d).repaired s.tick d else s.core d
          (t.core d).towers = tables.towers ∧ (t.core d).cols = tables.cols ∧
            (t.core d).spareTowers = tables.spareTowers) ∧
        (∀ d, d < 256 → (s.part pn).groups.getLsbD (clusterGroup (d / 4)) = false → t.core d = s.core d) ∧
        (∀ i, i < 64 → (t.queue pn i).en = false ∧
          (t.queue pn i).work = ((s.queue pn i).work.filter (fun w => w.st != .complete))) ∧
        (t.part pn).groups = (s.part pn).groups ∧ t.kernels = s.kernels))

/-- R346, R351 to R362: a card is read and checked and does its work piece by piece; what it has written is in its
places when it reports (R364). That in the OFFLOAD clause the chunks of the previous image stand in front of the free
list is the model's reading (log 37). -/
def Obligations.CardWork : Prop :=
  ∀ (s : State) (c f : Nat) (j : Job), c < 256 → f = 0 ∨ f = 2 ∨ f = 4 ∨ f = 6 → j.stage = .checked →
    j.refused = false → j.ue = false → j.verdict = 0 →
    let k := s.core c
    let who := j.who c f
    let p := j.done
    let only : Prop := k.jobsOf f = [j] ∧ j.ahead = [] ∧ ∀ e ∈ s.flight, e.who.source ≠ who.source
    let ends (t : State) (st n : Nat) : Prop := ∃ x, (t.core c).jobsOf f = [x] ∧ x.stage = .finished st n
    let puts (row : Instr) (x : State) (l : List Byte) (dst : Nat) : Prop := ∀ (v : State) (q pa : Nat), only →
      v.Canonical → v.cores = s.cores → v.flight = s.flight → l ≠ [] → dst % 256 + l.length ≤ 256 →
      x.openSpan (j.req dst 2) l.length who = .ready v → v.locate (j.req dst 2) = .at (.hbm q pa false) →
      Yields s row (fun t => ends t 0 (j.count + l.length) ∧ (∀ a, t.byte a = v.byte a) ∧
        (∀ i, i < l.length → (t.landed who).byte (hbmKey q pa + i) = l.getD i 0) ∧
        ∀ a, (∀ i, i < l.length → a ≠ hbmKey q pa + i) → (t.landed who).byte a = v.byte a)
    let moves (row : Instr) (src dst n : Nat) : Prop := ∀ u, s.openSpan (j.req src 1) n who = .ready u →
      u.flight = s.flight → u.vbad (j.req src 1) n = false →
      puts row (u.pinSpan (j.req src 1) n who) (u.vread (j.req src 1) n) dst
    -- reading a card
    (∀ (e : Elem) (rest : List Elem) (a : Word), (k.fifo f).els = e :: rest → e.pay = .card a → k.jobsOf f = [] →
      let word (i : Nat) : Nat := a.toNat + 16 * i
      let bytes : BitVec 512 := .ofNat 512 (ofBytesLE ((List.range 4).flatMap (fun i =>
        bytesLE 16 (s.padRead c e.kid (word i) 16))))
      let reads (st : JobStage) (sts : Bool) : Prop := Yields s (.cardRead c f) (fun t => ((t.core c).fifo f).els = rest ∧
        ∃ x, (t.core c).jobsOf f = [x] ∧ x.bytes = bytes ∧ x.kid = e.kid ∧ x.stage = st ∧ x.sts = sts ∧ x.done = 0)
      ((∃ i, i < 4 ∧ k.readable e.kid (word i) = false) → reads (.finished 3 0) true) ∧
      ((∀ i, i < 4 → k.readable e.kid (word i) = true) →
        ((∃ i, i < 4 ∧ s.wordTag c e.kid (word i) = 3) → reads (.finished 5 0) true) ∧
        ((∀ i, i < 4 → s.wordTag c e.kid (word i) ≠ 3) → 15 < nbits bytes.toNat 8 8 →
          reads (.finished 2 0) (bytes.getLsbD 8)) ∧
        ((∀ i, i < 4 → s.wordTag c e.kid (word i) ≠ 3) → bytes.getLsbD 8 = false → bytes.getLsbD 9 = false →
          (∀ x : Job, x.bytes = bytes → s.checkCard c f x = 0) → reads .checked false))) ∧
    -- what cards move, each at its last piece
    (∀ src dst n, j.sp = false → j.dp = false → 0 < n → p + n = j.copyTotal →
      src = runAddr (j.f 8 8) j.copyS (p / j.f 24 4) + p % j.f 24 4 →
      dst = runAddr (j.f 16 8) j.copyD (p / j.f 24 4) + p % j.f 24 4 →
      -- a byte that the card has written itself is read after that (R353)
      n = s.copyFree j src dst (s.pieceLen dst (min (j.f 24 4 - p % j.f 24 4) (256 - dst % 256))) → j.type = 1 →
      moves (.copyCard c f) src dst n) ∧
    (∀ ix dst n, j.prep = some ix → j.type = 2 → 0 < n → p + n = j.f 32 4 * j.f 36 4 →
      dst = j.f 16 8 + p / j.f 36 4 * j.f 44 4 + p % j.f 36 4 →
      n = s.pieceLen dst (min (j.f 36 4 - p % j.f 36 4) (256 - dst % 256)) →
      moves (.gatherCard c f) (j.f 8 8 + ix.getD (p / j.f 36 4) 0 * j.f 40 4 + p % j.f 36 4) dst n) ∧
    (∀ z r col, j.sp = false → j.type = 3 → z = 2 ^ j.f 28 1 → r < j.f 24 2 → p = (col * j.f 24 2 + r) * z →
      col * j.f 24 2 + r + 1 = j.f 24 2 * j.f 26 2 →
      moves (.transposeCard c f) (j.f 8 8 + r * j.f 32 4 + col * z) (j.f 16 8 + col * j.f 36 4 + r * z) z) ∧
    (∀ u x i a, only → j.type = 4 → p = 256 * i → i + 1 = j.f 28 4 → a = j.f 32 4 + i * j.f 36 4 → a % 256 = 0 →
      (∀ y, y < 256 → (nbit (j.f 16 8) (y / 4) && nbit (j.f 24 1) (y % 4)) = decide (y = x)) → x < 256 →
      (∀ g, g < 16 → (s.core x).engineWritable j.kid (a + 16 * g) = true) → u.Canonical → u.cores = s.cores →
      u.flight = s.flight →
      s.openSpan (j.req (j.f 8 8 + i * j.f 40 4) 1) 256 who = .ready u →
      u.vbad (j.req (j.f 8 8 + i * j.f 40 4) 1) 256 = false →
      Yields s (.multicastCard c f) (fun t => ends t 0 (j.count + 256) ∧ ∀ b, b < 256 →
        (t.landed who).byte (s.padKey x j.kid (a + b)) = (u.vread (j.req (j.f 8 8 + i * j.f 40 4) 1) 256).getD b 0)) ∧
    (∀ u i, only → j.type = 5 → p = 192 * i → i + 1 = j.f 20 2 → u.Canonical → u.cores = s.cores →
      u.flight = s.flight →
      s.openSpan (j.req (j.f 8 8 + i * j.f 24 4) 1) 192 who = .ready u →
      u.vbad (j.req (j.f 8 8 + i * j.f 24 4) 1) 192 = false →
      Yields s (.bankfillCard c f) (fun t => ends t 0 (j.count + 192) ∧
        256 * j.f 16 1 + (j.f 18 2 + i) ∉ (t.core c).mat.badRows ∧ ∀ b, b < 192 →
        t.byte (bankKey c (j.f 16 1) (192 * (j.f 18 2 + i)) + b) =
          (u.vread (j.req (j.f 8 8 + i * j.f 24 4) 1) 192).getD b 0)) ∧
    (∀ (u v w x y z : State) (o : OffSet) (entry image : List Byte) (old free : List Nat), only → j.type = 6 →
      s.openSet who j = .ok (u, o, entry) → j.f 24 4 < o.nimg → o.entryIn (j.f 24 4) = true →
      u.vbad (j.req (j.f 16 8) 1) 64 = false →
      u.vbad (j.req (o.table + 16 * j.f 24 4) 1) 16 = false →
      State.chain j who o o.nchunk (if ofBytesLE (entry.take 4) = 0 then noChunk else ofBytesLE ((entry.drop 8).take 4)) []
        u = .ok (x, old) →
      State.chain j who o o.nchunk o.head [] u = .ok (v, free) →
      State.rowImages j who (j.f 28 4) 0 [] v = .ok (w, image, false) →
      let need := (image.length - o.slotSize + 4091) / 4092
      let taken := (old ++ free).take need
      let left := (old ++ free).drop need
      -- the last of the old chunks that the image leaves leads to the free list
      let joint := match old.getLast? with
        | some i => if need < old.length then [(o.chunk i + 4092, bytesLE 4 (free.headD noChunk))] else []
        | none => []
      let writes := imageWrites o (j.f 24 4) image taken ++ linkWrites o taken noChunk ++ joint ++
        [(j.f 16 8 + 36, wordsLE [left.headD noChunk, o.free + old.length - need]),
         (o.table + 16 * j.f 24 4, wordsLE [image.length, j.f 28 4, taken.headD noChunk, (crc32c image).toNat])]
      need ≤ old.length + free.length → o.inside (j.f 24 4) image.length (old ++ taken) = true →
      State.openPuts j who writes w = .ready z → State.putAll j who writes z = (y, false) → y.cores = s.cores →
      Yields s (.offloadCard c f) (fun t => ends t 0 image.length ∧ t.mem = y.mem)) ∧
    (∀ l i row, j.type = 7 → j.prep = some l → p = 256 * i → i + 1 = j.f 28 4 → row = (l.drop (257 * i)).take 257 →
      row.length = 257 → row.headD 0 = 0 →
      puts (.reloadCard c f) s ((row.drop 1).map (BitVec.ofNat 8)) (j.f 8 8 + i * j.f 32 4)) ∧
    (∀ l n, j.type = 8 → j.prep = some l → p + n = l.length → n = s.pieceLen (j.f 16 8 + p) n →
      puts (.decompCard c f) s ((l.drop p).map (BitVec.ofNat 8)) (j.f 16 8 + p))

/-- R349, R350, R363 to R365: a card reports, elements cross the stream switch, and a stalled cluster borrows from the
vat. -/
def Obligations.CardReportsAndHops : Prop :=
  ∀ (s : State) (c f : Nat) (j : Job), c < 256 → f = 0 ∨ f = 2 ∨ f = 4 ∨ f = 6 → j.stage = .checked →
    j.refused = false → j.ue = false → j.verdict = 0 →
    let k := s.core c
    let only : Prop := k.jobsOf f = [j]
    let ends (t : State) (st n : Nat) : Prop := ∃ x, (t.core c).jobsOf f = [x] ∧ x.stage = .finished st n
    -- a card that moves nothing ends DONE; a report
    (only → (j.type = 1 ∧ j.copyTotal = 0) ∨ (j.type = 4 ∧ j.f 28 4 = 0) →
      Yields s (if j.type = 1 then .copyCard c f else .multicastCard c f) (fun t => ends t 0 j.count ∧ t.mem = s.mem)) ∧
    -- at its report every byte it has written is in place (R243)
    (∀ st n l, k.jobsOf f = { j with stage := .finished st n } :: l →
      (j.sts = true → j.bar = none → s.live j.kid = true → 0 < k.room (f + 1) →
        Yields s (.cardReport c f) (fun t => (t.core c).jobsOf f = l ∧ t.mem = (s.landed (j.who c f)).mem ∧
          ((t.core c).fifo (f + 1)).els =
          (k.fifo (f + 1)).els ++ [⟨j.kid, .word (.ofNat 32 (st * 2 ^ 27 + min n (2 ^ 27 - 1))), 0, 256⟩])) ∧
      (∀ b, j.sts = false → j.bar = some b → b < 128 → (s.bar c b).own = j.kid → (s.bar c b).cnt ≠ 0 →
        Yields s (.cardReport c f) (fun t => (t.core c).jobsOf f = l ∧ t.mem = (s.landed (j.who c f)).mem ∧
          t.bar c b = { s.bar c b with cnt := (s.bar c b).cnt - 1 }))) ∧
    -- hops and stalls
    (∀ (q : Nat) (d : Dest) (e : Elem) (l : List (Dest × Elem)), 16 ≤ q → q < 32 → k.skid q = (d, e) :: l →
      (∀ pos ep, d = .endpoint pos ep → pos < 4 → ep < 16 → 0 < (s.core (c / 4 * 4 + pos)).room (16 + ep) →
        Yields s (.switchHop c q) (fun t => (t.core c).skid q = l ∧ ((t.core (c / 4 * 4 + pos)).fifo (16 + ep)).els =
          ((s.core (c / 4 * 4 + pos)).fifo (16 + ep)).els ++ [e])) ∧
      (∀ port, d = .copyPort port ∧ port < 4 ∨ d = .transposePort ∧ port = 4 →
        let runs := (s.cluster (c / 4)).runs port
        let n := (runs.flatMap (·.2)).length + e.streamBytes.length
        -- a port that has no room holds the hop back (R350)
        (n ≤ Config.portBytes → Yields s (.switchHop c q) (fun t => (t.core c).skid q = l ∧
          (t.cluster (c / 4)).runs port = runs ++ [(e.kid, e.streamBytes)])) ∧
        (Config.portBytes < n → Yields s (.switchHop c q) (fun t => t = s)))) ∧
    (∀ cap pos q, pos < 4 → q < 33 → (∀ i, i < 4 → s.stuck (c / 4 * 4 + i) = true) →
      (s.cluster (c / 4)).moved + 1024 ≤ s.cycle → s.smallestFull (c / 4) = some (cap, pos, q) → 16 ≤ s.vatFree (c / 4) →
      Yields s (.clusterStall (c / 4)) (fun t =>
        (t.core (c / 4 * 4 + pos)).fifo q = { (s.core (c / 4 * 4 + pos)).fifo q with
          extra := ((s.core (c / 4 * 4 + pos)).fifo q).extra + 16 } ∧
        (t.cluster (c / 4)).grow = min 255 ((s.cluster (c / 4)).grow + 1)))

/-- R313, R316, R318, R320 to R325, R336 to R338, R456: the routines of the matrix unit, their end and the exchange of
banks; claims of the unit and late loading of tiles; the alarm. -/
def Obligations.MatrixEvents : Prop :=
  ∀ (s u : State) (c : Nat) (q : Cmd) (l : List Cmd), c < 256 → s.Canonical →
    let m := (s.core c).mat
    let head : Prop := m.queue = q :: l
    let tile := m.tile q.tile
    let af := q.p 1 0 3
    let bf := q.p 1 3 3
    let el (i n : Nat) : Nat := i * tile.cols + n
    let old (i n : Nat) : Word := if q.routine = 0 ∨ (q.routine = 2 ∧ q.p 1 7 2 ≠ 1) then s.tileGet c q.tile (el i n) else 0
    let bank : Nat := if m.act then 1 else 0
    let a (i k : Nat) : Nat := s.padRead c q.kid (q.aAddr i k) 1
    let b (k n : Nat) : Nat := (s.byte (bankKey c bank (192 * k + n))).toNat
    -- nothing that the unit has written is still in flight
    let fresh : Prop := head ∧ q.swap = false ∧ q.stopped = false ∧ q.step = 0 ∧ 0 < q.M ∧ q.M ≤ 16 ∧ 0 < q.N ∧
      q.N ≤ tile.cols ∧ tile.st ≠ .lazy ∧ ∀ f ∈ s.flight, f.who ≠ .matrix c
    let ran (t : State) : Prop := (t.core c).mat.queue = { q with step := 1 } :: l
    let runs (row : Instr) (P : State → Prop) : Prop := Yields s row P ∧ Yields s (.routineStep c) P
    let sources : Prop := 0 < q.K ∧ q.K ≤ 32 ∧ (∀ i k, i < q.M → k < q.K →
        (s.core c).readable q.kid (q.aAddr i k) = true ∧ s.wordTag c q.kid (q.aAddr i k) ≠ 3) ∧
      (∀ k, k < q.K → 256 * bank + k ∉ m.badRows) ∧
      (∀ i n, i < q.M → n < q.N → badEl q.tile (el i n) ∉ m.badEls)
    let ints (t : State) : Prop := ran t ∧ ∀ i n, i < q.M → n < q.N → t.tileGet c q.tile (el i n) =
      BitVec.ofInt 32 ((old i n).toNat + (List.range q.K).foldl (fun x k => x + mInt af (a i k) * mInt bf (b k n)) 0)
    let floats (sa sb : Nat → Nat) (t : State) : Prop := ran t ∧ ∀ i n, i < q.M → n < q.N →
      t.tileGet c q.tile (el i n) = .ofNat 32 (fpAdd fp32 0 0 (old i n).toNat (groupSum ((List.range q.K).map (fun k =>
        ((if af = 0 then e4m3 else e5m2).decode (a i k), (if bf = 0 then e4m3 else e5m2).decode (b k n))))
        (sa i) (sb n)).bits).bits
    let addr (r : Nat) : Nat := q.p 2 0 26 + r * q.p 2 32 26
    let signalled (t : State) : Prop := q.f % 2 = 0 → q.bar < 128 → (s.bar c q.bar).own = q.kid → (s.bar c q.bar).cnt ≠ 0 →
      t.bar c q.bar = { s.bar c q.bar with cnt := (s.bar c q.bar).cnt - 1 }
    -- products
    (fresh → sources → (af = 3 ∨ af = 4) → (bf = 3 ∨ bf = 4) →
      (q.routine = 0 → runs (.mma c) ints) ∧ (q.routine = 1 → runs (.mmo c) ints)) ∧
    (fresh → sources → af < 2 → bf < 2 →
      (q.routine = 0 → runs (.mma c) (floats (fun _ => 127) (fun _ => 127))) ∧
      (q.routine = 1 → runs (.mmo c) (floats (fun _ => 127) (fun _ => 127))) ∧
      ∀ x y, x = q.p 4 0 26 → y = q.p 4 32 26 → q.routine = 2 →
        (∀ i, i < q.M → (s.core c).readable q.kid (x + 16 * i) = true ∧ s.wordTag c q.kid (x + 16 * i) ≠ 3) →
        (∀ n, n < q.N → (s.core c).readable q.kid (y + n) = true ∧ s.wordTag c q.kid (y + n) ≠ 3) →
        runs (.mmaMx c) (floats (fun i => s.padRead c q.kid (x + 16 * i) 1) (fun n => s.padRead c q.kid (y + n) 1))) ∧
    -- stores and loads of FP32 elements
    (fresh → q.routine = 3 → q.M = 1 → q.N ≤ 64 → q.p 2 58 3 = 0 → tile.isInt = false →
      (∀ n, n < q.N → (s.core c).engineWritable q.kid (addr 0 + 4 * n) = true ∧ badEl q.tile n ∉ m.badEls) →
      addr 0 % 4 = 0 → runs (.tstore c) (fun t => ran t ∧ ∀ n i, n < q.N → i < 4 →
        (t.landed (.matrix c)).byte (s.padKey c q.kid (addr 0 + 4 * n + i)) = .ofNat 8 ((s.tileGet c q.tile n).toNat / 2 ^ (8 * i)))) ∧
    (fresh → q.routine = 4 → q.p 2 58 3 = 0 → tile.isInt = false →
      (∀ i n, i < q.M → n < q.N → (s.core c).readable q.kid (addr i + 4 * n) = true ∧
        s.wordTag c q.kid (addr i + 4 * n) ≠ 3) →
      runs (.tload c) (fun t => ran t ∧ ((t.core c).mat.tile q.tile).st = .dirty ∧ ∀ i n, i < q.M → n < q.N →
        t.tileGet c q.tile (el i n) = .ofNat 32 (s.padRead c q.kid (addr i + 4 * n) 4))) ∧
    (head → q.swap = false → q.stopped = false → q.step = 0 → 32 ≤ q.routine → (∀ t, t < 8 → (m.tile t).st ≠ .lazy) →
      runs (.vendorRoutine c) ran) ∧
    -- the end of a command: its writes have performed, and none stays in flight but to a mirror that cannot be reached
    (head → q.swap = false → q.ended = true → Yields s (.routineComplete c) (fun t => (t.core c).mat.queue = l ∧ signalled t ∧
      t.mem = (s.landed (.matrix c)).mem ∧ ∀ f ∈ t.flight, f.who = .matrix c → f.mirrored = true)) ∧
    (head → q.swap = true → (s.core c).filling = false →
      Yields s (.swapComplete c) (fun t => (t.core c).mat.queue = l ∧ (t.core c).mat.act = !m.act ∧ signalled t)) ∧
    -- claims and tiles
    (∀ who blk, (s.core c).run = some who → m.owner = none → (s.core c).seq.hold = some .claim →
      blk = (if (s.core c).matBlk.length = 320 then (s.core c).matBlk else List.replicate 320 0) →
      let w (o : Nat) : Nat := ofBytesLE ((blk.drop o).take 4)
      w 0 < 2 ^ 31 → (s.core c).matBlk.length = 320 ∨ (s.core c).matBlk = [] →
      Yields s (.matrixUnitClaim c) (fun t => (t.core c).mat.owner = some who ∧ (t.core c).seq.hold = none ∧
        (t.core c).mat.act = m.act ∧ (t.core c).mat.badEls = [] ∧ (t.core c).mat.queue.length = min 3 (w 8) ∧
        ∀ i d, i < 8 → d = w (256 + 8 * i) → (t.core c).mat.tile i =
          if w 0 / 2 ^ 30 = 0 ∨ d = 0 then ⟨.uncfg, 0⟩
          else if d / 2 ^ 30 % 2 = 1 then ⟨.lazy, .ofNat 32 (d - 2 ^ 30)⟩ else ⟨.zero, .ofNat 32 d⟩)) ∧
    (∀ (who : Word × Nat) (k : Kernel) (x : Cairn) (t : Nat), t < 8 → m.owner = some who → (m.tile t).st = .lazy →
      (s.core c).seq.hold = some (.tile t) → s.areaOf who = some (k, x) →
      let r : WalkRequest := ⟨x.save + 0x4000 + 0x10000 * t, k.asid, 1, k.kid.toNat, c⟩
      let n := 4 * (m.tile t).rows * (m.tile t).cols
      let entry := s.slotTableEntry who k x t
      s.openSpan r n (.matrix c) = .ready u → s.primaryBad r n = false → u.vbad r n = false → u.cores = s.cores →
      u.Canonical → (crc32c (entry.take 4 ++ u.vread r n)).toNat = ofBytesLE (entry.drop 4) →
      Yields s (.tileLazyLoad c t) (fun v => (v.core c).mat.tile t = ⟨.clean, (m.tile t).deckle⟩ ∧
        v.peek (tileKey c t 0) n = u.vread r n)) ∧
    -- an alarm holds for 10 ms at least (R456)
    Yields s .powerAlarmRaise (fun t => t = { s with house := { s.house with alarm := true, alarmSince := s.cycle } }) ∧
    (s.house.alarmSince + 10000000 ≤ s.cycle →
      Yields s .powerAlarmClear (fun t => t = { s with house := { s.house with alarm := false } })) ∧
    (s.cycle < s.house.alarmSince + 10000000 → Yields s .powerAlarmClear (fun t => t = s))

/-- R371 to R375, R381 to R391: updates reach memory or are staged, a flush applies what is staged; subscriptions are
accepted, pages are read and land, and partials are combined. That a page lands in the lowest-numbered free buffer
is the model's reading (log 41). -/
def Obligations.AccumulateAndSweepEvents : Prop :=
  ∀ (s u : State) (c : Nat) (e : Elem) (rest : List Elem) (n : Kernel), c < 256 → s.kernel e.kid = some n →
    u.Canonical → u.cores = s.cores →
    let k := s.core c
    let kid := e.kid.toNat
    let who := Requester.acc c
    -- an update that finds its target in a stack: x is the state in which the engine opens it
    let adds (row : Instr) (x : State) (asid va src : Nat) (v : Word) (P : State → Prop) : Prop := ∀ (y : State) (j pa : Nat),
      let r : WalkRequest := ⟨va, asid, 3, kid, src⟩
      nbits va 50 4 < 10 → va % 4 = 0 → x.openSpan r 4 who = .ready y → y.Canonical → y.cores = x.cores →
      y.vbad r 4 = false → y.locate r = .at (.hbm j pa false) → (∀ f ∈ y.flight, f.who ≠ who) → Yields s row (fun t => P t ∧ ((t.core c).fifo 32).els = rest ∧
        t.peekN (hbmKey j pa) 4 = (y.peekN (hbmKey j pa) 4 + v.toNat) % 2 ^ 32)
    -- scatter-accumulate
    (∀ (base : Dword) (idx val : Vec) (act : Mask) (l : Nat) (ord : Bool), (k.fifo 32).els = e :: rest → l < 64 →
      e.pay = .acc base idx val act 0 ord → (∀ i, i < 64 → act.getLsbD (4 * i) = decide (i = l)) →
      let va := (base.toNat + (lane 32 idx l).toNat * 4) % 2 ^ 64 / 4 * 4
      (ord = false → adds (.accumulateArrival c) s n.asid va e.src (lane 32 val l) (fun t => t.staged = s.staged)) ∧
      (ord = true → nbits va 50 4 < 10 → s.openSpan ⟨va, n.asid, 3, kid, e.src⟩ 4 who = .ready u → s.staged = [] →
        Yields s (.accumulateArrival c) (fun t => t.mem = u.mem ∧ ((t.core c).fifo 32).els = rest ∧
          ∃ x, t.staged = [x] ∧ x.kid = e.kid ∧ x.va = va ∧ x.asid = n.asid ∧ x.srcCore = e.src ∧
            x.agent = e.src ∧ x.srcMod = s.modNum.toNat ∧ x.aop = 0 ∧ x.val = lane 32 val l ∧ x.due = []))) ∧
    ((k.fifo 32).els = e :: rest → e.pay = .flush →
      ((∀ x ∈ s.staged, x.kid ≠ e.kid) → Yields s (.sflushArrival c) (fun t => ((t.core c).fifo 32).els = rest ∧
        t.mem = s.mem ∧ t.staged = s.staged)) ∧
      -- a flush marks what is staged when it arrives and applies exactly that (R375)
      (∀ x, s.staged = [x] → x.kid = e.kid → x.aop = 0 → x.srcMod = s.modNum.toNat →
        adds (.sflushArrival c)
          { (s.updCore c (fun k => k.setFifo 32 ({ e with pay := .flushing } :: rest))) with
            staged := [{ x with due := insertSorted c x.due }] }
          x.asid x.va x.agent x.val (fun t => t.staged = []))) ∧
    -- a first subscription of a sweep
    (∀ (aw : Word) (slot : Nat) (v : State), k.subs = e :: rest → e.pay = .sub aw slot false → slot < 16 →
      k.subCard = none →
      let word (i : Nat) : Nat := aw.toNat + 16 * i
      let card := ofBytesLE ((List.range 4).flatMap (fun i => bytesLE 16 (s.padRead c e.kid (word i) 16)))
      let f (b n : Nat) : Nat := nbits card (8 * b) (8 * n)
      let list : WalkRequest := ⟨f 24 8, n.asid, 1, kid, c⟩
      let pages := (List.range (f 32 4)).map (fun p => ofBytesLE (((v.vread list (4 * f 32 4)).drop (4 * p)).take 4))
      -- the card is read once and kept (R394)
      let s1 := s.updCore c (fun k => { k with subCard := some (some (.ofNat 512 card)) })
      ((∃ i, i < 4 ∧ k.readable e.kid (word i) = false) → 0 < k.room 9 →
        Yields s (.subscription c) (fun t => (t.core c).subs = rest ∧ ((t.core c).fifo 9).els =
          (k.fifo 9).els ++ [⟨e.kid, .word (.ofNat 32 (2 ^ 30 + slot * 2 ^ 20 + 5)), 0, 256⟩])) ∧
      ((∀ i, i < 4 → k.readable e.kid (word i) = true ∧ s.wordTag c e.kid (word i) ≠ 3) →
        f 0 1 = 9 → f 1 1 = 0 ∨ f 1 1 = 2 → f 2 1 < 128 → f 4 1 ≤ 2 → f 5 1 = 0 → 1 ≤ f 6 2 ∧ f 6 2 ≤ 128 →
        1 ≤ f 8 4 ∧ f 8 4 ≤ 2 ^ 20 → 2 ≤ f 12 2 ∧ f 12 2 ≤ 4096 → f 14 2 = 0 → 1 ≤ f 32 4 ∧ f 32 4 ≤ f 8 4 →
        f 36 4 % 32768 = 0 → f 36 4 ≤ 0x03FC0000 → f 40 24 = 0 → k.slot slot = none → s.findSweep e.kid (f 3 1) = none →
        s1.openSpan list (4 * f 32 4) (.sweepCard c) = .ready v → v.cores = s1.cores → v.vbad list (4 * f 32 4) = false →
        (∀ i x y, pages[i]? = some x → pages[i + 1]? = some y → x < y) → (∀ x ∈ pages, x < f 8 4) →
        2 ≤ s.poolFree (c / 4) →
        Yields s (.subscription c) (fun t => (t.core c).subs = rest ∧
          (∃ x, (t.core c).slot slot = some x ∧ x.kid = e.kid ∧ x.swid = f 3 1 ∧ x.no = s.tick ∧ x.order = pages ∧ x.boundary = 0 ∧
            x.reserved = 2 ∧ x.next = 0 ∧ x.bar = if f 1 1 = 2 then some (f 2 1) else none) ∧
          ∃ w, t.findSweep e.kid (f 3 1) = some w ∧ w.st = .opened ∧ w.counted = 1 ∧ w.nsub = f 12 2 ∧
            w.npage = f 8 4 ∧ w.pb = f 6 2 ∧ w.ptab = f 16 8 ∧ w.members = [⟨c, slot, s.tick, pages, 0, false⟩] ∧ w.lands = [(c, f 36 4)]))) ∧
    -- pages
    (∀ (w : Sweep) (swid p : Nat), swid < 256 → s.findSweep e.kid swid = some w → w.st = .main →
      (w.remaining false).contains p = true →
      (∀ x ∈ w.remaining false, p ≤ x + 64 ∧
        (x < p → nbits (w.pages.getD x 0) 50 3 ≠ nbits (w.pages.getD p 0) 50 3)) →
      let r : WalkRequest := ⟨w.pages.getD p 0, w.asid, 1, e.kid.toNat, noCore w.pn⟩
      s.openSpan r (w.pb * 256) (.sweep e.kid swid p) = .ready u → u.sweeps = s.sweeps →
      Yields s (.pageIssue kid swid p) (fun t => ∃ x, t.findSweep e.kid swid = some x ∧ p ∈ x.issued ∧
        ∃ g ∈ x.flying, g.page = p ∧ g.catchup = false ∧ g.bytes = u.vread r (w.pb * 256))) ∧
    -- a page begins to land, and its landing is completed
    (∀ (w : Sweep) (swid p b land : Nat) (f : Flying), swid < 256 → s.Canonical → p < 2 ^ 20 →
      s.findSweep e.kid swid = some w → w.pb = 1 → w.nextPage c = some (p, false) →
      w.flying.find? (fun g => g.page == p && g.catchup == false && g.targets.contains c) = some f →
      (∀ l ∈ f.landing, l.core ≠ c) → f.badWords = [] → f.bytes.length = 256 →
      let free (x : Nat) : Prop := (k.lands[x]?).map (·.refs) = some 0 ∧
        ∀ v ∈ s.sweeps, ∀ g ∈ v.flying, ∀ l ∈ g.landing, ¬ (l.core = c ∧ l.buf = x)
      b < 8 → free b → (∀ x, x < b → ¬ free x) → w.lands = [(c, land)] → land % 256 = 0 →
      (∀ g, g < 16 → k.engineWritable e.kid (land + 32768 * b + 16 * g) = true) →
      (∀ g ∈ s.flight, g.who ≠ .landing c e.kid swid) →
      Yields s (.pageLanding kid swid c) (fun t => t.mem = s.mem ∧ (∀ j, j < 256 →
          (t.landed (.landing c e.kid swid)).byte (s.padKey c e.kid (land + 32768 * b + j)) = f.bytes.getD j 0) ∧
        (t.core c).lands = k.lands ∧ ((t.core c).fifo 9).els = (k.fifo 9).els ∧
        ∃ x, t.findSweep e.kid swid = some x ∧ ∃ g ∈ x.flying, g.page = p ∧ g.landing = f.landing ++ [⟨c, b, false, false⟩])) ∧
    (∀ (w : Sweep) (swid p i : Nat) (f : Flying) (l : Landing), swid < 256 → p < 2 ^ 20 → i < 16 →
      s.findSweep e.kid swid = some w → w.nextPage c = some (p, false) →
      w.flying.find? (fun g => g.page == p && g.catchup == false && g.targets.contains c) = some f →
      f.landing.find? (fun x => x.core == c) = some l → l.buf < 8 →
      -- each query that takes the page, also a second of the same slot, gets a descriptor and a reference
      let mine := (w.takers p false).filter (fun q => q.core == c)
      (∀ q ∈ mine, q.slot = i) → mine.length ≤ k.room 9 →
      Yields s (.pageLanding kid swid c) (fun t =>
        (t.core c).lands[l.buf]? = some ⟨mine.length, e.kid, swid⟩ ∧
        t.mem = (s.landed (.landing c e.kid swid)).mem ∧ (∀ g ∈ t.flight, g.who = .landing c e.kid swid → g.mirrored = true) ∧
        ((t.core c).fifo 9).els = (k.fifo 9).els ++ List.replicate mine.length ⟨e.kid, .word (.ofNat 32
          ((if l.ue then 2 ^ 29 else 0) + (if l.rf then 2 ^ 28 else 0) + l.buf * 2 ^ 24 + i * 2 ^ 20 + p)), 0, 256⟩)) ∧
    -- partials
    (∀ (slot p : Nat) (q : QSlot) (x : Partial), slot < 16 → k.slot slot = some q → q.order = [p] → q.boundary = 0 →
      q.next = 0 → q.waiting = [(p, some x)] → q.acc = none → q.runs = [] → q.ue = false → q.bar = none → 0 < k.room 10 →
      let total := Partial.empty.combine (Partial.empty.combine x)
      Yields s (.partialCombine c slot) (fun t => ((t.core c).fifo 10).els = (k.fifo 10).els ++
          [⟨q.kid, .merged total.o total.m total.l
            (.ofNat 32 ((if q.st then 2 ^ 30 else 0) + slot * 2 ^ 20 + 1)) q.no, 0, 256⟩] ∧
        ∃ y, (t.core c).slot slot = some y ∧ y.merged = true ∧ y.next = 1)) ∧
    (∀ (slot p p' : Nat) (q : QSlot) (x : Partial) (l : List (Nat × Option Partial)), slot < 16 →
      k.slot slot = some q → q.order[q.next]? = some p → q.order[q.next + 1]? = some p' → p / 64 = p' / 64 →
      q.waiting = (p, some x) :: l → (∀ y ∈ l, y.1 ≠ p) →
      Yields s (.partialCombine c slot) (fun t => (t.core c).slot slot = some { q with
        next := q.next + 1
        waiting := l
        acc := some ((q.acc.getD Partial.empty).combine x) }))

/-- R398, R400 to R408, R414, R441: queues are scanned, packets accepted, started and completed, shadows written; a
queue halts and is cleared. That a count is in the work list while its slot is still to be released is the model's
choice (log 70). -/
def Obligations.QueueEvents : Prop :=
  ∀ (s u : State) (pn qn : Nat) (w : Work), pn < 8 → qn < 64 → u.Canonical → u.parts = s.parts →
    let q := s.queue pn qn
    let who := Requester.queue pn qn
    let slot (n : Word) (o : Nat) : WalkRequest := ⟨q.qbase + 64 * (n.toNat % 2 ^ q.log) + o, q.asid, 1, 0, noCore pn⟩
    let head (x : State) (n : Word) : BitVec 512 := .ofNat 512 (ofBytesLE (x.vread (slot n 0) 16))
    let seen (n : Word) (x y : State) : Prop := x.openSpan (slot n 0) 16 who = .ready y ∧ y.vbad (slot n 0) 16 = false
    -- no posted write of the function stands before (R440)
    let calm : Prop := s.functionOn pn = true ∧ (s.part pn).arrivals = [] ∧ s.flight.any (s.ingested pn) = false
    let only : Prop := calm ∧ q.en = true ∧ q.halt = false ∧ q.unreleased = [] ∧ (s.part pn).pulls = [] ∧
      ∀ i, i < 64 → i ≠ qn → (s.queue pn i).en = false ∧ (s.queue pn i).unreleased = []
    let scans (P : State → Prop) : Prop := Yields s (.queueScanTimer pn) P ∧ ∀ n, Yields s (.qnotify pn qn n) P
    let halts (e : Nat) (t : State) : Prop := (t.queue pn qn).halt = true ∧ (t.queue pn qn).err = e ∧
      (t.part pn).msix[0] = (s.part pn).msix[0] + 1
    let a := pkField w.pkt 8 8
    let v := pkField w.pkt 16 8
    let op := pkField w.pkt 24 1
    let req (access : Nat) : WalkRequest := ⟨a, w.asid, access, 0, noCore pn⟩
    -- the packet of that count that has not started (R398, R413)
    let marks (f : Work → Work) (t : State) : Prop := (t.queue pn qn).work =
      firstWork (fun x => x.count == w.count && x.st == .accepted) f q.work
    let done : State → Prop := marks (fun x => { x with st := .complete })
    -- scans
    (only → seen q.ridx s u → (head u q.ridx).getLsbD 8 = false → scans (fun t => t = u)) ∧
    (only → seen q.ridx s u → (head u q.ridx).getLsbD 8 = true → (head u q.ridx).extractLsb' 32 32 ≠ q.ridx →
      scans (halts 1)) ∧
    (∀ b d : State, only → seen q.ridx s u → (head u q.ridx).getLsbD 8 = true →
      (head u q.ridx).extractLsb' 32 32 = q.ridx → pkHeadOk (head u q.ridx) = true →
      u.openSpan (slot q.ridx 16) 48 who = .ready b → b.vbad (slot q.ridx 16) 48 = false → b.parts = s.parts →
      let p : BitVec 512 := .ofNat 512 ((head u q.ridx).toNat + 2 ^ 128 * ofBytesLE (b.vread (slot q.ridx 16) 48))
      pkBodyOk p = true → seen (q.ridx + 1) (b.accept pn qn q.ridx p) d → (head d (q.ridx + 1)).getLsbD 8 = false →
      d.parts = (b.accept pn qn q.ridx p).parts →
      scans (fun t => (t.queue pn qn).ridx = q.ridx + 1 ∧ (t.queue pn qn).work = q.work ++
        [⟨q.ridx, p, q.asid, q.pri, if pkType p = 5 then .complete else .accepted, s.cycle, 0⟩])) ∧
    -- shadow and resynchronisation
    (∀ j pa, q.en = true → q.unreleased = [] → q.qshd % 16 = 0 →
      let r : WalkRequest := ⟨q.qshd, q.asid, 2, 0, noCore pn⟩
      s.openSpan r 16 who = .ready u → u.locate r = .at (.hbm j pa false) →
      Yields s (.shadowWrite pn qn) (fun t => ∀ i, i < 16 → t.byte (hbmKey j pa + i) =
        (wordsLE [q.ridx.toNat, (~~~ q.ridx).toNat, q.rcnt.toNat, 0]).getD i 0)) ∧
    (q.en = true → q.unreleased = [] → q.log ≤ 20 → seen q.kcopy s u →
      (head u q.kcopy).extractLsb' 32 32 = q.kcopy - .ofNat 32 (2 ^ q.log) →
      Yields s (.qridxResync pn qn) (fun t => (t.queue pn qn).ridx = q.kcopy ∧ (t.queue pn qn).rcnt = q.rcnt + 1 ∧
        (t.queue pn qn).work = q.work)) ∧
    (calm → Yields s (.qstatHaltClear pn qn) (fun t =>
      t.queue pn qn = { q with halt := false, err := 0 })) ∧
    -- packets
    (∀ (b d : State) (k : Kernel) (l o : List Byte), s.elects pn qn 1 = some w → k = s.newKernel pn qn w s.freshKid →
      let objs := (if k.sig = 0 then [] else [(k.sig, 2, 8)]) ++ (if k.sts = 0 then [] else [(k.sts, 2, 8)])
      s.openAll k.asid 0 (noCore pn) who objs = .ready u → (∀ x ∈ objs, u.belayedHere pn (w.req pn x.1 2) x.2.2 = true) →
      let starts (x : Option Word) (t : State) : Prop := t.kernels = s.kernels ++ [{ k with outcome := x }] ∧
        t.launches = s.launches + 1 ∧ marks (fun x => { x with st := .running k.kid }) t
      (launchOk w.pkt = false → Yields s (.launchP pn qn) (starts (some 7))) ∧
      (launchOk w.pkt = true → u.fetchObj who k k.stab (32 * k.nsched) = .ok b l →
        b.fetchObj who k k.plst (4 * k.nphase) = .ok d o → d.parts = s.parts →
        (schedTable k.nsched k.nmax l).all (·.ok) = true → Yields s (.launchP pn qn) (starts none)) ∧
      k.code = a ∧ k.stab = v ∧ k.serial = w.count ∧ k.pn = pn ∧ k.qn = qn ∧ k.asid = w.asid ∧ k.pri = w.pri ∧
      k.phase = 0 ∧ k.started = false ∧ k.cairns = []) ∧
    (∀ j pa, s.elects pn qn 2 = some w → a % 8 = 0 → u.locate (req 1) = .at (.hbm j pa false) →
      u.locate (req 2) = .at (.hbm j pa false) → u.vbad (req 1) 8 = false →
      s.openAll w.asid 0 (noCore pn) who (if op = 0 then [(a, 2, 8)] else [(a, 1, 8), (a, 2, 8)]) = .ready u →
      let old := u.peekN (hbmKey j pa) 8
      Yields s (.signalP pn qn) (fun t => done t ∧ t.peekN (hbmKey j pa) 8 =
        (if op = 0 then v else if op = 1 then old + v else old + 2 ^ 64 - v) % 2 ^ 64)) ∧
    (s.elects pn qn 3 = some w → s.openSpan (req 1) 8 who = .ready u → u.vbad (req 1) 8 = false → op < 4 →
      let x := ofBytesLE (u.vread (req 1) 8)
      let holds : Prop := (op = 0 → x = v) ∧ (op = 1 → x ≠ v) ∧ (op = 2 → x < v) ∧ (op = 3 → v ≤ x)
      (holds → Yields s (.waitP pn qn) (fun t => done t ∧ (t.queue pn qn).wait = false ∧
        (t.queue pn qn).waitSince = none)) ∧
      (¬ holds → Yields s (.waitP pn qn) (fun t => (t.queue pn qn).work = q.work ∧ (t.queue pn qn).wait = true ∧
        (t.queue pn qn).waitSince = some (q.waitSince.getD s.cycle)))) ∧
    (∀ t0, q.next = some w → q.waitSince = some t0 → pkType w.pkt = 3 → q.wait = true → pkField w.pkt 28 4 ≠ 0 →
      t0 + 1000 * pkField w.pkt 28 4 ≤ s.cycle →
      Yields s (.waitTimeout pn qn) (fun t => done t ∧ halts 4 t ∧ (t.queue pn qn).wait = false)) ∧
    (∀ j pa, s.elects pn qn 4 = some w → a % 16 = 0 → s.openSpan (req 2) 16 who = .ready u →
      u.locate (req 2) = .at (.hbm j pa false) → Yields s (.markerP pn qn) (fun t => done t ∧
        t.peek (hbmKey j pa) 16 = wordsLE [w.count.toNat, 0] ++ bytesLE 8 s.cycle)) ∧
    Yields s (.nopPacket pn qn) (fun t => (t.queue pn qn).work =
      q.work.map (fun x => if pkType x.pkt = 5 then { x with st := .complete } else x)) ∧
    (q.next = some w → w.pri + w.level < 3 → w.since + 1000000 * (w.level + 1) ≤ s.cycle →
      Yields s (.packetAging pn qn) (marks (fun x => { x with level := x.level + 1 })))

/-- R420, R424 to R434: tables are walked and leaves cached, faults are reported and answered, ranges invalidated, and
lines of migrating pages pulled. -/
def Obligations.TranslationEvents : Prop :=
  ∀ (s : State) (pn unit off asid access : Nat), pn < 8 → unit < 8 → off < 2 ^ 50 → 1 ≤ access → access ≤ 4 →
    s.Canonical →
    let p := s.part pn
    let va := s.modNum.toNat * 2 ^ 54 + unit * 2 ^ 50 + off
    let r : WalkRequest := ⟨va, asid, access, 0, noCore pn⟩
    let ours : Prop := s.failed = [] ∧ s.stackPart unit = some pn ∧ p.stackSet.getLsbD p.trdbStk = true ∧
      p.asidBase ≤ asid ∧ asid < p.asidBase + p.asidCount ∧
      ∀ e ∈ s.tlb, ¬ (e.home = unit ∧ e.asid = asid ∧ e.page = if e.big then off / 2 ^ 29 else off / 65536)
    let table (e : Nat) : Nat := hbmKey (nbits e 36 3) (nbits e 11 25 * 2048)
    let k3 := hbmKey p.trdbStk (p.trdbAddr * 2 ^ 20 + 8 * (16 * asid + unit))
    let e3 := s.peekN k3 8
    let k2 := table e3 + 8 * nbits off 42 8
    let e2 := s.peekN k2 8
    let k1 := table e2 + 8 * nbits off 29 13
    let e1 := s.peekN k1 8
    let k0 := table e1 + 8 * nbits off 16 13
    let e0 := s.peekN k0 8
    let good (e n : Nat) : Prop := e % 4 = 1 ∧ p.goodTable e n = true
    let leaf (e : Nat) (big : Bool) : Prop := e % 4 = 3 ∧ goodLeaf unit big e = true ∧ nbit e 62 = false ∧
      permits e access = true
    -- on a belayed page an uncorrectable word that the access meets is rewritten from its mirror (R434)
    let mended (e low : Nat) : State :=
      let a := (nbits e 16 20 * 65536 + low) / 16 * 16
      if nbit e 63 = true ∧ s.isBad (hbmKey unit a) = true ∧ s.mirrorUp = true ∧ s.isBad (mirrorKey unit a) = false
      then s.write (hbmKey unit a) (s.peek (mirrorKey unit a) 16) else s
    -- the leaf enters the stack's TLB; in a full one some entry leaves (R35, R426; which one: log 54)
    let caches (row : Instr) (x : State) (e page : Nat) (big : Bool) : Prop := Yields s row (fun t =>
      ∃ l, t = { x with tlb := ⟨unit, asid, page, big, e⟩ :: l } ∧ (∀ y ∈ l, y ∈ s.tlb) ∧
        ((s.tlb.filter (fun y => y.home == unit)).length < 4096 + 32768 → l = s.tlb))
    -- the requests that joined an entry fail at its page (R428)
    let failing (f : FaultEnt) : List (Requester × Nat) := f.joined.map (fun w => (w, f.page))
    let asks (f : FaultEnt) (l : List FaultEnt) (ent : Nat) : Prop :=
      p.faults = f :: l ∧ f.ent.toNat % 2 ^ 31 = ent % 2 ^ 31 ∧ ∀ g ∈ l, g.ent ≠ f.ent
    -- walks
    (∀ x, ours → good e3 2048 → good e2 65536 → leaf e1 true → x = mended e1 (off % 2 ^ 29) →
      -- the word that is mended is none of the tables'
      x.peekN k3 8 = e3 → x.peekN k2 8 = e2 → x.peekN k1 8 = e1 →
      caches (.translationWalk r) x e1 (off / 2 ^ 29) true) ∧
    (∀ x, ours → good e3 2048 → good e2 65536 → good e1 65536 → leaf e0 false → x = mended e0 (off % 65536) →
      x.peekN k3 8 = e3 → x.peekN k2 8 = e2 → x.peekN k1 8 = e1 → x.peekN k0 8 = e0 →
      caches (.translationWalk r) x e0 (off / 65536) false) ∧
    -- a fault is reported in the ring, wherever it stands: in a stack, its mirror too, or at the host (R415, R427)
    (∀ place, ours → e3 % 2 = 0 → p.frEn = true → p.faults = [] → p.waiting = [] →
      (p.frprod - p.frcons).toNat < 2 ^ p.frLog → s.ringPlace pn p.frbase p.frLog 32 p.frprod = some place →
      Yields s (.translationWalk r) (fun t => t.tlb = s.tlb ∧ (t.part pn).frprod = p.frprod + 1 ∧
        (t.part pn).msix[2] = p.msix[2] + 1 ∧ (∃ f, (t.part pn).faults = [f] ∧ f.ent = p.frprod ∧
          f.page = va / 65536 * 65536 ∧ f.asid = asid ∧ f.access = access ∧ f.since = s.cycle) ∧
        let entry := bytesLE 8 (va / 65536 * 65536) ++ bytesLE 2 asid ++ [1, .ofNat 8 access] ++ bytesLE 4 0 ++
          bytesLE 4 p.frprod.toNat ++ bytesLE 4 0xFFFFFFFF ++ bytesLE 8 0
        let key := s.placeKey 0 place
        t.peek key 32 = entry ∧
        (∀ k pa, place.mirror = some (k, pa) → s.mirrorUp = true → t.peek (mirrorKey k pa) 32 = entry) ∧
        (place.mirror = none → ∀ a, a < key ∨ key + 32 ≤ a → t.byte a = s.byte a))) ∧
    -- answers
    -- no write of the host or of another module waits for service
    (∀ f l ent, asks f l ent → p.arrivals = [] → s.ridge.held = [] →
      Yields s (.frespWalkAgain pn ent) (fun t => (t.part pn).faults = l ∧ t.failed = s.failed) ∧
      Yields s (.frespFail pn ent) (fun t => (t.part pn).faults = l ∧ t.failed = s.failed ++ failing f) ∧
      (p.frTmo ≠ 0 → p.waiting = [] → f.since + p.frTmo * 1000000 ≤ s.cycle →
        Yields s (.faultTimeout pn ent) (fun t => (t.part pn).faults = l ∧ t.failed = s.failed ++ failing f))) ∧
    -- invalidation
    -- the range is that of GO, which follows every earlier posted write of the function (R429, R440)
    (∀ w, w < 2 ^ 30 → s.functionOn pn = true → p.arrivals = [] → s.flight.any (s.ingested pn) = false →
      p.tiBusy = false → nbits p.tiva 54 10 = s.modNum.toNat → nbits p.tiva 50 4 ≤ 10 →
      let q := (p.tiva, p.tilen, w % 8192)
      Yields s (.tictlGo pn (2 ^ 31 + w)) (fun t => (t.part pn).tiBusy = true ∧ (t.part pn).tiPinned = false ∧
        (t.part pn).tiBad = false ∧ (t.part pn).tiRange = q ∧
        ∀ e, e ∈ t.tlb ↔ (e ∈ s.tlb ∧ inRange q e.home e.asid e.page e.big = false)) ∧
      Yields s (.tictlGo pn (2 ^ 31 + 2 ^ 30 + w)) (fun t => (t.part pn).evict = true ∧
        (s.rangePinned q = true → (t.part pn).tiBusy = false ∧ (t.part pn).tiPinned = true ∧ t.tlb = s.tlb) ∧
        (s.rangePinned q = false → (t.part pn).tiBusy = true))) ∧
    (p.tiBusy = true → s.rangePinned p.tiRange = false → s.flight.any (s.ingested pn) = false →
      Yields s (.invalidationAck pn) (fun t =>
        (t.part pn).tiBusy = false ∧ ∀ e ∈ t.tlb, inRange p.tiRange e.home e.asid e.page e.big = false)) ∧
    (p.tiBusy = true → s.rangePinned p.tiRange = true ∨ s.flight.any (s.ingested pn) = true →
      Yields s (.invalidationAck pn) (fun t => t = s)) ∧
    -- migration
    (∀ page rec_ frame old key i i' j pa, page % 65536 = 0 → i < 256 → i' < 256 → i ≠ i' →
      s.stackPart (nbits page 50 4) = some pn →
      let at_ (k : Nat) : WalkRequest := ⟨page + 256 * k, asid, 1, 0, noCore pn⟩
      let from_ : WalkRequest := ⟨old + i * 256, asid, 1, 0, noCore pn⟩
      s.locate (at_ 0) = .at (.moving unit rec_ frame 0 old key false) →
      s.locate (at_ i) = .at (.moving unit rec_ frame (256 * i) old key false) →
      (∀ k, k < i → s.lineValid rec_ k = true) → s.lineValid rec_ i = false → s.lineValid rec_ i' = false →
      (s.locate from_ = .at (.hbm j pa false) →
        rec_ + 48 ≤ hbmKey unit (frame + i * 256) ∨ hbmKey unit (frame + i * 256) + 256 ≤ rec_ →
        Yields s (.backgroundFill page asid) (fun t => t.lineValid rec_ i = true ∧
          t.peek (hbmKey unit (frame + i * 256)) 256 = s.peek (hbmKey j pa) 256)) ∧
      -- while the old page's module has no path the line stays absent (R437)
      (s.locate from_ = .blocked → Yields s (.backgroundFill page asid) (fun t => t = s)))

/-- R373, R435 to R438: flits and packets of the ridge are received, an ordered update of another module is staged
under its source, and lost links leave the paths. -/
def Obligations.RidgeEvents : Prop :=
  ∀ (s u : State) (unit off asid pn : Nat), unit < 8 → off < 2 ^ 50 → pn < 8 → s.Canonical → u.Canonical →
    let va := s.modNum.toNat * 2 ^ 54 + unit * 2 ^ 50 + off
    let idle : Prop := s.kernels = [] ∧ ∀ p i, (s.queue p i).en = false
    let gone (port : Nat) (t : State) : Prop := ((t.ridge.ports[port]?).map (·.up) = some false) ∧
      ∀ e ∈ t.ridge.paths, port ∉ e.2
    -- links
    (∀ port (x : RidgePort) (f : Flit), port < 16 → s.ridge.ports[port]? = some x → x.up = true →
      (f.crcOk = true → f.seq = x.expect → Yields s (.flitReceive port f) (fun t =>
        t.ridge.ports[port]? = some { x with expect := x.expect + 1, retries := 0 })) ∧
      (f.crcOk = true → f.seq ≠ x.expect → Yields s (.flitReceive port f) (fun t => t = s)) ∧
      -- a flit that fails is sent again; three retries that fail too kill the link (R437)
      (f.crcOk = false → x.retries < 3 → Yields s (.flitReceive port f) (fun t =>
        t.ridge.ports[port]? = some { x with retries := x.retries + 1 })) ∧
      (f.crcOk = false → 3 ≤ x.retries → Yields s (.flitReceive port f) (gone port)) ∧
      Yields s (.linkDead port) (gone port)) ∧
    (∀ m since, m < 1024 → assocGet s.ridge.cut m = some (since, false) →
      (since + 10000000 ≤ s.cycle → idle →
        Yields s (.pathLossTimeout m) (fun t => assocGet t.ridge.cut m = some (since, true))) ∧
      (s.cycle < since + 10000000 → Yields s (.pathLossTimeout m) (fun t => t = s))) ∧
    -- packets
    (∀ (src seq j pa : Nat), s.house.stage = 6 → s.ridge.early = [] → s.ridge.held = [] → s.ridge.due src = seq →
      s.stackPart unit = some pn → (s.part pn).resetting = false →
      let at_ (a : Nat) : WalkRequest := ⟨va, asid, a, 0, noCore pn⟩
      let who := Requester.ridge src
      -- the packet's turn has come (R436)
      let come (q : RidgePacket) : State := { s with ridge := { s.ridge with
        next := assocSet s.ridge.next src (seq + 1)
        held := [q] } }
      let packet (op : RidgeOp) : RidgePacket := ⟨src, seq, pn, asid, va, op⟩
      -- a write is in flight once it is served (R243)
      (∀ l x, l ≠ [] → va % 16 + l.length ≤ 16 → x = come (packet (.write l)) →
        x.openLine (at_ 2) l.length who = .ready u → u.ridge = x.ridge → (∀ f ∈ u.flight, f.who ≠ who) →
        x.locate (at_ 2) = .at (.hbm j pa false) → u.locate (at_ 2) = .at (.hbm j pa false) →
        Yields s (.ridgePacketReceive (packet (.write l))) (fun t =>
          if Config.inDomain src = true then
            t.mem = u.mem ∧ (t.landed who).peek (hbmKey j pa) l.length = l ∧ t.ridge.due src = seq + 1
          else t = s)) ∧
      -- partition pn exchanges traffic with partition pn alone (R438)
      (∀ l q, q ≠ pn → q < 8 → Yields s (.ridgePacketReceive { packet (.write l) with pn := q }) (fun t => t.mem = s.mem ∧
        (Config.inDomain src = true → t.ridge.due src = seq + 1))) ∧
      (∀ n x, 0 < n → va % 16 + n ≤ 16 → x = come (packet (.read n)) →
        x.openLine (at_ 1) n who = .ready u → u.ridge = x.ridge →
        x.locate (at_ 1) = .at (.hbm j pa false) → u.vbad (at_ 1) n = false →
        Yields s (.ridgePacketReceive (packet (.read n))) (fun t =>
          if Config.inDomain src = true then
            t.ridge.replies = s.ridge.replies ++ [(src, seq, some (u.vread (at_ 1) n))] ∧ t.ridge.due src = seq + 1
          else t = s)) ∧
      -- an ordered update of another module is staged under its own source (R373)
      (∀ kid core aop v x, s.staged = [] → src ≠ s.modNum.toNat →
        x = come (packet (.accumulate kid core aop true v)) →
        x.openSpan { at_ 3 with kid := x.pieceKid (at_ 3) } (accSize aop) who = .ready u → u.ridge = x.ridge →
        Yields s (.ridgePacketReceive (packet (.accumulate kid core aop true v))) (fun t =>
          if Config.inDomain src = true then t.mem = u.mem ∧ t.ridge.due src = seq + 1 ∧
            ∃ y, t.staged = [y] ∧ y.kid = kid ∧ y.va = va ∧ y.asid = asid ∧ y.srcMod = src ∧ y.srcCore = core ∧
              y.aop = aop ∧ y.val = v
          else t = s)) ∧
      (∀ k pa' l, Yields s (.ridgePacketReceive (packet (.belay k pa' l))) (fun t =>
        let paired : Prop := src = (s.modNum ^^^ 1).toNat ∧ s.stackPart k = some pn
        if Config.inDomain src = true then t.ridge.due src = seq + 1 ∧
          (paired → t.peek (hbmKey k pa') l.length = l) ∧ (¬ paired → t.mem = s.mem) else t = s)))

/-- R9, R398, R415, R429, R440 to R445: ingest windows, apertures and registers of the host port. That a write which
straddles SIZE is dropped whole is the model's reading (log 47), and so is when QRIDX is copied to K (log 42). -/
def Obligations.HostPortEvents : Prop :=
  ∀ (s u : State) (w pn : Nat), w < 16 → pn < 8 → s.Canonical → u.Canonical →
    let x := s.win w
    let p := s.part pn
    -- the function answers, and no posted write of it stands before (R440)
    let calm : Prop := s.functionOn pn = true ∧ p.arrivals = [] ∧ s.flight.any (s.ingested pn) = false
    let mine : Prop := s.winPart w = some pn ∧ calm
    let up : Prop := 5 ≤ s.house.stage ∧ s.house.stage ≠ 15
    -- windows
    (∀ off l j pa b, mine → x.en = true → l ≠ [] →
      let va := x.tgt + off
      let r : WalkRequest := ⟨va, x.asid, 2, x.kid.toNat, noCore pn⟩
      (off + l.length ≤ x.size → nbits va 54 10 = s.modNum.toNat → nbits va 50 4 < 10 → va % 256 + l.length ≤ 256 →
        s.openSpan r l.length (.ingest w) = .ready u → u.wins = s.wins → u.flight = s.flight →
        u.locate r = .at (.hbm j pa false) →
        Yields s (.ingestWrite w off l false) (fun t => t.mem = u.mem ∧
          (t.landed (.ingest w)).peek (hbmKey j pa) l.length = l ∧
          t.win w = { x with bytes := min (x.bytes + l.length) 0xFFFFFFFF })) ∧
      -- a poisoned write counts, dropped or not (R443, R445)
      (x.size < off + l.length → Yields s (.ingestWrite w off l b) (fun t => t.mem = s.mem ∧
        t.win w = { x with
          drop := min (x.drop + 1) 65535
          ovr := true
          psn := if b then min (x.psn + 1) 65535 else x.psn
          fpsn := if b then x.fpsn + 1 else x.fpsn }))) ∧
    (∀ tag, mine → x.held.length < 16 → Yields s (.wclose w tag) (fun t => t.win w =
      { x with
        serial := x.serial + 1
        ovr := false
        rf := false
        tf := false
        fpsn := 0
        bytes := 0
        held := x.held ++ [packLanes 32 64 (fun l => .ofNat 32 ([(if x.ovr then 2 ^ 31 else 0) +
          (if x.fpsn ≠ 0 then 2 ^ 30 else 0) + (if x.rf then 2 ^ 29 else 0) + (if x.tf then 2 ^ 28 else 0) + w,
          tag, (x.serial + 1).toNat, x.bytes, x.fpsn].getD l 0))] })) ∧
    -- a descriptor comes after every write of its frame (R239)
    (∀ d l, x.held = d :: l → x.lost = false → x.core < 256 → 0 < (s.core x.core).room 8 →
      Yields s (.frameDescriptor w) (fun t => (t.win w).held = l ∧
        t.mem = (s.landed (.ingest w)).mem ∧ (∀ g ∈ t.flight, g.who = .ingest w → g.mirrored = true) ∧ ((t.core x.core).fifo 8).els =
        ((s.core x.core).fifo 8).els ++ [⟨x.kid, .vec d 0, 0, 256⟩])) ∧
    (∀ v, mine → v / 2 ^ 31 % 2 = 1 → Yields s (.wcfgEnable w v) (fun t => t.win w = { x with
      en := true
      asid := if x.en then x.asid else v / 2 ^ 16 % 2 ^ 13
      psn := 0
      drop := 0
      serial := 0
      ovr := false
      rf := false
      tf := false
      fpsn := 0
      bytes := 0 })) ∧
    -- apertures and registers
    (∀ off l n b, calm → p.stackSet.getLsbD p.aps = true →
      Yields s (.apertureAccess pn off (some l) n b) (fun t =>
        t.peek (hbmKey p.aps (off % 2 ^ 36)) l.length = l ∧
        (b = true → l ≠ [] → t.isBad (hbmKey p.aps (off % 2 ^ 36)) = true)) ∧
      Yields s (.apertureAccess pn off none n b) (fun t => t = s)) ∧
    (∀ v qn, calm → s.ridge.held = [] → v < 2 ^ 32 → qn < 64 →
      let q := s.queue pn qn
      let reg (off : Nat) (f : Part → Part) : Prop := Yields s (.registerWrite pn off v) (fun t => t = s.updPart pn f)
      reg 0x410 (fun p => { p with aps := v % 8 }) ∧ reg 0x508 (fun p => { p with tilen := v }) ∧
      reg 0x210 (fun p => { p with srcons := .ofNat 32 v }) ∧
      reg 0x308 (fun p => { p with
        frEn := decide (2 ^ 31 ≤ v)
        frTmo := v / 16 % 2 ^ 16
        frLog := max 4 (v % 16) }) ∧
      Yields s (.registerWrite pn (0x10000 + 0x40 * qn + 8) v) (fun t => t.queue pn qn =
        -- QRIDX never stands more than half a ring ahead of K (R403)
        let y : Queue := if q.en then q else { q with
          asid := v / 2 ^ 16 % 2 ^ 13
          pri := v / 16 % 4
          log := max 4 (v % 16) }
        { y with
          en := decide (2 ^ 31 ≤ v)
          kcopy := if 2 ^ y.log / 2 ≤ (y.ridx - y.kcopy).toNat then y.ridx else y.kcopy })) ∧
    (∀ off v, up → 0x1000 ≤ off → off + 4 ≤ 0x2000 → Yields s (.registerWrite 8 off v) (fun t =>
      t.peek (mbKey (off - 0x1000)) 4 = bytesLE 4 v))

/-- R18, R19, R441, R449 to R455: power-on stage by stage, with 2 clusters of each half mapped out and each logical
cluster on a sound one; reset, configuration and the operations of the mailbox. The model's choices here: MODULE_RESET
keeps memory and uncorrectable words (log 46); bit 0 of a write to a virtual function enables it (log 13); a path to
the paired module makes the mirror reachable (log 8). -/
def Obligations.HousekeepingEvents : Prop :=
  ∀ (s : State) (pn : Nat), pn < 8 → s.Canonical →
    let p := s.part pn
    let h := s.house
    let replies (res n : Nat) (t : State) : Prop := t.house.cmd = none ∧ t.house.res = res ∧ t.house.rlen = n
    -- the command is the one that waits to complete, or none waits (R452)
    let called (op : Nat) (a : List Byte) : Prop := h.cmd = none ∨ h.cmd = some (op, a)
    let boot := h.bootTick
    let many : Prop := ∃ i, i < 2 ∧ 2 < ((bootClusters boot).filter (fun m => m / 34 == i)).length
    let stage (n : Nat) (P : State → Prop) : Prop := h.stage = n → Yields s .powerOn (fun t => t.kernels = s.kernels ∧
      (t.house.stage < 6 → t.agenda = .powerOn :: s.agenda) ∧ P t)
    let up : Prop := 5 ≤ h.stage ∧ h.stage ≠ 15
    let word (a : List Byte) (b n : Nat) : Nat := ofBytesLE ((a.drop b).take n)
    -- power and reset
    stage 0 (fun t => t.house.stage = 1 ∧ t.house.bootTick = s.tick ∧ t.cores = s.cores) ∧
    stage 1 (fun t => t.cores = s.cores ∧ t.house.stage = if Config.firmwareOk boot = true then 2 else 15) ∧
    stage 2 (fun t => t.cores = s.cores ∧
      ((∃ k, k < 8 ∧ Config.stackFails boot k = true) → t.house.stage = 15) ∧
      ((∀ k, k < 8 → Config.stackFails boot k = false) → t.house.stage = 3)) ∧
    stage 3 (fun t => t.cores = s.cores ∧ (many → t.house.stage = 15) ∧ (¬ many → t.house.stage = 4)) ∧
    stage 4 (fun t => t.house.stage = 5 ∧
      (∀ c, c < 256 → 8 ≤ (t.core c).margin.gua ∧ (t.core c).margin.gua ≤ 24 ∧
        (t.core c).margin.cur = (t.core c).margin.gua ∧ (t.core c).spt ≤ 2) ∧
      -- 2 clusters of each half are mapped out, and each logical cluster is a sound one of its half (R18, R19)
      t.mappedOut.Nodup ∧
      (∀ i, i < 2 → (t.mappedOut.filter (fun m => m / 34 == i)).length = 2) ∧ t.sites.length = 64 ∧ t.sites.Nodup ∧
      ∀ n a, t.sites[n]? = some a → a ∉ t.mappedOut ∧ a / 34 = n % 8 / 4 ∧
        ((∀ i, i < 32 → 34 * (n % 8 / 4) + i ∉ t.mappedOut) → a = 34 * (n % 8 / 4) + 4 * (n / 8) + n % 4)) ∧
    stage 5 (fun t => t.house.stage = 6 ∧ t.cores = s.cores ∧
      (Config.storedConfig boot = none → t.modNum = s.modNum ∧ t.parts = s.parts)) ∧
    (6 ≤ h.stage → Yields s .powerOn (fun t => t.house.stage = 1 ∧ t.house.bootTick = s.tick ∧
      t.agenda = .powerOn :: s.agenda ∧ t.cores = State.reset.cores ∧ t.kernels = [] ∧ ∀ a, t.byte a = 0)) ∧
    Yields s .moduleReset (fun t => t.house.stage = 0 ∧ t.agenda = .powerOn :: s.agenda.filter (· ≠ .powerOn) ∧
      (∀ c, c < 256 → t.core c = { Core.reset with fev := (s.core c).fev }) ∧
      t.kernels = [] ∧ t.cycle = s.cycle ∧ t.bad = s.bad ∧
      ∀ a, a < tlogKey 0 ∨ tlogKey 0 + 8192 ≤ a → t.byte a = s.byte a) ∧
    -- the mailbox
    -- MBCMD sets BUSY; while BUSY = 1 it is ignored, and no other operation completes (R452)
    (∀ v, 5 ≤ h.stage → h.cmd = none → Yields s (.registerWrite 8 0 v) (fun t => t = { s with house := { h with
      cmd := some (v / 2 ^ 24 % 256, s.peek (mbKey 0) (min (v % 2 ^ 24) 4097)) } })) ∧
    (∀ v a x, h.cmd = some x → x ≠ (1, a) → Yields s (.registerWrite 8 0 v) (fun t => t = s) ∧
      Yields s (.configOp a) (fun t => t = s)) ∧
    (∀ a, up → called 1 a → a.length = 136 → configOk a = true → s.anyQueueOn = false →
      Yields s (.configOp a) (fun t => replies 0 0 t ∧ t.modNum = .ofNat 10 (word a 0 2) ∧ t.house.report = none ∧
        (t.part pn).groups = .ofNat 8 (word a (8 + 16 * pn) 1) ∧ (t.part pn).stackSet = .ofNat 8 (word a (9 + 16 * pn) 1) ∧
        (t.part pn).asidBase = word a (10 + 16 * pn) 2 ∧ (t.part pn).asidCount = word a (12 + 16 * pn) 2 ∧
        (t.part pn).windows = .ofNat 16 (word a (14 + 16 * pn) 2))) ∧
    (∀ a, called 1 a → h.stage = 15 → Yields s (.configOp a) (replies 5 0)) ∧
    (∀ a, up → called 2 a → a.length = 16 → 32 ≤ word a 0 4 → word a 0 4 ≤ 255 → s.kernels = [] →
      let image := s.peek (busKey (word a 8 8)) (word a 4 4)
      Yields s (.routineOp a) (fun t => if Config.imageOk image = true
        then replies 0 0 t ∧ t.house.images = imageInsert (word a 0 4) (Config.sha384 image) h.images
        else replies 4 0 t ∧ t.house.images = h.images)) ∧
    (∀ a, up → called 4 a → a.length = 4 → 32 ≤ word a 0 4 → word a 0 4 ≤ 255 → s.kernels = [] →
      Yields s (.unloadOp a) (fun t => replies 0 0 t ∧
        ∀ e, e ∈ t.house.images ↔ e ∈ h.images ∧ e.1 ≠ word a 0 4)) ∧
    (∀ a, 5 ≤ h.stage → called 3 a → a.length = 32 →
      let r := s.buildReport a
      Yields s (.attestOp a) (fun t => t.house.report = some (.ofNat 256 (ofBytesLE a), r) ∧
        replies 0 (8 + min 4088 r.length) t ∧
        t.peek (mbKey 0) (8 + min 4088 r.length) = bytesLE 4 r.length ++ bytesLE 4 0 ++ r.take 4088)) ∧
    (∀ op n, op = 0 ∨ 4 < op → (h.cmd = none ∨ ∃ a, h.cmd = some (op, a)) → (up → Yields s (.badOp op n) (replies 1 0)) ∧
      (h.stage = 15 → Yields s (.badOp op n) (replies 5 0))) ∧
    (∀ reg v, h.stage = 6 → p.groups ≠ 0 → Yields s (.configurationRequest (pn + 1) reg (some v)) (fun t =>
      (pn ∈ t.house.vfs ↔ v % 2 = 1) ∧ ∀ j, j ≠ pn → (j ∈ t.house.vfs ↔ j ∈ h.vfs))) ∧
    (∀ dest ports, h.stage ≠ 15 → ports.length ≤ 8 →
      (∀ i ∈ ports, ∃ y, s.ridge.ports[i]? = some y ∧ y.up = true) →
      Yields s (.i3cManagement (.setPaths dest ports)) (fun t => assocGet t.ridge.paths dest = some ports ∧
        (dest = (s.modNum ^^^ 1).toNat → (t.mirrorUp = true ↔ ports ≠ []) ∧
          -- the re-mirror copies what the stacks hold (R416, R434)
          (ports ≠ [] → s.mirrorUp = false → ∀ k a, k < 8 → k ∉ s.lostStacks → a < 2 ^ 36 →
            t.byte (mirrorKey k a) = s.byte (hbmKey k a) ∧ t.byte (hbmKey k a) = s.byte (hbmKey k a))))) ∧
    Yields s (.i3cManagement .query) (fun t => t = s)

/-! ### Words, steps and the whole module -/

/-- R97, R101, R106 to R112: when the agenda names the issue of core c, and the cairns of its rope stand where nothing
comes before their bundle, the step runs the instruction that the bundle's word encodes, some time later. -/
def Obligations.StepRunsDecoded : Prop :=
  ∀ (s : State) (c k w : Nat) (i : Instr) (l : List Instr), c < 256 → k < 8 → w < 2 ^ 32 → decodeSlot k w = .ok i →
    s.agenda = .bundleIssue c :: l →
    let x : State := { s.later with agenda := l }
    (∀ d ∈ x.ropeCores c, (x.core d).run.isSome = true ∧ x.grantable d = false ∧ (x.core d).seq.upset = none ∧
      (x.core d).seq.owes = none) →
    (∃ d ∈ x.ropeCores c, (x.core d).ripe = false) → x.mayIssue (x.ropeCores c) = true →
    x.reached (x.leader c) = .bundle (fetchBundle k w) →
    step s = exec i { x with focus := c, lit := .ofNat 32 (if k = 2 then w else 0) }

/-- R75 to R77, R106 to R112: decoding the encoding of a well-formed instruction gives it back, with every operand. -/
def Obligations.EncodeThenDecode : Prop :=
  ∀ (i : Instr) (k w : Nat), i.wf = true → encode i = some (k, w) → k < 8 ∧ w < 2 ^ 32 ∧ decodeSlot k w = .ok i

/-- Every step keeps memory in its canonical form: keys strictly rising, no byte 0 listed (log 2). -/
def Obligations.StepKeepsCanonical : Prop := ∀ (s t : State), s.Canonical → step s = .next t → t.Canonical

/-- R222, R296, R313, R326, R398, R423, R427, R440, R443, R449: what power-on leaves before bring-up. The bytes of memory
and the registers without a stated value are the model's choice (log 1, log 2). -/
def Obligations.ResetState : Prop :=
  let s := State.reset
  s.agenda = [.powerOn] ∧ s.house.stage = 0 ∧ s.cycle = 0 ∧ s.kernels = [] ∧ s.Canonical ∧ (∀ a, s.byte a = 0) ∧
  (∀ c, c < 256 → (s.core c).run = none ∧ (s.core c).mat.act = false ∧ (s.core c).mat.owner = none ∧
    (∀ t, t < 8 → ((s.core c).mat.tile t).st = .uncfg) ∧ (∀ q, q < 33 → ((s.core c).fifo q).els = []) ∧
    (s.core c).margin.cur = (s.core c).margin.gua ∧ (s.core c).margin.quar = false ∧ (s.core c).margin.thr = 64 ∧ (s.core c).margin.rpw = 1048576 ∧
    (s.core c).margin.lim = 3 ∧ (s.core c).spt ≤ 2) ∧
  (∀ c, c < 64 → (s.cluster c).age = 65536 ∧ (s.cluster c).runq = []) ∧
  (∀ p q, p < 8 → q < 64 → (s.queue p q).en = false ∧ (s.queue p q).log = 4 ∧ (s.queue p q).halt = false) ∧
  (∀ p, p < 8 → (s.part p).frEn = false ∧ (s.part p).frTmo = 100 ∧ (s.part p).frLog = 4 ∧ (s.part p).srLog = 4) ∧
  ∀ w, w < 16 → (s.win w).en = false

/-- R87 to R92, R107 to R112: words of the spec's encodings, one or more for each slot, and what they decode to. -/
def Obligations.SampleWords : Prop :=
  decodeSlot 0 0x81608023 = .ok (.cread true false 0 2 0x023) ∧
  decodeSlot 1 0x09628C3E = .ok (.ffma .a 0 5 6 7 6) ∧
  decodeSlot 2 0x09628C3E = .ok (.ffma .b 0 5 6 7 6) ∧
  decodeSlot 3 0x010103FF = .ok (.stw 0 2 1 0x1FF) ∧
  decodeSlot 3 0x02280420 = .ok (.stv 0 8 1 4 0) ∧
  decodeSlot 4 0x00242991 = .ok (.vadd .v 0 4 5 6 2 1) ∧
  decodeSlot 4 0x03830880 = .ok (.vcmpLtu .v 0 3 1 2 0 0) ∧
  decodeSlot 4 0x0407406A = .ok (.vaddX .v 0 7 8 3 1 2) ∧
  decodeSlot 5 0xA7000880 = .ok (.vperm .w 10 0 1 2 0 0) ∧
  decodeSlot 5 0x0A684A8E = .ok (.vffmaF .w 0 8 9 10 1 6) ∧
  decodeSlot 6 0x0027F000 = .ok (.mparmLo 0 1 63) ∧
  decodeSlot 6 0x004041C0 = .ok (.mcall 0 2 7 0) ∧
  decodeSlot 6 0x00C40060 = .ok (.trowW 0 4 0 3 0) ∧
  decodeSlot 7 0x00301400 = .ok (.spush 0 16 5) ∧
  decodeSlot 7 0x00D0FA24 = .ok (.sroute 0 16 62 0x224) ∧
  decodeSlot 7 0x01084898 = .ok (.sacc 0 8 9 1 1 1)
end

