-- ==== Sys2Proof/Laws/State.lean ====
section
/-!
SUPPORT. The accessors of State after each of its updates: one lemma per field and update.
-/
namespace Sys2Proof.Machine

/-! ### The core in focus and the others -/

theorem core_setCore_same (s : State) (c : Nat) (k : Core) (h : c < 256) : (s.setCore c k).core c = k := by
  simp [State.setCore, State.core, h]
theorem core_setCore_other (s : State) (c d : Nat) (k : Core) (h : d ≠ c) :
    (s.setCore c k).core d = s.core d := by
  simp [State.setCore, State.core, h.symm]
theorem core_updCore_same (s : State) (c : Nat) (f : Core → Core) (h : c < 256) :
    (s.updCore c f).core c = f (s.core c) := core_setCore_same s c _ h
theorem core_updCore_other (s : State) (c d : Nat) (f : Core → Core) (h : d ≠ c) :
    (s.updCore c f).core d = s.core d := core_setCore_other s c d _ h

theorem setCore_setCore (s : State) (c : Nat) (k l : Core) : (s.setCore c k).setCore c l = s.setCore c l := by
  simp [State.setCore, Vector.setIfInBounds_setIfInBounds]
theorem updCore_eq (s : State) (c : Nat) (f : Core → Core) : s.updCore c f = s.setCore c (f (s.core c)) := rfl

/-- A second update of a core is an update by the composition. -/
theorem updCore_updCore (s : State) (c : Nat) (f g : Core → Core) (h : c < 256) :
    (s.updCore c f).updCore c g = s.updCore c (fun k => g (f k)) := by
  rw [updCore_eq (s.updCore c f), core_updCore_same _ _ _ h, updCore_eq, setCore_setCore, updCore_eq]

@[simp] theorem setCore_byte (s : State) (c : Nat) (k : Core) (a : Nat) : (s.setCore c k).byte a = s.byte a := rfl

@[simp] theorem updCore_byte (s : State) (c : Nat) (f : Core → Core) (a : Nat) : (s.updCore c f).byte a = s.byte a := rfl

/-! ### Every field of State after each of its updates -/

@[simp] theorem setCore_tick (s : State) (c : Nat) (k : Core) : (s.setCore c k).tick = s.tick := rfl
@[simp] theorem setCore_agenda (s : State) (c : Nat) (k : Core) : (s.setCore c k).agenda = s.agenda := rfl
@[simp] theorem setCore_focus (s : State) (c : Nat) (k : Core) : (s.setCore c k).focus = s.focus := rfl
@[simp] theorem setCore_lit (s : State) (c : Nat) (k : Core) : (s.setCore c k).lit = s.lit := rfl
@[simp] theorem setCore_cycle (s : State) (c : Nat) (k : Core) : (s.setCore c k).cycle = s.cycle := rfl
@[simp] theorem setCore_modNum (s : State) (c : Nat) (k : Core) : (s.setCore c k).modNum = s.modNum := rfl
@[simp] theorem setCore_clusters (s : State) (c : Nat) (k : Core) : (s.setCore c k).clusters = s.clusters := rfl
@[simp] theorem setCore_mappedOut (s : State) (c : Nat) (k : Core) : (s.setCore c k).mappedOut = s.mappedOut := rfl
@[simp] theorem setCore_sites (s : State) (c : Nat) (k : Core) : (s.setCore c k).sites = s.sites := rfl
@[simp] theorem setCore_mem (s : State) (c : Nat) (k : Core) : (s.setCore c k).mem = s.mem := rfl
@[simp] theorem setCore_bad (s : State) (c : Nat) (k : Core) : (s.setCore c k).bad = s.bad := rfl
@[simp] theorem setCore_lostStacks (s : State) (c : Nat) (k : Core) : (s.setCore c k).lostStacks = s.lostStacks := rfl
@[simp] theorem setCore_flight (s : State) (c : Nat) (k : Core) : (s.setCore c k).flight = s.flight := rfl
@[simp] theorem setCore_monitors (s : State) (c : Nat) (k : Core) : (s.setCore c k).monitors = s.monitors := rfl
@[simp] theorem setCore_parts (s : State) (c : Nat) (k : Core) : (s.setCore c k).parts = s.parts := rfl
@[simp] theorem setCore_kernels (s : State) (c : Nat) (k : Core) : (s.setCore c k).kernels = s.kernels := rfl
@[simp] theorem setCore_records (s : State) (c : Nat) (k : Core) : (s.setCore c k).records = s.records := rfl
@[simp] theorem setCore_launches (s : State) (c : Nat) (k : Core) : (s.setCore c k).launches = s.launches := rfl
@[simp] theorem setCore_tlb (s : State) (c : Nat) (k : Core) : (s.setCore c k).tlb = s.tlb := rfl
@[simp] theorem setCore_pins (s : State) (c : Nat) (k : Core) : (s.setCore c k).pins = s.pins := rfl
@[simp] theorem setCore_failed (s : State) (c : Nat) (k : Core) : (s.setCore c k).failed = s.failed := rfl
@[simp] theorem setCore_mirrorUp (s : State) (c : Nat) (k : Core) : (s.setCore c k).mirrorUp = s.mirrorUp := rfl
@[simp] theorem setCore_wins (s : State) (c : Nat) (k : Core) : (s.setCore c k).wins = s.wins := rfl
@[simp] theorem setCore_ridge (s : State) (c : Nat) (k : Core) : (s.setCore c k).ridge = s.ridge := rfl
@[simp] theorem setCore_house (s : State) (c : Nat) (k : Core) : (s.setCore c k).house = s.house := rfl
@[simp] theorem setCore_seen (s : State) (c : Nat) (k : Core) : (s.setCore c k).seen = s.seen := rfl
@[simp] theorem setCore_staged (s : State) (c : Nat) (k : Core) : (s.setCore c k).staged = s.staged := rfl
@[simp] theorem setCore_sweeps (s : State) (c : Nat) (k : Core) : (s.setCore c k).sweeps = s.sweeps := rfl

@[simp] theorem updCore_tick (s : State) (c : Nat) (f : Core → Core) : (s.updCore c f).tick = s.tick := rfl
@[simp] theorem updCore_agenda (s : State) (c : Nat) (f : Core → Core) : (s.updCore c f).agenda = s.agenda := rfl
@[simp] theorem updCore_focus (s : State) (c : Nat) (f : Core → Core) : (s.updCore c f).focus = s.focus := rfl
@[simp] theorem updCore_lit (s : State) (c : Nat) (f : Core → Core) : (s.updCore c f).lit = s.lit := rfl
@[simp] theorem updCore_cycle (s : State) (c : Nat) (f : Core → Core) : (s.updCore c f).cycle = s.cycle := rfl
@[simp] theorem updCore_modNum (s : State) (c : Nat) (f : Core → Core) : (s.updCore c f).modNum = s.modNum := rfl
@[simp] theorem updCore_clusters (s : State) (c : Nat) (f : Core → Core) : (s.updCore c f).clusters = s.clusters := rfl
@[simp] theorem updCore_mappedOut (s : State) (c : Nat) (f : Core → Core) : (s.updCore c f).mappedOut = s.mappedOut := rfl
@[simp] theorem updCore_sites (s : State) (c : Nat) (f : Core → Core) : (s.updCore c f).sites = s.sites := rfl
@[simp] theorem updCore_mem (s : State) (c : Nat) (f : Core → Core) : (s.updCore c f).mem = s.mem := rfl
@[simp] theorem updCore_bad (s : State) (c : Nat) (f : Core → Core) : (s.updCore c f).bad = s.bad := rfl
@[simp] theorem updCore_lostStacks (s : State) (c : Nat) (f : Core → Core) : (s.updCore c f).lostStacks = s.lostStacks := rfl
@[simp] theorem updCore_flight (s : State) (c : Nat) (f : Core → Core) : (s.updCore c f).flight = s.flight := rfl
@[simp] theorem updCore_monitors (s : State) (c : Nat) (f : Core → Core) : (s.updCore c f).monitors = s.monitors := rfl
@[simp] theorem updCore_parts (s : State) (c : Nat) (f : Core → Core) : (s.updCore c f).parts = s.parts := rfl
@[simp] theorem updCore_kernels (s : State) (c : Nat) (f : Core → Core) : (s.updCore c f).kernels = s.kernels := rfl
@[simp] theorem updCore_records (s : State) (c : Nat) (f : Core → Core) : (s.updCore c f).records = s.records := rfl
@[simp] theorem updCore_launches (s : State) (c : Nat) (f : Core → Core) : (s.updCore c f).launches = s.launches := rfl
@[simp] theorem updCore_tlb (s : State) (c : Nat) (f : Core → Core) : (s.updCore c f).tlb = s.tlb := rfl
@[simp] theorem updCore_pins (s : State) (c : Nat) (f : Core → Core) : (s.updCore c f).pins = s.pins := rfl
@[simp] theorem updCore_failed (s : State) (c : Nat) (f : Core → Core) : (s.updCore c f).failed = s.failed := rfl
@[simp] theorem updCore_mirrorUp (s : State) (c : Nat) (f : Core → Core) : (s.updCore c f).mirrorUp = s.mirrorUp := rfl
@[simp] theorem updCore_wins (s : State) (c : Nat) (f : Core → Core) : (s.updCore c f).wins = s.wins := rfl
@[simp] theorem updCore_ridge (s : State) (c : Nat) (f : Core → Core) : (s.updCore c f).ridge = s.ridge := rfl
@[simp] theorem updCore_house (s : State) (c : Nat) (f : Core → Core) : (s.updCore c f).house = s.house := rfl
@[simp] theorem updCore_seen (s : State) (c : Nat) (f : Core → Core) : (s.updCore c f).seen = s.seen := rfl
@[simp] theorem updCore_staged (s : State) (c : Nat) (f : Core → Core) : (s.updCore c f).staged = s.staged := rfl
@[simp] theorem updCore_sweeps (s : State) (c : Nat) (f : Core → Core) : (s.updCore c f).sweeps = s.sweeps := rfl

@[simp] theorem updCluster_tick (s : State) (c : Nat) (f : Cluster → Cluster) : (s.updCluster c f).tick = s.tick := rfl
@[simp] theorem updCluster_agenda (s : State) (c : Nat) (f : Cluster → Cluster) : (s.updCluster c f).agenda = s.agenda := rfl
@[simp] theorem updCluster_focus (s : State) (c : Nat) (f : Cluster → Cluster) : (s.updCluster c f).focus = s.focus := rfl
@[simp] theorem updCluster_lit (s : State) (c : Nat) (f : Cluster → Cluster) : (s.updCluster c f).lit = s.lit := rfl
@[simp] theorem updCluster_cycle (s : State) (c : Nat) (f : Cluster → Cluster) : (s.updCluster c f).cycle = s.cycle := rfl
@[simp] theorem updCluster_modNum (s : State) (c : Nat) (f : Cluster → Cluster) : (s.updCluster c f).modNum = s.modNum := rfl
@[simp] theorem updCluster_cores (s : State) (c : Nat) (f : Cluster → Cluster) : (s.updCluster c f).cores = s.cores := rfl
@[simp] theorem updCluster_mappedOut (s : State) (c : Nat) (f : Cluster → Cluster) : (s.updCluster c f).mappedOut = s.mappedOut := rfl
@[simp] theorem updCluster_sites (s : State) (c : Nat) (f : Cluster → Cluster) : (s.updCluster c f).sites = s.sites := rfl
@[simp] theorem updCluster_mem (s : State) (c : Nat) (f : Cluster → Cluster) : (s.updCluster c f).mem = s.mem := rfl
@[simp] theorem updCluster_bad (s : State) (c : Nat) (f : Cluster → Cluster) : (s.updCluster c f).bad = s.bad := rfl
@[simp] theorem updCluster_lostStacks (s : State) (c : Nat) (f : Cluster → Cluster) : (s.updCluster c f).lostStacks = s.lostStacks := rfl
@[simp] theorem updCluster_flight (s : State) (c : Nat) (f : Cluster → Cluster) : (s.updCluster c f).flight = s.flight := rfl
@[simp] theorem updCluster_monitors (s : State) (c : Nat) (f : Cluster → Cluster) : (s.updCluster c f).monitors = s.monitors := rfl
@[simp] theorem updCluster_parts (s : State) (c : Nat) (f : Cluster → Cluster) : (s.updCluster c f).parts = s.parts := rfl
@[simp] theorem updCluster_kernels (s : State) (c : Nat) (f : Cluster → Cluster) : (s.updCluster c f).kernels = s.kernels := rfl
@[simp] theorem updCluster_records (s : State) (c : Nat) (f : Cluster → Cluster) : (s.updCluster c f).records = s.records := rfl
@[simp] theorem updCluster_launches (s : State) (c : Nat) (f : Cluster → Cluster) : (s.updCluster c f).launches = s.launches := rfl
@[simp] theorem updCluster_tlb (s : State) (c : Nat) (f : Cluster → Cluster) : (s.updCluster c f).tlb = s.tlb := rfl
@[simp] theorem updCluster_pins (s : State) (c : Nat) (f : Cluster → Cluster) : (s.updCluster c f).pins = s.pins := rfl
@[simp] theorem updCluster_failed (s : State) (c : Nat) (f : Cluster → Cluster) : (s.updCluster c f).failed = s.failed := rfl
@[simp] theorem updCluster_mirrorUp (s : State) (c : Nat) (f : Cluster → Cluster) : (s.updCluster c f).mirrorUp = s.mirrorUp := rfl
@[simp] theorem updCluster_wins (s : State) (c : Nat) (f : Cluster → Cluster) : (s.updCluster c f).wins = s.wins := rfl
@[simp] theorem updCluster_ridge (s : State) (c : Nat) (f : Cluster → Cluster) : (s.updCluster c f).ridge = s.ridge := rfl
@[simp] theorem updCluster_house (s : State) (c : Nat) (f : Cluster → Cluster) : (s.updCluster c f).house = s.house := rfl
@[simp] theorem updCluster_seen (s : State) (c : Nat) (f : Cluster → Cluster) : (s.updCluster c f).seen = s.seen := rfl
@[simp] theorem updCluster_staged (s : State) (c : Nat) (f : Cluster → Cluster) : (s.updCluster c f).staged = s.staged := rfl
@[simp] theorem updCluster_sweeps (s : State) (c : Nat) (f : Cluster → Cluster) : (s.updCluster c f).sweeps = s.sweeps := rfl

@[simp] theorem updPart_tick (s : State) (c : Nat) (f : Part → Part) : (s.updPart c f).tick = s.tick := rfl
@[simp] theorem updPart_agenda (s : State) (c : Nat) (f : Part → Part) : (s.updPart c f).agenda = s.agenda := rfl
@[simp] theorem updPart_focus (s : State) (c : Nat) (f : Part → Part) : (s.updPart c f).focus = s.focus := rfl
@[simp] theorem updPart_lit (s : State) (c : Nat) (f : Part → Part) : (s.updPart c f).lit = s.lit := rfl
@[simp] theorem updPart_cycle (s : State) (c : Nat) (f : Part → Part) : (s.updPart c f).cycle = s.cycle := rfl
@[simp] theorem updPart_modNum (s : State) (c : Nat) (f : Part → Part) : (s.updPart c f).modNum = s.modNum := rfl
@[simp] theorem updPart_cores (s : State) (c : Nat) (f : Part → Part) : (s.updPart c f).cores = s.cores := rfl
@[simp] theorem updPart_clusters (s : State) (c : Nat) (f : Part → Part) : (s.updPart c f).clusters = s.clusters := rfl
@[simp] theorem updPart_mappedOut (s : State) (c : Nat) (f : Part → Part) : (s.updPart c f).mappedOut = s.mappedOut := rfl
@[simp] theorem updPart_sites (s : State) (c : Nat) (f : Part → Part) : (s.updPart c f).sites = s.sites := rfl
@[simp] theorem updPart_mem (s : State) (c : Nat) (f : Part → Part) : (s.updPart c f).mem = s.mem := rfl
@[simp] theorem updPart_bad (s : State) (c : Nat) (f : Part → Part) : (s.updPart c f).bad = s.bad := rfl
@[simp] theorem updPart_lostStacks (s : State) (c : Nat) (f : Part → Part) : (s.updPart c f).lostStacks = s.lostStacks := rfl
@[simp] theorem updPart_flight (s : State) (c : Nat) (f : Part → Part) : (s.updPart c f).flight = s.flight := rfl
@[simp] theorem updPart_monitors (s : State) (c : Nat) (f : Part → Part) : (s.updPart c f).monitors = s.monitors := rfl
@[simp] theorem updPart_kernels (s : State) (c : Nat) (f : Part → Part) : (s.updPart c f).kernels = s.kernels := rfl
@[simp] theorem updPart_records (s : State) (c : Nat) (f : Part → Part) : (s.updPart c f).records = s.records := rfl
@[simp] theorem updPart_launches (s : State) (c : Nat) (f : Part → Part) : (s.updPart c f).launches = s.launches := rfl
@[simp] theorem updPart_tlb (s : State) (c : Nat) (f : Part → Part) : (s.updPart c f).tlb = s.tlb := rfl
@[simp] theorem updPart_pins (s : State) (c : Nat) (f : Part → Part) : (s.updPart c f).pins = s.pins := rfl
@[simp] theorem updPart_failed (s : State) (c : Nat) (f : Part → Part) : (s.updPart c f).failed = s.failed := rfl
@[simp] theorem updPart_mirrorUp (s : State) (c : Nat) (f : Part → Part) : (s.updPart c f).mirrorUp = s.mirrorUp := rfl
@[simp] theorem updPart_wins (s : State) (c : Nat) (f : Part → Part) : (s.updPart c f).wins = s.wins := rfl
@[simp] theorem updPart_ridge (s : State) (c : Nat) (f : Part → Part) : (s.updPart c f).ridge = s.ridge := rfl
@[simp] theorem updPart_house (s : State) (c : Nat) (f : Part → Part) : (s.updPart c f).house = s.house := rfl
@[simp] theorem updPart_seen (s : State) (c : Nat) (f : Part → Part) : (s.updPart c f).seen = s.seen := rfl
@[simp] theorem updPart_staged (s : State) (c : Nat) (f : Part → Part) : (s.updPart c f).staged = s.staged := rfl
@[simp] theorem updPart_sweeps (s : State) (c : Nat) (f : Part → Part) : (s.updPart c f).sweeps = s.sweeps := rfl

@[simp] theorem updQueue_tick (s : State) (c d : Nat) (f : Queue → Queue) : (s.updQueue c d f).tick = s.tick := rfl
@[simp] theorem updQueue_agenda (s : State) (c d : Nat) (f : Queue → Queue) : (s.updQueue c d f).agenda = s.agenda := rfl
@[simp] theorem updQueue_focus (s : State) (c d : Nat) (f : Queue → Queue) : (s.updQueue c d f).focus = s.focus := rfl
@[simp] theorem updQueue_lit (s : State) (c d : Nat) (f : Queue → Queue) : (s.updQueue c d f).lit = s.lit := rfl
@[simp] theorem updQueue_cycle (s : State) (c d : Nat) (f : Queue → Queue) : (s.updQueue c d f).cycle = s.cycle := rfl
@[simp] theorem updQueue_modNum (s : State) (c d : Nat) (f : Queue → Queue) : (s.updQueue c d f).modNum = s.modNum := rfl
@[simp] theorem updQueue_cores (s : State) (c d : Nat) (f : Queue → Queue) : (s.updQueue c d f).cores = s.cores := rfl
@[simp] theorem updQueue_clusters (s : State) (c d : Nat) (f : Queue → Queue) : (s.updQueue c d f).clusters = s.clusters := rfl
@[simp] theorem updQueue_mappedOut (s : State) (c d : Nat) (f : Queue → Queue) : (s.updQueue c d f).mappedOut = s.mappedOut := rfl
@[simp] theorem updQueue_sites (s : State) (c d : Nat) (f : Queue → Queue) : (s.updQueue c d f).sites = s.sites := rfl
@[simp] theorem updQueue_mem (s : State) (c d : Nat) (f : Queue → Queue) : (s.updQueue c d f).mem = s.mem := rfl
@[simp] theorem updQueue_bad (s : State) (c d : Nat) (f : Queue → Queue) : (s.updQueue c d f).bad = s.bad := rfl
@[simp] theorem updQueue_lostStacks (s : State) (c d : Nat) (f : Queue → Queue) : (s.updQueue c d f).lostStacks = s.lostStacks := rfl
@[simp] theorem updQueue_flight (s : State) (c d : Nat) (f : Queue → Queue) : (s.updQueue c d f).flight = s.flight := rfl
@[simp] theorem updQueue_monitors (s : State) (c d : Nat) (f : Queue → Queue) : (s.updQueue c d f).monitors = s.monitors := rfl
@[simp] theorem updQueue_kernels (s : State) (c d : Nat) (f : Queue → Queue) : (s.updQueue c d f).kernels = s.kernels := rfl
@[simp] theorem updQueue_records (s : State) (c d : Nat) (f : Queue → Queue) : (s.updQueue c d f).records = s.records := rfl
@[simp] theorem updQueue_launches (s : State) (c d : Nat) (f : Queue → Queue) : (s.updQueue c d f).launches = s.launches := rfl
@[simp] theorem updQueue_tlb (s : State) (c d : Nat) (f : Queue → Queue) : (s.updQueue c d f).tlb = s.tlb := rfl
@[simp] theorem updQueue_pins (s : State) (c d : Nat) (f : Queue → Queue) : (s.updQueue c d f).pins = s.pins := rfl
@[simp] theorem updQueue_failed (s : State) (c d : Nat) (f : Queue → Queue) : (s.updQueue c d f).failed = s.failed := rfl
@[simp] theorem updQueue_mirrorUp (s : State) (c d : Nat) (f : Queue → Queue) : (s.updQueue c d f).mirrorUp = s.mirrorUp := rfl
@[simp] theorem updQueue_wins (s : State) (c d : Nat) (f : Queue → Queue) : (s.updQueue c d f).wins = s.wins := rfl
@[simp] theorem updQueue_ridge (s : State) (c d : Nat) (f : Queue → Queue) : (s.updQueue c d f).ridge = s.ridge := rfl
@[simp] theorem updQueue_house (s : State) (c d : Nat) (f : Queue → Queue) : (s.updQueue c d f).house = s.house := rfl
@[simp] theorem updQueue_seen (s : State) (c d : Nat) (f : Queue → Queue) : (s.updQueue c d f).seen = s.seen := rfl
@[simp] theorem updQueue_staged (s : State) (c d : Nat) (f : Queue → Queue) : (s.updQueue c d f).staged = s.staged := rfl
@[simp] theorem updQueue_sweeps (s : State) (c d : Nat) (f : Queue → Queue) : (s.updQueue c d f).sweeps = s.sweeps := rfl

@[simp] theorem updWin_tick (s : State) (c : Nat) (f : Window → Window) : (s.updWin c f).tick = s.tick := rfl
@[simp] theorem updWin_agenda (s : State) (c : Nat) (f : Window → Window) : (s.updWin c f).agenda = s.agenda := rfl
@[simp] theorem updWin_focus (s : State) (c : Nat) (f : Window → Window) : (s.updWin c f).focus = s.focus := rfl
@[simp] theorem updWin_lit (s : State) (c : Nat) (f : Window → Window) : (s.updWin c f).lit = s.lit := rfl
@[simp] theorem updWin_cycle (s : State) (c : Nat) (f : Window → Window) : (s.updWin c f).cycle = s.cycle := rfl
@[simp] theorem updWin_modNum (s : State) (c : Nat) (f : Window → Window) : (s.updWin c f).modNum = s.modNum := rfl
@[simp] theorem updWin_cores (s : State) (c : Nat) (f : Window → Window) : (s.updWin c f).cores = s.cores := rfl
@[simp] theorem updWin_clusters (s : State) (c : Nat) (f : Window → Window) : (s.updWin c f).clusters = s.clusters := rfl
@[simp] theorem updWin_mappedOut (s : State) (c : Nat) (f : Window → Window) : (s.updWin c f).mappedOut = s.mappedOut := rfl
@[simp] theorem updWin_sites (s : State) (c : Nat) (f : Window → Window) : (s.updWin c f).sites = s.sites := rfl
@[simp] theorem updWin_mem (s : State) (c : Nat) (f : Window → Window) : (s.updWin c f).mem = s.mem := rfl
@[simp] theorem updWin_bad (s : State) (c : Nat) (f : Window → Window) : (s.updWin c f).bad = s.bad := rfl
@[simp] theorem updWin_lostStacks (s : State) (c : Nat) (f : Window → Window) : (s.updWin c f).lostStacks = s.lostStacks := rfl
@[simp] theorem updWin_flight (s : State) (c : Nat) (f : Window → Window) : (s.updWin c f).flight = s.flight := rfl
@[simp] theorem updWin_monitors (s : State) (c : Nat) (f : Window → Window) : (s.updWin c f).monitors = s.monitors := rfl
@[simp] theorem updWin_parts (s : State) (c : Nat) (f : Window → Window) : (s.updWin c f).parts = s.parts := rfl
@[simp] theorem updWin_kernels (s : State) (c : Nat) (f : Window → Window) : (s.updWin c f).kernels = s.kernels := rfl
@[simp] theorem updWin_records (s : State) (c : Nat) (f : Window → Window) : (s.updWin c f).records = s.records := rfl
@[simp] theorem updWin_launches (s : State) (c : Nat) (f : Window → Window) : (s.updWin c f).launches = s.launches := rfl
@[simp] theorem updWin_tlb (s : State) (c : Nat) (f : Window → Window) : (s.updWin c f).tlb = s.tlb := rfl
@[simp] theorem updWin_pins (s : State) (c : Nat) (f : Window → Window) : (s.updWin c f).pins = s.pins := rfl
@[simp] theorem updWin_failed (s : State) (c : Nat) (f : Window → Window) : (s.updWin c f).failed = s.failed := rfl
@[simp] theorem updWin_mirrorUp (s : State) (c : Nat) (f : Window → Window) : (s.updWin c f).mirrorUp = s.mirrorUp := rfl
@[simp] theorem updWin_ridge (s : State) (c : Nat) (f : Window → Window) : (s.updWin c f).ridge = s.ridge := rfl
@[simp] theorem updWin_house (s : State) (c : Nat) (f : Window → Window) : (s.updWin c f).house = s.house := rfl
@[simp] theorem updWin_seen (s : State) (c : Nat) (f : Window → Window) : (s.updWin c f).seen = s.seen := rfl
@[simp] theorem updWin_staged (s : State) (c : Nat) (f : Window → Window) : (s.updWin c f).staged = s.staged := rfl
@[simp] theorem updWin_sweeps (s : State) (c : Nat) (f : Window → Window) : (s.updWin c f).sweeps = s.sweeps := rfl

@[simp] theorem updKernel_tick (s : State) (kid : Word) (f : Kernel → Kernel) : (s.updKernel kid f).tick = s.tick := rfl
@[simp] theorem updKernel_agenda (s : State) (kid : Word) (f : Kernel → Kernel) : (s.updKernel kid f).agenda = s.agenda := rfl
@[simp] theorem updKernel_focus (s : State) (kid : Word) (f : Kernel → Kernel) : (s.updKernel kid f).focus = s.focus := rfl
@[simp] theorem updKernel_lit (s : State) (kid : Word) (f : Kernel → Kernel) : (s.updKernel kid f).lit = s.lit := rfl
@[simp] theorem updKernel_cycle (s : State) (kid : Word) (f : Kernel → Kernel) : (s.updKernel kid f).cycle = s.cycle := rfl
@[simp] theorem updKernel_modNum (s : State) (kid : Word) (f : Kernel → Kernel) : (s.updKernel kid f).modNum = s.modNum := rfl
@[simp] theorem updKernel_cores (s : State) (kid : Word) (f : Kernel → Kernel) : (s.updKernel kid f).cores = s.cores := rfl
@[simp] theorem updKernel_clusters (s : State) (kid : Word) (f : Kernel → Kernel) : (s.updKernel kid f).clusters = s.clusters := rfl
@[simp] theorem updKernel_mappedOut (s : State) (kid : Word) (f : Kernel → Kernel) : (s.updKernel kid f).mappedOut = s.mappedOut := rfl
@[simp] theorem updKernel_sites (s : State) (kid : Word) (f : Kernel → Kernel) : (s.updKernel kid f).sites = s.sites := rfl
@[simp] theorem updKernel_mem (s : State) (kid : Word) (f : Kernel → Kernel) : (s.updKernel kid f).mem = s.mem := rfl
@[simp] theorem updKernel_bad (s : State) (kid : Word) (f : Kernel → Kernel) : (s.updKernel kid f).bad = s.bad := rfl
@[simp] theorem updKernel_lostStacks (s : State) (kid : Word) (f : Kernel → Kernel) : (s.updKernel kid f).lostStacks = s.lostStacks := rfl
@[simp] theorem updKernel_flight (s : State) (kid : Word) (f : Kernel → Kernel) : (s.updKernel kid f).flight = s.flight := rfl
@[simp] theorem updKernel_monitors (s : State) (kid : Word) (f : Kernel → Kernel) : (s.updKernel kid f).monitors = s.monitors := rfl
@[simp] theorem updKernel_parts (s : State) (kid : Word) (f : Kernel → Kernel) : (s.updKernel kid f).parts = s.parts := rfl
@[simp] theorem updKernel_records (s : State) (kid : Word) (f : Kernel → Kernel) : (s.updKernel kid f).records = s.records := rfl
@[simp] theorem updKernel_launches (s : State) (kid : Word) (f : Kernel → Kernel) : (s.updKernel kid f).launches = s.launches := rfl
@[simp] theorem updKernel_tlb (s : State) (kid : Word) (f : Kernel → Kernel) : (s.updKernel kid f).tlb = s.tlb := rfl
@[simp] theorem updKernel_pins (s : State) (kid : Word) (f : Kernel → Kernel) : (s.updKernel kid f).pins = s.pins := rfl
@[simp] theorem updKernel_failed (s : State) (kid : Word) (f : Kernel → Kernel) : (s.updKernel kid f).failed = s.failed := rfl
@[simp] theorem updKernel_mirrorUp (s : State) (kid : Word) (f : Kernel → Kernel) : (s.updKernel kid f).mirrorUp = s.mirrorUp := rfl
@[simp] theorem updKernel_wins (s : State) (kid : Word) (f : Kernel → Kernel) : (s.updKernel kid f).wins = s.wins := rfl
@[simp] theorem updKernel_ridge (s : State) (kid : Word) (f : Kernel → Kernel) : (s.updKernel kid f).ridge = s.ridge := rfl
@[simp] theorem updKernel_house (s : State) (kid : Word) (f : Kernel → Kernel) : (s.updKernel kid f).house = s.house := rfl
@[simp] theorem updKernel_seen (s : State) (kid : Word) (f : Kernel → Kernel) : (s.updKernel kid f).seen = s.seen := rfl
@[simp] theorem updKernel_staged (s : State) (kid : Word) (f : Kernel → Kernel) : (s.updKernel kid f).staged = s.staged := rfl
@[simp] theorem updKernel_sweeps (s : State) (kid : Word) (f : Kernel → Kernel) : (s.updKernel kid f).sweeps = s.sweeps := rfl

@[simp] theorem poke_tick (s : State) (a : Nat) (b : Byte) : (s.poke a b).tick = s.tick := rfl
@[simp] theorem poke_agenda (s : State) (a : Nat) (b : Byte) : (s.poke a b).agenda = s.agenda := rfl
@[simp] theorem poke_focus (s : State) (a : Nat) (b : Byte) : (s.poke a b).focus = s.focus := rfl
@[simp] theorem poke_lit (s : State) (a : Nat) (b : Byte) : (s.poke a b).lit = s.lit := rfl
@[simp] theorem poke_cycle (s : State) (a : Nat) (b : Byte) : (s.poke a b).cycle = s.cycle := rfl
@[simp] theorem poke_modNum (s : State) (a : Nat) (b : Byte) : (s.poke a b).modNum = s.modNum := rfl
@[simp] theorem poke_cores (s : State) (a : Nat) (b : Byte) : (s.poke a b).cores = s.cores := rfl
@[simp] theorem poke_clusters (s : State) (a : Nat) (b : Byte) : (s.poke a b).clusters = s.clusters := rfl
@[simp] theorem poke_mappedOut (s : State) (a : Nat) (b : Byte) : (s.poke a b).mappedOut = s.mappedOut := rfl
@[simp] theorem poke_sites (s : State) (a : Nat) (b : Byte) : (s.poke a b).sites = s.sites := rfl
@[simp] theorem poke_bad (s : State) (a : Nat) (b : Byte) : (s.poke a b).bad = s.bad := rfl
@[simp] theorem poke_lostStacks (s : State) (a : Nat) (b : Byte) : (s.poke a b).lostStacks = s.lostStacks := rfl
@[simp] theorem poke_flight (s : State) (a : Nat) (b : Byte) : (s.poke a b).flight = s.flight := rfl
@[simp] theorem poke_monitors (s : State) (a : Nat) (b : Byte) : (s.poke a b).monitors = s.monitors := rfl
@[simp] theorem poke_parts (s : State) (a : Nat) (b : Byte) : (s.poke a b).parts = s.parts := rfl
@[simp] theorem poke_kernels (s : State) (a : Nat) (b : Byte) : (s.poke a b).kernels = s.kernels := rfl
@[simp] theorem poke_records (s : State) (a : Nat) (b : Byte) : (s.poke a b).records = s.records := rfl
@[simp] theorem poke_launches (s : State) (a : Nat) (b : Byte) : (s.poke a b).launches = s.launches := rfl
@[simp] theorem poke_tlb (s : State) (a : Nat) (b : Byte) : (s.poke a b).tlb = s.tlb := rfl
@[simp] theorem poke_pins (s : State) (a : Nat) (b : Byte) : (s.poke a b).pins = s.pins := rfl
@[simp] theorem poke_failed (s : State) (a : Nat) (b : Byte) : (s.poke a b).failed = s.failed := rfl
@[simp] theorem poke_mirrorUp (s : State) (a : Nat) (b : Byte) : (s.poke a b).mirrorUp = s.mirrorUp := rfl
@[simp] theorem poke_wins (s : State) (a : Nat) (b : Byte) : (s.poke a b).wins = s.wins := rfl
@[simp] theorem poke_ridge (s : State) (a : Nat) (b : Byte) : (s.poke a b).ridge = s.ridge := rfl
@[simp] theorem poke_house (s : State) (a : Nat) (b : Byte) : (s.poke a b).house = s.house := rfl
@[simp] theorem poke_seen (s : State) (a : Nat) (b : Byte) : (s.poke a b).seen = s.seen := rfl
@[simp] theorem poke_staged (s : State) (a : Nat) (b : Byte) : (s.poke a b).staged = s.staged := rfl
@[simp] theorem poke_sweeps (s : State) (a : Nat) (b : Byte) : (s.poke a b).sweeps = s.sweeps := rfl

@[simp] theorem markBad_tick (s : State) (a : Nat) : (s.markBad a).tick = s.tick := rfl
@[simp] theorem markBad_agenda (s : State) (a : Nat) : (s.markBad a).agenda = s.agenda := rfl
@[simp] theorem markBad_focus (s : State) (a : Nat) : (s.markBad a).focus = s.focus := rfl
@[simp] theorem markBad_lit (s : State) (a : Nat) : (s.markBad a).lit = s.lit := rfl
@[simp] theorem markBad_cycle (s : State) (a : Nat) : (s.markBad a).cycle = s.cycle := rfl
@[simp] theorem markBad_modNum (s : State) (a : Nat) : (s.markBad a).modNum = s.modNum := rfl
@[simp] theorem markBad_cores (s : State) (a : Nat) : (s.markBad a).cores = s.cores := rfl
@[simp] theorem markBad_clusters (s : State) (a : Nat) : (s.markBad a).clusters = s.clusters := rfl
@[simp] theorem markBad_mappedOut (s : State) (a : Nat) : (s.markBad a).mappedOut = s.mappedOut := rfl
@[simp] theorem markBad_sites (s : State) (a : Nat) : (s.markBad a).sites = s.sites := rfl
@[simp] theorem markBad_mem (s : State) (a : Nat) : (s.markBad a).mem = s.mem := rfl
@[simp] theorem markBad_lostStacks (s : State) (a : Nat) : (s.markBad a).lostStacks = s.lostStacks := rfl
@[simp] theorem markBad_flight (s : State) (a : Nat) : (s.markBad a).flight = s.flight := rfl
@[simp] theorem markBad_monitors (s : State) (a : Nat) : (s.markBad a).monitors = s.monitors := rfl
@[simp] theorem markBad_parts (s : State) (a : Nat) : (s.markBad a).parts = s.parts := rfl
@[simp] theorem markBad_kernels (s : State) (a : Nat) : (s.markBad a).kernels = s.kernels := rfl
@[simp] theorem markBad_records (s : State) (a : Nat) : (s.markBad a).records = s.records := rfl
@[simp] theorem markBad_launches (s : State) (a : Nat) : (s.markBad a).launches = s.launches := rfl
@[simp] theorem markBad_tlb (s : State) (a : Nat) : (s.markBad a).tlb = s.tlb := rfl
@[simp] theorem markBad_pins (s : State) (a : Nat) : (s.markBad a).pins = s.pins := rfl
@[simp] theorem markBad_failed (s : State) (a : Nat) : (s.markBad a).failed = s.failed := rfl
@[simp] theorem markBad_mirrorUp (s : State) (a : Nat) : (s.markBad a).mirrorUp = s.mirrorUp := rfl
@[simp] theorem markBad_wins (s : State) (a : Nat) : (s.markBad a).wins = s.wins := rfl
@[simp] theorem markBad_ridge (s : State) (a : Nat) : (s.markBad a).ridge = s.ridge := rfl
@[simp] theorem markBad_house (s : State) (a : Nat) : (s.markBad a).house = s.house := rfl
@[simp] theorem markBad_seen (s : State) (a : Nat) : (s.markBad a).seen = s.seen := rfl
@[simp] theorem markBad_staged (s : State) (a : Nat) : (s.markBad a).staged = s.staged := rfl
@[simp] theorem markBad_sweeps (s : State) (a : Nat) : (s.markBad a).sweeps = s.sweeps := rfl

@[simp] theorem heal_tick (s : State) (a : Nat) : (s.heal a).tick = s.tick := rfl
@[simp] theorem heal_agenda (s : State) (a : Nat) : (s.heal a).agenda = s.agenda := rfl
@[simp] theorem heal_focus (s : State) (a : Nat) : (s.heal a).focus = s.focus := rfl
@[simp] theorem heal_lit (s : State) (a : Nat) : (s.heal a).lit = s.lit := rfl
@[simp] theorem heal_cycle (s : State) (a : Nat) : (s.heal a).cycle = s.cycle := rfl
@[simp] theorem heal_modNum (s : State) (a : Nat) : (s.heal a).modNum = s.modNum := rfl
@[simp] theorem heal_cores (s : State) (a : Nat) : (s.heal a).cores = s.cores := rfl
@[simp] theorem heal_clusters (s : State) (a : Nat) : (s.heal a).clusters = s.clusters := rfl
@[simp] theorem heal_mappedOut (s : State) (a : Nat) : (s.heal a).mappedOut = s.mappedOut := rfl
@[simp] theorem heal_sites (s : State) (a : Nat) : (s.heal a).sites = s.sites := rfl
@[simp] theorem heal_mem (s : State) (a : Nat) : (s.heal a).mem = s.mem := rfl
@[simp] theorem heal_lostStacks (s : State) (a : Nat) : (s.heal a).lostStacks = s.lostStacks := rfl
@[simp] theorem heal_flight (s : State) (a : Nat) : (s.heal a).flight = s.flight := rfl
@[simp] theorem heal_monitors (s : State) (a : Nat) : (s.heal a).monitors = s.monitors := rfl
@[simp] theorem heal_parts (s : State) (a : Nat) : (s.heal a).parts = s.parts := rfl
@[simp] theorem heal_kernels (s : State) (a : Nat) : (s.heal a).kernels = s.kernels := rfl
@[simp] theorem heal_records (s : State) (a : Nat) : (s.heal a).records = s.records := rfl
@[simp] theorem heal_launches (s : State) (a : Nat) : (s.heal a).launches = s.launches := rfl
@[simp] theorem heal_tlb (s : State) (a : Nat) : (s.heal a).tlb = s.tlb := rfl
@[simp] theorem heal_pins (s : State) (a : Nat) : (s.heal a).pins = s.pins := rfl
@[simp] theorem heal_failed (s : State) (a : Nat) : (s.heal a).failed = s.failed := rfl
@[simp] theorem heal_mirrorUp (s : State) (a : Nat) : (s.heal a).mirrorUp = s.mirrorUp := rfl
@[simp] theorem heal_wins (s : State) (a : Nat) : (s.heal a).wins = s.wins := rfl
@[simp] theorem heal_ridge (s : State) (a : Nat) : (s.heal a).ridge = s.ridge := rfl
@[simp] theorem heal_house (s : State) (a : Nat) : (s.heal a).house = s.house := rfl
@[simp] theorem heal_seen (s : State) (a : Nat) : (s.heal a).seen = s.seen := rfl
@[simp] theorem heal_staged (s : State) (a : Nat) : (s.heal a).staged = s.staged := rfl
@[simp] theorem heal_sweeps (s : State) (a : Nat) : (s.heal a).sweeps = s.sweeps := rfl

@[simp] theorem touchLine_tick (s : State) (c a : Nat) : (s.touchLine c a).tick = s.tick := rfl
@[simp] theorem touchLine_agenda (s : State) (c a : Nat) : (s.touchLine c a).agenda = s.agenda := rfl
@[simp] theorem touchLine_focus (s : State) (c a : Nat) : (s.touchLine c a).focus = s.focus := rfl
@[simp] theorem touchLine_lit (s : State) (c a : Nat) : (s.touchLine c a).lit = s.lit := rfl
@[simp] theorem touchLine_cycle (s : State) (c a : Nat) : (s.touchLine c a).cycle = s.cycle := rfl
@[simp] theorem touchLine_modNum (s : State) (c a : Nat) : (s.touchLine c a).modNum = s.modNum := rfl
@[simp] theorem touchLine_cores (s : State) (c a : Nat) : (s.touchLine c a).cores = s.cores := rfl
@[simp] theorem touchLine_clusters (s : State) (c a : Nat) : (s.touchLine c a).clusters = s.clusters := rfl
@[simp] theorem touchLine_mappedOut (s : State) (c a : Nat) : (s.touchLine c a).mappedOut = s.mappedOut := rfl
@[simp] theorem touchLine_sites (s : State) (c a : Nat) : (s.touchLine c a).sites = s.sites := rfl
@[simp] theorem touchLine_mem (s : State) (c a : Nat) : (s.touchLine c a).mem = s.mem := rfl
@[simp] theorem touchLine_bad (s : State) (c a : Nat) : (s.touchLine c a).bad = s.bad := rfl
@[simp] theorem touchLine_lostStacks (s : State) (c a : Nat) : (s.touchLine c a).lostStacks = s.lostStacks := rfl
@[simp] theorem touchLine_flight (s : State) (c a : Nat) : (s.touchLine c a).flight = s.flight := rfl
@[simp] theorem touchLine_parts (s : State) (c a : Nat) : (s.touchLine c a).parts = s.parts := rfl
@[simp] theorem touchLine_kernels (s : State) (c a : Nat) : (s.touchLine c a).kernels = s.kernels := rfl
@[simp] theorem touchLine_records (s : State) (c a : Nat) : (s.touchLine c a).records = s.records := rfl
@[simp] theorem touchLine_launches (s : State) (c a : Nat) : (s.touchLine c a).launches = s.launches := rfl
@[simp] theorem touchLine_tlb (s : State) (c a : Nat) : (s.touchLine c a).tlb = s.tlb := rfl
@[simp] theorem touchLine_pins (s : State) (c a : Nat) : (s.touchLine c a).pins = s.pins := rfl
@[simp] theorem touchLine_failed (s : State) (c a : Nat) : (s.touchLine c a).failed = s.failed := rfl
@[simp] theorem touchLine_mirrorUp (s : State) (c a : Nat) : (s.touchLine c a).mirrorUp = s.mirrorUp := rfl
@[simp] theorem touchLine_wins (s : State) (c a : Nat) : (s.touchLine c a).wins = s.wins := rfl
@[simp] theorem touchLine_ridge (s : State) (c a : Nat) : (s.touchLine c a).ridge = s.ridge := rfl
@[simp] theorem touchLine_house (s : State) (c a : Nat) : (s.touchLine c a).house = s.house := rfl
@[simp] theorem touchLine_seen (s : State) (c a : Nat) : (s.touchLine c a).seen = s.seen := rfl
@[simp] theorem touchLine_staged (s : State) (c a : Nat) : (s.touchLine c a).staged = s.staged := rfl
@[simp] theorem touchLine_sweeps (s : State) (c a : Nat) : (s.touchLine c a).sweeps = s.sweeps := rfl
/-! ### Every accessor after an update of another part -/

@[simp] theorem setCore_cluster (s : State) (c : Nat) (k : Core) (x : Nat) : (s.setCore c k).cluster x = s.cluster x := rfl
@[simp] theorem setCore_part (s : State) (c : Nat) (k : Core) (x : Nat) : (s.setCore c k).part x = s.part x := rfl
@[simp] theorem setCore_win (s : State) (c : Nat) (k : Core) (x : Nat) : (s.setCore c k).win x = s.win x := rfl
@[simp] theorem setCore_kernel (s : State) (c : Nat) (k : Core) (x : Word) : (s.setCore c k).kernel x = s.kernel x := rfl

@[simp] theorem updCore_cluster (s : State) (c : Nat) (f : Core → Core) (x : Nat) : (s.updCore c f).cluster x = s.cluster x := rfl
@[simp] theorem updCore_part (s : State) (c : Nat) (f : Core → Core) (x : Nat) : (s.updCore c f).part x = s.part x := rfl
@[simp] theorem updCore_win (s : State) (c : Nat) (f : Core → Core) (x : Nat) : (s.updCore c f).win x = s.win x := rfl
@[simp] theorem updCore_kernel (s : State) (c : Nat) (f : Core → Core) (x : Word) : (s.updCore c f).kernel x = s.kernel x := rfl

@[simp] theorem updCluster_core (s : State) (c : Nat) (f : Cluster → Cluster) (x : Nat) : (s.updCluster c f).core x = s.core x := rfl
@[simp] theorem updCluster_part (s : State) (c : Nat) (f : Cluster → Cluster) (x : Nat) : (s.updCluster c f).part x = s.part x := rfl
@[simp] theorem updCluster_win (s : State) (c : Nat) (f : Cluster → Cluster) (x : Nat) : (s.updCluster c f).win x = s.win x := rfl
@[simp] theorem updCluster_kernel (s : State) (c : Nat) (f : Cluster → Cluster) (x : Word) : (s.updCluster c f).kernel x = s.kernel x := rfl
@[simp] theorem updCluster_byte (s : State) (c : Nat) (f : Cluster → Cluster) (x : Nat) : (s.updCluster c f).byte x = s.byte x := rfl

@[simp] theorem updPart_core (s : State) (c : Nat) (f : Part → Part) (x : Nat) : (s.updPart c f).core x = s.core x := rfl
@[simp] theorem updPart_cluster (s : State) (c : Nat) (f : Part → Part) (x : Nat) : (s.updPart c f).cluster x = s.cluster x := rfl
@[simp] theorem updPart_win (s : State) (c : Nat) (f : Part → Part) (x : Nat) : (s.updPart c f).win x = s.win x := rfl
@[simp] theorem updPart_kernel (s : State) (c : Nat) (f : Part → Part) (x : Word) : (s.updPart c f).kernel x = s.kernel x := rfl
@[simp] theorem updPart_byte (s : State) (c : Nat) (f : Part → Part) (x : Nat) : (s.updPart c f).byte x = s.byte x := rfl

@[simp] theorem updWin_core (s : State) (c : Nat) (f : Window → Window) (x : Nat) : (s.updWin c f).core x = s.core x := rfl
@[simp] theorem updWin_cluster (s : State) (c : Nat) (f : Window → Window) (x : Nat) : (s.updWin c f).cluster x = s.cluster x := rfl
@[simp] theorem updWin_part (s : State) (c : Nat) (f : Window → Window) (x : Nat) : (s.updWin c f).part x = s.part x := rfl
@[simp] theorem updWin_kernel (s : State) (c : Nat) (f : Window → Window) (x : Word) : (s.updWin c f).kernel x = s.kernel x := rfl
@[simp] theorem updWin_byte (s : State) (c : Nat) (f : Window → Window) (x : Nat) : (s.updWin c f).byte x = s.byte x := rfl

@[simp] theorem updKernel_core (s : State) (kid : Word) (f : Kernel → Kernel) (x : Nat) : (s.updKernel kid f).core x = s.core x := rfl
@[simp] theorem updKernel_cluster (s : State) (kid : Word) (f : Kernel → Kernel) (x : Nat) : (s.updKernel kid f).cluster x = s.cluster x := rfl
@[simp] theorem updKernel_part (s : State) (kid : Word) (f : Kernel → Kernel) (x : Nat) : (s.updKernel kid f).part x = s.part x := rfl
@[simp] theorem updKernel_win (s : State) (kid : Word) (f : Kernel → Kernel) (x : Nat) : (s.updKernel kid f).win x = s.win x := rfl
@[simp] theorem updKernel_byte (s : State) (kid : Word) (f : Kernel → Kernel) (x : Nat) : (s.updKernel kid f).byte x = s.byte x := rfl

@[simp] theorem poke_core (s : State) (a : Nat) (b : Byte) (x : Nat) : (s.poke a b).core x = s.core x := rfl
@[simp] theorem poke_cluster (s : State) (a : Nat) (b : Byte) (x : Nat) : (s.poke a b).cluster x = s.cluster x := rfl
@[simp] theorem poke_part (s : State) (a : Nat) (b : Byte) (x : Nat) : (s.poke a b).part x = s.part x := rfl
@[simp] theorem poke_win (s : State) (a : Nat) (b : Byte) (x : Nat) : (s.poke a b).win x = s.win x := rfl
@[simp] theorem poke_kernel (s : State) (a : Nat) (b : Byte) (x : Word) : (s.poke a b).kernel x = s.kernel x := rfl

@[simp] theorem markBad_core (s : State) (a : Nat) (x : Nat) : (s.markBad a).core x = s.core x := rfl
@[simp] theorem markBad_cluster (s : State) (a : Nat) (x : Nat) : (s.markBad a).cluster x = s.cluster x := rfl
@[simp] theorem markBad_part (s : State) (a : Nat) (x : Nat) : (s.markBad a).part x = s.part x := rfl
@[simp] theorem markBad_win (s : State) (a : Nat) (x : Nat) : (s.markBad a).win x = s.win x := rfl
@[simp] theorem markBad_kernel (s : State) (a : Nat) (x : Word) : (s.markBad a).kernel x = s.kernel x := rfl
@[simp] theorem markBad_byte (s : State) (a : Nat) (x : Nat) : (s.markBad a).byte x = s.byte x := rfl

@[simp] theorem heal_core (s : State) (a : Nat) (x : Nat) : (s.heal a).core x = s.core x := rfl
@[simp] theorem heal_cluster (s : State) (a : Nat) (x : Nat) : (s.heal a).cluster x = s.cluster x := rfl
@[simp] theorem heal_part (s : State) (a : Nat) (x : Nat) : (s.heal a).part x = s.part x := rfl
@[simp] theorem heal_win (s : State) (a : Nat) (x : Nat) : (s.heal a).win x = s.win x := rfl
@[simp] theorem heal_kernel (s : State) (a : Nat) (x : Word) : (s.heal a).kernel x = s.kernel x := rfl

@[simp] theorem touchLine_core (s : State) (c a : Nat) (x : Nat) : (s.touchLine c a).core x = s.core x := rfl
@[simp] theorem touchLine_cluster (s : State) (c a : Nat) (x : Nat) : (s.touchLine c a).cluster x = s.cluster x := rfl
@[simp] theorem touchLine_part (s : State) (c a : Nat) (x : Nat) : (s.touchLine c a).part x = s.part x := rfl
@[simp] theorem touchLine_win (s : State) (c a : Nat) (x : Nat) : (s.touchLine c a).win x = s.win x := rfl
@[simp] theorem touchLine_kernel (s : State) (c a : Nat) (x : Word) : (s.touchLine c a).kernel x = s.kernel x := rfl
@[simp] theorem touchLine_byte (s : State) (c a : Nat) (x : Nat) : (s.touchLine c a).byte x = s.byte x := rfl
/-! ### Clusters, partitions and memory -/

@[simp] theorem poke_mem (s : State) (a : Nat) (b : Byte) : (s.poke a b).mem = memPut s.mem a b := rfl
@[simp] theorem setHold_mem (s : State) (c : Nat) (h : Hold) : (s.setHold c h).mem = s.mem := rfl
@[simp] theorem setBar_mem (s : State) (c i : Nat) (b : Barrier) : (s.setBar c i b).mem = s.mem := by
  unfold State.setBar; split <;> rfl

theorem part_updPart_same (s : State) (n : Nat) (f : Part → Part) (h : n < 8) : (s.updPart n f).part n = f (s.part n) := by
  simp [State.updPart, State.part, h]
theorem win_updWin_same (s : State) (n : Nat) (f : Window → Window) (h : n < 16) : (s.updWin n f).win n = f (s.win n) := by
  simp [State.updWin, State.win, h]
theorem cluster_updCluster_same (s : State) (n : Nat) (f : Cluster → Cluster) (h : n < 64) :
    (s.updCluster n f).cluster n = f (s.cluster n) := by
  simp [State.updCluster, State.cluster, h]

end Sys2Proof.Machine
end

