-- ==== Sys2Proof/Laws/Memory.lean ====
section
/-!
SUPPORT. Memory: a read after a write, and the canonical form under every memory operation.
-/
namespace Sys2Proof.Machine

/-! ### The list -/

theorem memWf_mono {lo hi : Nat} {m : List Host.Cell} (h : lo ≤ hi) (hw : memWf hi m = true) : memWf lo m = true := by
  cases m with
  | nil => rfl
  | cons e t =>
    obtain ⟨k, v⟩ := e
    simp only [memWf, Bool.and_eq_true, decide_eq_true_eq] at hw ⊢
    exact ⟨⟨by omega, hw.1.2⟩, hw.2⟩

theorem memGet_below {lo a : Nat} {m : List Host.Cell} (hw : memWf lo m = true) (h : a < lo) : memGet m a = 0 := by
  cases m with
  | nil => rfl
  | cons e t =>
    obtain ⟨k, v⟩ := e
    simp only [memWf, Bool.and_eq_true, decide_eq_true_eq] at hw
    simp only [memGet]
    rw [if_pos (by omega)]

/-- Writing keeps the canonical form. -/
theorem memWf_memPut {lo a : Nat} {m : List Host.Cell} (b : Byte) (hw : memWf lo m = true) (h : lo ≤ a) :
    memWf lo (memPut m a b) = true := by
  induction m generalizing lo with
  | nil =>
    simp only [memPut]
    split
    · rfl
    · rename_i hb; simp only [memWf, Bool.and_eq_true, decide_eq_true_eq]; exact ⟨⟨h, by simpa using hb⟩, trivial⟩
  | cons e t ih =>
    obtain ⟨k, v⟩ := e
    simp only [memWf, Bool.and_eq_true, decide_eq_true_eq] at hw
    obtain ⟨⟨h1, h2⟩, h3⟩ := hw
    simp only [memPut]
    split
    · split
      · simp only [memWf, Bool.and_eq_true, decide_eq_true_eq]; exact ⟨⟨h1, h2⟩, h3⟩
      · rename_i hak hb
        simp only [memWf, Bool.and_eq_true, decide_eq_true_eq]
        exact ⟨⟨h, by simpa using hb⟩, ⟨⟨by omega, h2⟩, h3⟩⟩
    · split
      · split
        · exact memWf_mono (by omega) h3
        · rename_i hak hb
          subst hak
          simp only [memWf, Bool.and_eq_true, decide_eq_true_eq]
          exact ⟨⟨h, by simpa using hb⟩, h3⟩
      · rename_i h4 h5
        simp only [memWf, Bool.and_eq_true, decide_eq_true_eq]
        exact ⟨⟨h1, h2⟩, ih h3 (by omega)⟩

/-- A read after a write. -/
theorem memGet_memPut {lo a x : Nat} {m : List Host.Cell} (b : Byte) (hw : memWf lo m = true) :
    memGet (memPut m a b) x = if x = a then b else memGet m x := by
  induction m generalizing lo with
  | nil =>
    simp only [memPut]
    by_cases hb : b = 0
    · subst hb; simp [memGet]
    · simp only [hb, if_false, memGet]
      split
      · rename_i h; rw [if_neg (by omega)]
      · split <;> rfl
  | cons e t ih =>
    obtain ⟨k, v⟩ := e
    simp only [memWf, Bool.and_eq_true, decide_eq_true_eq] at hw
    obtain ⟨⟨h1, h2⟩, h3⟩ := hw
    simp only [memPut]
    split
    · rename_i hak
      by_cases hb : b = 0
      · subst hb
        rw [if_pos rfl]
        split
        · rename_i hx; subst hx; simp [memGet, hak]
        · rfl
      · rw [if_neg hb]
        conv => lhs; unfold memGet
        split
        · rename_i h; rw [if_neg (by omega), memGet, if_pos (by omega)]
        · split <;> rfl
    · split
      · rename_i hak
        subst hak
        by_cases hb : b = 0
        · subst hb
          rw [if_pos rfl]
          split
          · rename_i hx; subst hx; exact memGet_below h3 (by omega)
          · rename_i hx
            conv => rhs; unfold memGet
            split
            · exact memGet_below h3 (by omega)
            · rfl
        · rw [if_neg hb]
          simp only [memGet]
          split
          · rename_i h; rw [if_neg (by omega)]
          · split <;> rfl
      · rename_i h4 h5
        conv => lhs; unfold memGet
        split
        · rename_i h; rw [if_neg (by omega), memGet, if_pos h]
        · split
          · rename_i h6; rw [if_neg (by omega), memGet, if_neg (by omega), if_pos h6]
          · rename_i h6 h7
            rw [ih h3]
            split
            · rfl
            · conv => rhs; unfold memGet
              rw [if_neg h6, if_neg h7]

theorem memWf_filter {lo : Nat} {m : List Host.Cell} (p : Host.Cell → Bool) (hw : memWf lo m = true) :
    memWf lo (m.filter p) = true := by
  induction m generalizing lo with
  | nil => rfl
  | cons e t ih =>
    obtain ⟨k, v⟩ := e
    simp only [memWf, Bool.and_eq_true, decide_eq_true_eq] at hw
    obtain ⟨⟨h1, h2⟩, h3⟩ := hw
    simp only [List.filter_cons]
    split
    · simp only [memWf, Bool.and_eq_true, decide_eq_true_eq]
      exact ⟨⟨h1, h2⟩, ih h3⟩
    · exact memWf_mono (by omega) (ih h3)

/-! ### The module -/

theorem canonical_of_mem {s t : State} (h : t.mem = s.mem) (hs : s.Canonical) : t.Canonical := by
  unfold State.Canonical; rw [h]; exact hs

theorem canonical_poke {s : State} (a : Nat) (b : Byte) (h : s.Canonical) : (s.poke a b).Canonical :=
  memWf_memPut b h (Nat.zero_le _)

theorem byte_poke {s : State} (h : s.Canonical) (a : Nat) (b : Byte) (x : Nat) :
    (s.poke a b).byte x = if x = a then b else s.byte x := memGet_memPut b h

theorem canonical_pokes {s : State} (a : Nat) (l : List Byte) (h : s.Canonical) : (s.pokes a l).Canonical := by
  induction l generalizing s a with
  | nil => exact h
  | cons b t ih => exact ih _ (canonical_poke a b h)

theorem byte_pokes {s : State} (h : s.Canonical) (a : Nat) (l : List Byte) (x : Nat) :
    (s.pokes a l).byte x = if a ≤ x ∧ x < a + l.length then l.getD (x - a) 0 else s.byte x := by
  induction l generalizing s a with
  | nil => simp only [State.pokes, List.length_nil]; rw [if_neg (by omega)]
  | cons b t ih =>
    simp only [State.pokes]
    rw [ih (canonical_poke a b h), byte_poke h]
    by_cases h1 : x = a
    · subst h1
      rw [if_neg (by omega), if_pos rfl, if_pos (by simp)]
      simp
    · rw [if_neg h1]
      by_cases h2 : a + 1 ≤ x ∧ x < a + 1 + t.length
      · rw [if_pos h2, if_pos (by simp; omega)]
        have : x - a = (x - (a + 1)) + 1 := by omega
        rw [this, List.getD_cons_succ]
      · rw [if_neg h2, if_neg (by simp; omega)]

theorem canonical_wipe {s : State} (a n : Nat) (h : s.Canonical) : (s.wipe a n).Canonical := memWf_filter _ h

theorem heal_byte (s : State) (a x : Nat) : (s.heal a).byte x = s.byte x := rfl
theorem heals_mem (l : List Nat) (g : Nat → Nat) (s : State) : (l.foldl (fun s i => s.heal (g i)) s).mem = s.mem := by
  induction l generalizing s with
  | nil => rfl
  | cons a t ih => rw [List.foldl_cons, ih]; rfl

theorem write_mem (s : State) (a : Nat) (l : List Byte) : (s.write a l).mem = (s.pokes a l).mem := by
  unfold State.write
  exact heals_mem _ (fun i => ((a + 15) / 16 + i) * 16) _
theorem canonical_write {s : State} (a : Nat) (l : List Byte) (h : s.Canonical) : (s.write a l).Canonical :=
  canonical_of_mem (write_mem s a l) (canonical_pokes a l h)
theorem byte_write {s : State} (h : s.Canonical) (a : Nat) (l : List Byte) (x : Nat) :
    (s.write a l).byte x = if a ≤ x ∧ x < a + l.length then l.getD (x - a) 0 else s.byte x := by
  rw [← byte_pokes h]; unfold State.byte; rw [write_mem]

theorem canonical_padWrite {s : State} (c : Nat) (kid : Word) (a : Nat) (l : List Byte) (h : s.Canonical) :
    (s.padWrite c kid a l).Canonical := canonical_write _ _ h

theorem canonical_fold {α : Type} (f : State → α → State) (hf : ∀ s a, s.Canonical → (f s a).Canonical) (l : List α)
    (s : State) (h : s.Canonical) : (l.foldl f s).Canonical := by
  induction l generalizing s with
  | nil => exact h
  | cons a t ih => exact ih _ (hf s a h)

theorem canonical_padWriteWord {s : State} (c : Nat) (kid : Word) (a : Nat) (en : Nat → Bool) (f : Nat → Byte)
    (h : s.Canonical) : (s.padWriteWord c kid a en f).Canonical := by
  unfold State.padWriteWord
  split
  · exact canonical_padWrite _ _ _ _ h
  · refine canonical_fold _ (fun s i hs => ?_) _ _ h
    split
    · exact canonical_poke _ _ hs
    · exact hs

theorem canonical_rowWrite {s : State} (c : Nat) (kid : Word) (row : Nat) (w : List Nat) (act : Nat → Bool)
    (f : Nat → Byte) (h : s.Canonical) : (s.rowWrite c kid row w act f).Canonical :=
  canonical_fold _ (fun _ _ hs => canonical_padWriteWord _ _ _ _ _ hs) _ _ h

/-- A write that performs keeps the form, with its mirror copy. -/
theorem canonical_strike {s : State} (f : Inbound) (w : Nat) (h : s.Canonical) : (s.strike f w).Canonical := by
  unfold State.strike
  dsimp only
  split
  · exact canonical_of_mem (s := s.write _ _) rfl (canonical_write _ _ h)
  · exact canonical_write _ _ h
theorem canonical_touchLine {s : State} (c a : Nat) (h : s.Canonical) : (s.touchLine c a).Canonical :=
  canonical_of_mem (s := s) rfl h
theorem canonical_perform {s : State} (f : Inbound) (h : s.Canonical) : (s.perform f).Canonical := by
  have h1 := canonical_strike f f.key h
  unfold State.perform
  dsimp only
  repeat' split
  all_goals first
    | exact h1
    | exact canonical_strike _ _ h1
theorem canonical_performEach (p : Inbound → Bool) (l : List Inbound) {s : State} (h : s.Canonical) :
    (State.performEach p l s).1.Canonical := by
  induction l generalizing s with
  | nil => exact h
  | cons f t ih =>
    refine ih ?_
    split
    · exact canonical_perform f h
    · exact h
theorem canonical_performs {s : State} (p : Inbound → Bool) (h : s.Canonical) : (s.performs p).Canonical :=
  canonical_of_mem (s := (State.performEach p s.flight s).1) rfl (canonical_performEach p s.flight h)
/-- So does the completion of inbound writes, whichever complete. -/
theorem canonical_complete {s : State} (p : Inbound → Bool) (h : s.Canonical) : (s.complete p).Canonical :=
  canonical_of_mem (s := s.performs _) rfl (canonical_performs _ h)
theorem canonical_landed {s : State} (who : Requester) (h : s.Canonical) : (s.landed who).Canonical :=
  canonical_of_mem (s := s.complete _) rfl (canonical_complete _ h)
theorem canonical_settle {s : State} (h : s.Canonical) : s.settle.Canonical :=
  canonical_of_mem (s := (s.performs _).complete _) rfl (canonical_complete _ (canonical_performs _ h))
/-- So does the passing of time. -/
theorem canonical_later {s : State} (h : s.Canonical) : s.later.Canonical := canonical_settle h

end Sys2Proof.Machine
end

