-- ==== Sys2Proof/Laws/Issue.lean ====
section
/-!
SUPPORT. What the issue of a lone bundle does: judged once, it traps, holds or commits.
-/
namespace Sys2Proof.Machine

/-- The lone bundle of op. -/
def State.lone (s : State) (op : SlotOp) (stop qui : Bool) : Bun := ⟨stop, qui, false, s.lit, [op]⟩

/-- What a member does with its bundle, from the release of its hold to the flow. -/
def State.commitOn (s : State) (c : Nat) (b : Bun) (l : List Seen) (fl : Flow) (t : Turn) (skip : Bool) : State :=
  (((s.updCore c (fun k => (k.release s.cycle).count skip)).commitSlots c l).updCore c
    (fun k => k.advance b l t ((s.core c).visits fl) (b.qui || fl.suspends))).finishOn c b fl t

/-- Where one core issues a bundle of one slot, all is done in turn. -/
theorem commitAll_alone (s : State) (c : Nat) (b : Bun) (v : Nat → List Seen) (x : Seen) (hv : v c = [x])
    (fl : Nat → Flow) (turn : Nat → Turn) (skip : Bool) :
    s.commitAll [c] b v fl turn skip = s.commitOn c b [x] (fl c) (turn c) skip := by
  have h : ∀ u : State, u.commitEffects [c] v = u.commitSlots c [x] := by
    intro u
    simp only [State.commitEffects, List.foldl_cons, List.foldl_nil, hv]
    by_cases h0 : x.slot = 0
    · simp [h0, State.commitSlots]
    · simp [h0, State.commitSlots]
  unfold State.commitAll State.commitOn
  simp only [h, List.foldl_cons, List.foldl_nil, hv, State.finishAll, List.all_nil, if_true]

/-- One core alone holds its bundle for a reason of its own. -/
theorem holdAll_alone (s : State) (c : Nat) (h : Hold) (hc : ∀ seg, h ≠ .chain seg) :
    s.holdAll [c] [(c, h)] = s.setHold c h := by
  have e : (assocGet [(c, h)] c).getD .partner = h := by simp [assocGet]
  unfold State.holdAll
  simp only [List.foldl_cons, List.foldl_nil, e]
  unfold State.ask
  split
  · exact absurd rfl (hc _)
  · rfl

theorem ready_ropeCores {s : State} (h : s.Ready) : s.ropeCores s.focus = [s.focus] := by
  have := h.alone
  simp [State.ropeCores, Core.members, State.me] at *
  simp [this]

theorem ready_mayIssue {s : State} (h : s.Ready) : s.mayIssue [s.focus] = true := by
  have h1 := h.running; have h2 := h.unheld; have h3 := h.unclaimed; have h4 := h.unowed; have h5 := h.sound
  simp only [State.me] at h1 h2 h3 h4 h5
  simp [State.mayIssue, State.blocked, h1, h2, h3, h4, h5]

theorem ready_depends {s : State} (h : s.Ready) (r : RegId) : s.me.seq.depends r = false := by
  simp [Seq.depends, h.groupWrites, h.groupPorts]

theorem ready_any_depends {s : State} (h : s.Ready) (l : List RegId) : l.any s.me.seq.depends = false := by
  simp [List.any_eq_false, ready_depends h]

theorem issueLone_eq {s : State} {op : SlotOp} {stop qui : Bool} (h : s.Ready) (hn : op.isNop = false) :
    issueLone op stop qui s = s.issue [s.focus] (s.lone op stop qui) := by
  simp [issueLone, ready_ropeCores h, ready_mayIssue h, keepOps, hn, State.lone]

/-- The operation may stand in the bundle where it stands (R59, R112, R175). -/
structure Fits (s : State) (op : SlotOp) (qui : Bool) : Prop where
  legal : op.legal = true
  quiet : op.needsQ = true → qui = true
  mode : op.mode = none ∨ op.mode = some s.me.ctl.hm

theorem fits_plain {s : State} {op : SlotOp} {qui : Bool} (hl : op.legal = true) (hq : op.needsQ = false)
    (hm : op.mode = none) : Fits s op qui := ⟨hl, by simp [hq], .inl hm⟩

theorem fits_legal {s : State} {op : SlotOp} {qui : Bool} (h : Fits s op qui) : op.illegal qui s.me.ctl.hm = false := by
  obtain ⟨a, b, c⟩ := h
  unfold SlotOp.illegal
  rcases c with c | c <;> rw [a, c] <;> cases hq : op.needsQ <;> simp_all

/-- What the bundle shows of its slot when the guard is true. -/
def State.sight (s : State) (op : SlotOp) : Seen :=
  ⟨op.slot, idP (op.guard.toNat % 8), some (op.sem s.ctx), none⟩

theorem judge_guarded {s : State} {op : SlotOp} {stop qui : Bool} (h : s.Ready) (hg : s.me.Guarded op.guard)
    (hl : Fits s op qui) (hn : op.isNop = false) :
    s.judge s.focus (s.lone op stop qui) = [s.sight op] := by
  have hw := h.groupWrites
  have d := ready_any_depends h
  obtain ⟨g1, g2⟩ := hg
  have hq' := fits_legal hl
  have e : ∀ x : Ctx, x = s.ctx → judgeSlot x qui [] op = s.sight op := by
    intro x hx
    subst hx
    have k1 : s.ctx.k = s.me := rfl
    simp only [judgeSlot, k1, hn, hq', d, g1, g2, hw, State.sight]
    simp
  have hf : (s.core s.focus).seq.first = none := h.first
  simp only [State.judge, judgeOps, State.lone, hf]
  rw [e]
  rfl

theorem judge_false {s : State} {op : SlotOp} {stop qui : Bool} (h : s.Ready) (hg : s.me.GuardFalse op.guard)
    (hl : Fits s op qui) (hn : op.isNop = false) :
    s.judge s.focus (s.lone op stop qui) = [⟨op.slot, idP (op.guard.toNat % 8), none, none⟩] := by
  have d := ready_any_depends h
  obtain ⟨g1, g2⟩ := hg
  have hq' := fits_legal hl
  simp only [State.judge, judgeOps, judgeSlot, State.lone]
  have k2 : (Ctx.mk s s.focus s.lit (s.core s.focus).seq.pushIdx).k = s.me := rfl
  have hf : (s.core s.focus).seq.first = none := h.first
  simp only [k2, hn, hq', d, g1, g2, hf]
  simp


/-- An answer whose push index is within the bound of R62. -/
def State.Indexed (s : State) (o : SlotOut) : Prop :=
  o.indexed = true → s.me.seq.pushIdx < 65536 ∨ s.me.ctl.hm = true

theorem ready_visits {s : State} (h : s.Ready) (fl : Flow) : s.me.visits fl = [] := by
  have h1 := h.inBody; have h2 := h.straight
  cases fl <;> simp [Core.visits, h1, h2, Core.closeVisit]

theorem ready_bundleBad {s : State} {stop qui : Bool} {op : SlotOp} {l : List Seen} (h : s.Ready)
    (hs : qui = true → stop = true) (hb : qui = true → (out0 l).any (·.taken) = false) :
    s.me.bundleBad (s.lone op stop qui) l = false := by
  have h1 := h.straight; have h2 := h.groupLen
  simp only [Core.bundleBad, State.lone, h1, h2]
  cases qui <;> simp_all

theorem sight_out0 {s : State} {op : SlotOp} : out0 [s.sight op] = if op.slot = 0 then some (op.sem s.ctx) else none := by
  unfold out0 seen0 State.sight
  by_cases h : op.slot = 0 <;> simp [h]

theorem sight_slot0 {s : State} {op : SlotOp} : flowOf [s.sight op] = if op.slot = 0 then (op.sem s.ctx).flow else .seq := by
  unfold flowOf slot0 seen0 State.sight
  by_cases h : op.slot = 0 <;> simp [h]

/-- The delivery depends only on what the members record. -/
theorem deliver_congr (s : State) (c : Nat) (trb : Word) (f g : Nat → TrapRec) (h : f c = g c) :
    s.deliver [c] trb f = s.deliver [c] trb g := by
  simp only [State.deliver, State.deliverAs, State.faultAll, State.oweFault, State.updCores, List.foldl_cons, List.foldl_nil, h]

/-- A lone operation with a true guard that traps. -/
theorem issueLone_trap {s : State} {op : SlotOp} {stop qui : Bool} {code : Nat} {tra : Word} (h : s.Ready)
    (hg : s.me.Guarded op.guard) (hl : Fits s op qui) (hn : op.isNop = false)
    (hs : qui = true → stop = true) (hb : qui = true → (op.sem s.ctx).taken = false) (h8 : op.slot < 8) (hr : (op.sem s.ctx).res = .trap code tra) :
    issueLone op stop qui s =
      .next (s.deliver [s.focus] (posRef s.me.seq.fetch.pos) (fun _ => ⟨code, tra, 2 ^ op.slot⟩)) := by
  rw [issueLone_eq h hn]
  have hj := judge_guarded (stop := stop) h hg hl hn
  have hfl : flowOf [s.sight op] = .seq := by
    rw [sight_slot0]; simp [SlotOut.flow, hr]
  have hbad : s.me.bundleBad (s.lone op stop qui) [s.sight op] = false :=
    ready_bundleBad h hs (by rw [sight_out0]; split <;> simp_all)
  have hv := ready_visits h (flowOf [s.sight op])
  have hst : s.me.structural (s.lone op stop qui) [s.sight op] = false := by
    unfold Core.structural; rw [hbad]; simp [State.sight]
  have htr : s.me.traps (s.lone op stop qui) [s.sight op] = [(op.slot, code, tra)] := by
    unfold Core.traps; simp only [hbad, hv]; simp [State.sight, hr]
  have hix : (indexTraps s.me [s.sight op] s.me.seq.pushIdx).filter
      (fun t => ¬ [(op.slot, code, tra)].any (fun u => u.1 == t.1)) = [] := by
    simp only [indexTraps, State.sight]
    split
    · split <;> simp
    · simp
  have hall : s.me.allTraps (s.lone op stop qui) [s.sight op] = [(op.slot, code, tra)] := by
    unfold Core.allTraps
    simp only [htr, hix, List.append_nil]
    have : op.slot = 0 ∨ op.slot = 1 ∨ op.slot = 2 ∨ op.slot = 3 ∨ op.slot = 4 ∨ op.slot = 5 ∨ op.slot = 6 ∨ op.slot = 7 := by omega
    rcases this with h | h | h | h | h | h | h | h <;> simp [h, List.range, List.range.loop]
  have hme : s.core s.focus = s.me := rfl
  have hearly : holdsOf true [s.sight op] = [] := by simp [holdsOf, State.sight, hr]
  unfold State.issue
  simp only [List.flatMap_cons, List.flatMap_nil, List.append_nil, List.any_cons, List.any_nil, Bool.or_false, hj, hme,
    hst, hearly, hall, List.headD_cons]
  simp
  apply deliver_congr
  simp [hj, hme, hall, trapRec]

/-- A lone operation with a true guard that holds its bundle before it issues. -/
theorem issueLone_early {s : State} {op : SlotOp} {stop qui : Bool} {hd : Hold} (h : s.Ready)
    (hg : s.me.Guarded op.guard) (hl : Fits s op qui) (hn : op.isNop = false)
    (hs : qui = true → stop = true)
    (hb : qui = true → (op.sem s.ctx).taken = false) (hr : (op.sem s.ctx).res = .hold hd) (he : hd.early = true)
    (hnc : ∀ seg, hd ≠ .chain seg) : issueLone op stop qui s = .next (s.setHold s.focus hd) := by
  rw [issueLone_eq h hn]
  have hj := judge_guarded (stop := stop) h hg hl hn
  have hfl : flowOf [s.sight op] = .seq := by
    rw [sight_slot0]; simp [SlotOut.flow, hr]
  have hbad : s.me.bundleBad (s.lone op stop qui) [s.sight op] = false :=
    ready_bundleBad h hs (by rw [sight_out0]; split <;> simp_all)
  have hst : s.me.structural (s.lone op stop qui) [s.sight op] = false := by
    unfold Core.structural; rw [hbad]; simp [State.sight]
  have hme : s.core s.focus = s.me := rfl
  have hearly : holdsOf true [s.sight op] = [hd] := by simp [holdsOf, State.sight, hr, he]
  unfold State.issue
  simp only [List.flatMap_cons, List.flatMap_nil, List.append_nil, List.any_cons, List.any_nil, Bool.or_false, hj, hme,
    hst, hearly]
  simp [holdAll_alone s s.focus hd hnc]

theorem allTraps_nil {s : State} {op : SlotOp} {stop qui : Bool} (h : s.Ready)
    (hbad : s.me.bundleBad (s.lone op stop qui) [s.sight op] = false) (hx : s.Indexed (op.sem s.ctx))
    (hr : ∀ c a, (op.sem s.ctx).res ≠ .trap c a) : s.me.allTraps (s.lone op stop qui) [s.sight op] = [] := by
  have hv := ready_visits h (flowOf [s.sight op])
  have htr : s.me.traps (s.lone op stop qui) [s.sight op] = [] := by
    cases hres : (op.sem s.ctx).res with
    | trap c a => exact absurd hres (hr c a)
    | hold _ => unfold Core.traps; simp only [hbad, hv]; simp [State.sight, hres]
    | ok _ _ _ => unfold Core.traps; simp only [hbad, hv]; simp [State.sight, hres]
  have hix : indexTraps s.me [s.sight op] s.me.seq.pushIdx = [] := by
    simp only [indexTraps, State.sight]
    split
    · rename_i hi
      have := hx hi
      split
      · rename_i hc; rcases this with h' | h' <;> simp_all; omega
      · rfl
    · rfl
  simp [Core.allTraps, htr, hix]

/-- A lone operation with a true guard that waits at commit. -/
theorem issueLone_late {s : State} {op : SlotOp} {stop qui : Bool} {hd : Hold} (h : s.Ready)
    (hg : s.me.Guarded op.guard) (hl : Fits s op qui) (hn : op.isNop = false)
    (hs : qui = true → stop = true)
    (hb : qui = true → (op.sem s.ctx).taken = false) (hr : (op.sem s.ctx).res = .hold hd) (he : hd.early = false)
    (hnc : ∀ seg, hd ≠ .chain seg) (hx : s.Indexed (op.sem s.ctx)) :
    issueLone op stop qui s = .next (s.setHold s.focus hd) := by
  rw [issueLone_eq h hn]
  have hj := judge_guarded (stop := stop) h hg hl hn
  have hfl : flowOf [s.sight op] = .seq := by
    rw [sight_slot0]; simp [SlotOut.flow, hr]
  have hbad : s.me.bundleBad (s.lone op stop qui) [s.sight op] = false :=
    ready_bundleBad h hs (by rw [sight_out0]; split <;> simp_all)
  have hall := allTraps_nil (stop := stop) (qui := qui) h hbad hx (by simp [hr])
  have hst : s.me.structural (s.lone op stop qui) [s.sight op] = false := by
    unfold Core.structural; rw [hbad]; simp [State.sight]
  have hme : s.core s.focus = s.me := rfl
  have hearly : holdsOf true [s.sight op] = [] := by simp [holdsOf, State.sight, hr, he]
  have hlate : holdsOf false [s.sight op] = [hd] := by simp [holdsOf, State.sight, hr, he]
  have hlate' : State.lateHolds (s.lone op stop qui) [s.focus] s = [(s.focus, hd)] := by
    simp only [State.lateHolds, hj, hlate, List.append_nil, List.map_cons, List.map_nil]
  unfold State.issue
  simp only [List.flatMap_cons, List.flatMap_nil, List.append_nil, List.any_cons, List.any_nil, Bool.or_false, hj, hme,
    hst, hearly, hall, hlate']
  simp [holdAll_alone s s.focus hd hnc]

/-- A lone operation with a true guard commits. -/
theorem issueLone_commit {s : State} {op : SlotOp} {stop qui : Bool} {rs : List Res} {f : State → State} {fl : Flow}
    (h : s.Ready) (hg : s.me.Guarded op.guard) (hl : Fits s op qui) (hn : op.isNop = false) (hs : qui = true → stop = true) (hr : (op.sem s.ctx).res = .ok rs f fl)
    (hx : s.Indexed (op.sem s.ctx)) (h0 : op.slot = 0 ∨ fl = .seq) (hb : qui = true → (op.sem s.ctx).taken = false)
    (hp : fl.suspends = false) (hw : qui = true → s.me.seq.preempt = none) :
    issueLone op stop qui s =
      .next (s.commitOn s.focus (s.lone op stop qui) [s.sight op] fl (s.turn s.focus fl) false) := by
  rw [issueLone_eq h hn]
  have hj := judge_guarded (stop := stop) h hg hl hn
  have hfl : flowOf [s.sight op] = fl := by
    rw [sight_slot0]
    rcases h0 with h0 | h0
    · simp [SlotOut.flow, hr, h0]
    · subst h0; simp [SlotOut.flow, hr]
  have hbad : s.me.bundleBad (s.lone op stop qui) [s.sight op] = false :=
    ready_bundleBad h hs (by rw [sight_out0]; split <;> simp_all)
  have hall := allTraps_nil (stop := stop) (qui := qui) h hbad hx (by simp [hr])
  have hst : s.me.structural (s.lone op stop qui) [s.sight op] = false := by
    unfold Core.structural; rw [hbad]; simp [State.sight]
  have hme : s.core s.focus = s.me := rfl
  have hearly : holdsOf true [s.sight op] = [] := by simp [holdsOf, State.sight, hr]
  have hlate : holdsOf false [s.sight op] = [] := by simp [holdsOf, State.sight, hr]
  have hsk : s.me.skips (s.lone op stop qui) [s.sight op] = false := by
    obtain ⟨g1, g2⟩ := hg
    have g3 : (s.me.pred (op.guard.toNat % 8)).val ≠ op.guard[3] := by
      intro e; simp [e] at g2
    simp [Core.skips, State.lone, hn, g3]
  have hdv : s.diverges [s.focus] (fun c => flowOf (s.judge c (s.lone op stop qui))) = false := by
    simp [State.diverges]
  have hlate' : State.lateHolds (s.lone op stop qui) [s.focus] s = [] := by
    simp only [State.lateHolds, hj, hlate, List.append_nil, List.map_nil]
  have hnp : ∀ a v t, fl ≠ .park a v t := fun a v t e => by rw [e] at hp; exact absurd hp (by simp [Flow.suspends])
  have hpk : ¬ (s.parkOutcome [s.focus] (fun c => s.judge c (s.lone op stop qui)) s.focus) = some true := by
    unfold State.parkOutcome
    dsimp only
    rw [hj, hfl]
    split
    · exact absurd rfl (hnp _ _ _)
    · simp
    · simp
  have hjm : ∀ p, memberFlow (jointFlow [fl] p) fl = fl ∧ jointFlow [fl] p ≠ some .halt ∧
      savesAll (jointFlow [fl] p) qui s.me.seq.preempt.isSome s.me.ctl.hm = false := by
    intro p
    have hw' : (qui && s.me.seq.preempt.isSome && !s.me.ctl.hm) = false := by
      cases hqq : qui
      · rfl
      · simp [hw hqq]
    cases fl <;> first | exact absurd rfl (hnp ‹_› ‹_› ‹_›) | (simp_all [memberFlow, jointFlow, savesAll, Flow.joint, Flow.suspends])
  have hP : ¬ true ∈ [s.focus].filterMap (s.parkOutcome [s.focus] (fun c => s.judge c (s.lone op stop qui))) := by
    intro hm
    obtain ⟨c, hc, e⟩ := List.mem_filterMap.1 hm
    simp only [List.mem_singleton] at hc
    subst hc
    exact hpk e
  unfold State.issue
  simp only [List.flatMap_cons, List.flatMap_nil, List.append_nil, List.any_cons, List.any_nil, Bool.or_false, hj, hme,
    hst, hearly, hall, hlate', hdv, List.map_cons, List.map_nil, hfl, List.headD_cons]
  generalize [s.focus].filterMap (s.parkOutcome [s.focus] (fun c => s.judge c (s.lone op stop qui))) = P at hP ⊢
  have hno : ¬ (false = true ∨ true ∈ P ∧ false ∈ P) := by simp [hP]
  obtain ⟨j1, j2, j3⟩ := hjm (P.contains true)
  rw [if_neg (by simp), if_neg hno]
  have hqui : (s.lone op stop qui).qui = qui := rfl
  unfold State.commitBundle
  simp only [List.all_cons, List.all_nil, Bool.and_true, hj, hme, hsk, List.any_cons, List.any_nil, Bool.or_false, hqui, j3, j2,
    if_false, Bool.false_eq_true]
  rw [commitAll_alone _ _ _ _ _ hj]
  simp only [hj, hfl, j1]
  simp

end Sys2Proof.Machine
end

