-- ==== Sys2Proof/Laws/Landing.lean ====
section
/-!
SUPPORT. Results on their way: the order in which they land, what landing changes, and what a bundle of
register results leaves (R97, R98, R217).
-/
namespace Sys2Proof.Machine

/-! ### One register write -/

theorem putReg_regs_ctl {k l : Core} (hr : k.regs = l.regs) (hc : k.ctl = l.ctl) (d : RegId) (v : WVal) (a b : Nat) :
    (k.putReg d v a).regs = (l.putReg d v b).regs ∧ (k.putReg d v a).ctl = (l.putReg d v b).ctl := by
  unfold Core.putReg
  rw [hr, hc]
  split <;> (try split) <;> simp_all

/-- What a register write leaves alone (R97, R217). -/
theorem putReg_frame (k r : Core) (d : RegId) (v : WVal) (a : Nat) : (k.putReg d v a).frame r = k.frame r := by
  unfold Core.putReg
  split <;> (try split) <;> rfl

@[simp] theorem putReg_pend (k : Core) (d : RegId) (v : WVal) (a : Nat) : (k.putReg d v a).pend = k.pend := by
  unfold Core.putReg
  split <;> (try split) <;> rfl
@[simp] theorem putReg_cnt (k : Core) (d : RegId) (v : WVal) (a : Nat) : (k.putReg d v a).cnt = k.cnt := by
  unfold Core.putReg
  split <;> (try split) <;> rfl

theorem noteWrite_frame (k r : Core) (d : RegId) : (k.noteWrite d).frame r = k.frame r := by
  unfold Core.noteWrite Seq.noteWrite
  split
  · rfl
  · split <;> rfl
theorem noteRead_frame (k r : Core) (d : RegId) : (k.noteRead d).frame r = k.frame r := by
  unfold Core.noteRead Seq.noteRead
  split
  · rfl
  · split <;> rfl
@[simp] theorem noteWrite_regs (k : Core) (d : RegId) : (k.noteWrite d).regs = k.regs := by
  unfold Core.noteWrite; split <;> rfl
@[simp] theorem noteWrite_ctl (k : Core) (d : RegId) : (k.noteWrite d).ctl = k.ctl := by
  unfold Core.noteWrite; split <;> rfl
@[simp] theorem noteWrite_pend (k : Core) (d : RegId) : (k.noteWrite d).pend = k.pend := by
  unfold Core.noteWrite; split <;> rfl
@[simp] theorem noteWrite_cnt (k : Core) (d : RegId) : (k.noteWrite d).cnt = k.cnt := by
  unfold Core.noteWrite; split <;> rfl

theorem land_frame (k r : Core) (p : Pend) : (k.land p).frame r = k.frame r := by
  unfold Core.land; rw [noteWrite_frame, putReg_frame]
theorem lands_frame (l : List Pend) (k r : Core) : (l.foldl Core.land k).frame r = k.frame r := by
  induction l generalizing k with
  | nil => rfl
  | cons p t ih => rw [List.foldl_cons, ih, land_frame]
theorem lands_pend (l : List Pend) (k : Core) : (l.foldl Core.land k).pend = k.pend := by
  induction l generalizing k with
  | nil => rfl
  | cons p t ih => rw [List.foldl_cons, ih]; simp [Core.land]
theorem lands_cnt (l : List Pend) (k : Core) : (l.foldl Core.land k).cnt = k.cnt := by
  induction l generalizing k with
  | nil => rfl
  | cons p t ih => rw [List.foldl_cons, ih]; simp [Core.land]

/-- Landing writes the same registers as `putAll`. -/
theorem lands_putAll (l : List Pend) {k m : Core} (hr : k.regs = m.regs) (hc : k.ctl = m.ctl) :
    (l.foldl Core.land k).regs = (m.putAll (l.map (fun p => (p.dst, p.val)))).regs ∧
    (l.foldl Core.land k).ctl = (m.putAll (l.map (fun p => (p.dst, p.val)))).ctl := by
  induction l generalizing k m with
  | nil => exact ⟨hr, hc⟩
  | cons p t ih =>
    simp only [List.foldl_cons, List.map_cons, Core.putAll]
    have h := putReg_regs_ctl hr hc p.dst p.val p.due 0
    exact ih (by simp [Core.land, h.1]) (by simp [Core.land, h.2])

/-! ### The order of landing -/

theorem pendInsert_last (p : Pend) (l : List Pend) (h : ∀ q ∈ l, q.due = p.due ∧ (q.flagged = true → p.flagged = true)) :
    pendInsert p l = l ++ [p] := by
  induction l with
  | nil => rfl
  | cons q t ih =>
    have h1 := h q (by simp)
    have h2 : ¬ (p.due < q.due ∨ (p.due = q.due ∧ q.flagged = true ∧ ¬ p.flagged = true)) := by
      rintro (a | ⟨_, b, c⟩)
      · omega
      · exact c (h1.2 b)
    simp only [pendInsert, h2, if_false, List.cons_append]
    rw [ih (fun r hr => h r (by simp [hr]))]

/-- A result that ORs flags into FPF. -/
def Res.flagged (r : Res) : Bool := match r.val with
  | .flags _ => true
  | _ => false

/-- No result of a register follows one of flags. -/
def Sorted : List Res → Prop
  | [] => True
  | r :: t => (r.flagged = true → ∀ q ∈ t, q.flagged = true) ∧ Sorted t

theorem fold_pendInsert (n lat : Nat) (src : Word) (rs : List Res) (h : ∀ r ∈ rs, r.lat = lat) (hs : Sorted rs)
    (l : List Pend) (hl : ∀ q ∈ l, q.due = n + lat ∧ (q.flagged = true → ∀ r ∈ rs, r.flagged = true)) :
    rs.foldl (fun l r => pendInsert ⟨n + r.lat, r.dst, r.val, n, src⟩ l) l =
      l ++ rs.map (fun r => ⟨n + lat, r.dst, r.val, n, src⟩) := by
  induction rs generalizing l with
  | nil => simp
  | cons r t ih =>
    have hr : r.lat = lat := h r (by simp)
    simp only [List.foldl_cons, List.map_cons, hr]
    rw [pendInsert_last]
    · rw [ih (fun q hq => h q (by simp [hq])) hs.2]
      · simp
      · intro q hq
        rcases List.mem_append.mp hq with hq | hq
        · exact ⟨(hl q hq).1, fun hf u hu => (hl q hq).2 hf u (by simp [hu])⟩
        · simp only [List.mem_singleton] at hq
          subst hq
          exact ⟨rfl, fun hf => hs.1 hf⟩
    · intro q hq
      exact ⟨(hl q hq).1, fun hf => (hl q hq).2 hf r (by simp)⟩

/-! ### A bundle of register results -/

/-- Reading notes change the bookkeeping only. -/
theorem noteReads_frame (l : List RegId) (k r : Core) : (l.foldl Core.noteRead k).frame r = k.frame r := by
  induction l generalizing k with
  | nil => rfl
  | cons p t ih => rw [List.foldl_cons, ih, noteRead_frame]

theorem noteRead_same (k : Core) (d : RegId) : (k.noteRead d).regs = k.regs ∧ (k.noteRead d).ctl = k.ctl ∧
    (k.noteRead d).pend = k.pend ∧ (k.noteRead d).cnt = k.cnt ∧ (k.noteRead d).seq.pos = k.seq.pos ∧
    (k.noteRead d).seq.hold = k.seq.hold ∧ (k.noteRead d).mat = k.mat ∧ (k.noteRead d).run = k.run ∧
    (k.noteRead d).seq.fetch = k.seq.fetch ∧ (k.noteRead d).seq.half0 = k.seq.half0 := by
  unfold Core.noteRead Seq.noteRead
  split
  · simp
  · split <;> simp

theorem noteReads_same (l : List RegId) (k : Core) : (l.foldl Core.noteRead k).regs = k.regs ∧
    (l.foldl Core.noteRead k).ctl = k.ctl ∧ (l.foldl Core.noteRead k).pend = k.pend ∧
    (l.foldl Core.noteRead k).cnt = k.cnt ∧ (l.foldl Core.noteRead k).seq.pos = k.seq.pos := by
  induction l generalizing k with
  | nil => simp
  | cons p t ih =>
    obtain ⟨a, b, c, d, e, _⟩ := noteRead_same k p
    simp only [List.foldl_cons]
    obtain ⟨a', b', c', d', e'⟩ := ih (k.noteRead p)
    exact ⟨a'.trans a, b'.trans b, c'.trans c, d'.trans d, e'.trans e⟩

theorem release_unheld (k : Core) (now : Nat) (h : k.seq.hold = none) : k.release now = k := by
  have e : { k with seq := { k.seq with hold := none } } = k := by rw [← h]
  simpa [Core.release, h] using e


/-- A change of the core that at most notes the last load (R70). -/
def NotesLoad (f : Core → Core) : Prop := ∀ k, ∃ l, f k = { k with seq := { k.seq with lastLoad := l } }

theorem notesLoad_id : NotesLoad id := fun k => ⟨k.seq.lastLoad, rfl⟩

/-- The core after the slot of a lone bundle, before its position ends. -/
def slotted (op : SlotOp) (o : SlotOut) (rs : List Res) (f : Core → Core) (k : Core) : Core :=
  let k2 := f (o.reads.foldl Core.noteRead ((idP (op.guard.toNat % 8)).foldl Core.noteRead k))
  { k2 with
    pend := rs.foldl (fun l r => pendInsert ⟨k.seq.pos + r.lat, r.dst, r.val, k.seq.pos, posRef k.seq.fetch.pos⟩ l) k2.pend
    seq := { k2.seq with
      pushIdx := if o.indexed = true ∧ ¬ k2.ctl.hm = true then k2.seq.pushIdx + 1 else k2.seq.pushIdx
      effect := k2.seq.effect || o.effect } }

theorem slotted_frame {op : SlotOp} {o : SlotOut} {rs : List Res} {f : Core → Core} (hf : NotesLoad f) (k r : Core) :
    (slotted op o rs f k).frame r = k.frame r := by
  have h1 := noteReads_frame o.reads ((idP (op.guard.toNat % 8)).foldl Core.noteRead k) r
  have h2 := noteReads_frame (idP (op.guard.toNat % 8)) k r
  rw [← h2, ← h1]
  obtain ⟨l, hl⟩ := hf (o.reads.foldl Core.noteRead ((idP (op.guard.toNat % 8)).foldl Core.noteRead k))
  unfold slotted
  simp only [hl]
  rfl

theorem slotted_same {op : SlotOp} {o : SlotOut} {rs : List Res} {f : Core → Core} (hf : NotesLoad f) (k : Core) :
    (slotted op o rs f k).regs = k.regs ∧ (slotted op o rs f k).ctl = k.ctl ∧ (slotted op o rs f k).cnt = k.cnt ∧
    (slotted op o rs f k).seq.pos = k.seq.pos ∧
    (slotted op o rs f k).pend = rs.foldl (fun l r => pendInsert ⟨k.seq.pos + r.lat, r.dst, r.val, k.seq.pos,
      posRef k.seq.fetch.pos⟩ l) k.pend := by
  obtain ⟨a, b, c, d, e⟩ := noteReads_same o.reads ((idP (op.guard.toNat % 8)).foldl Core.noteRead k)
  obtain ⟨a', b', c', d', e'⟩ := noteReads_same (idP (op.guard.toNat % 8)) k
  obtain ⟨l, hl⟩ := hf (o.reads.foldl Core.noteRead ((idP (op.guard.toNat % 8)).foldl Core.noteRead k))
  unfold slotted
  simp only [hl, a, a', b, b', c, c', d, d', e, e']
  simp

/-- One slot commits as it stands, whichever it is. -/
theorem commitSlots_one (u : State) (c : Nat) (v : Seen) :
    u.commitSlots c [v] = State.commitSlot c (u.core c).seq.pos (posRef (u.core c).seq.fetch.pos) u v := by
  rfl

/-- The slot of a lone bundle whose only effects are register results. -/
theorem commitSlots_plain {s u : State} {op : SlotOp} {rs : List Res} {f : State → State} {φ : Core → Core} {fl : Flow}
    (hc : s.focus < 256) (hu : u.focus = s.focus) (hr : (op.sem s.ctx).res = .ok rs f fl)
    (hf : ∀ u : State, u.focus = s.focus → f u = u.updCore s.focus φ) :
    u.commitSlots s.focus [s.sight op] = u.updCore s.focus (slotted op (op.sem s.ctx) rs φ) := by
  rw [commitSlots_one]
  simp only [State.commitSlot, State.sight, hr]
  rw [hf ((u.updCore s.focus fun k => List.foldl Core.noteRead k (idP (op.guard.toNat % 8))).updCore s.focus
    fun k => List.foldl Core.noteRead k (op.sem s.ctx).reads) hu, updCore_updCore _ _ _ _ hc, updCore_updCore _ _ _ _ hc, updCore_updCore _ _ _ _ hc]
  rfl

/-- A core that nothing holds counts its bundle (R204). -/
theorem counted_unheld {s : State} (h : s.Ready) (skip : Bool) :
    s.updCore s.focus (fun k => (k.release s.cycle).count skip) = s.setCore s.focus (s.me.count skip) := by
  rw [updCore_eq, show s.core s.focus = s.me from rfl, release_unheld _ _ h.unheld]

/-- Everything of the core that `advance` leaves alone once the slots are done. -/
theorem advance_frame (k r : Core) (b : Bun) (l : List Seen) (t : Turn) (fence : Bool) :
    (k.advance b l t [] fence).frame r = k.frame r := by
  unfold Core.advance
  simp only [Core.close, List.foldl_nil]
  split
  · rfl
  · unfold Core.landDue
    have := lands_frame ((k.pend.filter (fun p => p.due ≤ k.seq.pos + 1))) { k with
      seq := { k.seq with
        pos := k.seq.pos + 1
        exec1 := !k.seq.half0.any (fun (h : Half) => h.seg == k.seq.fetch.pos.seg)
        fetch := t.fetch
        br := t.br
        replays := 0
        firstCycle := none
        first := none
        grpLen := if b.stop then 0 else k.seq.grpLen + 1
        grpWrites := if b.stop then [] else l.foldl (fun (a : List RegId) (v : Seen) => match v.out with
          | some o => a ++ o.writes
          | none => a) k.seq.grpWrites
        grpPorts := if b.stop then [] else l.foldl (fun (a : List RegId) (v : Seen) => match v.out with
          | some o => a ++ o.ports
          | none => a) k.seq.grpPorts } } r
    exact this

end Sys2Proof.Machine
end

