-- ==== Sys2Proof/Laws/Gives.lean ====
section
/-!
SUPPORT. A lone operation whose effects are register results of one latency: the bundle that it leaves
(R97, R98, R101).
-/
namespace Sys2Proof.Machine

theorem landDue_all {k : Core} {P j : Nat} (h : ∀ p ∈ k.pend, p.due = P) (hj : P ≤ j) :
    k.landDue j = { k.pend.foldl Core.land k with pend := [] } := by
  have e1 : k.pend.filter (fun p => decide (p.due ≤ j)) = k.pend :=
    List.filter_eq_self.2 (fun p hp => by simp [h p hp, hj])
  have e2 : k.pend.filter (fun p => decide (¬ p.due ≤ j)) = [] :=
    List.filter_eq_nil_iff.2 (fun p hp => by simp [h p hp, hj])
  simp only [Core.landDue, e1, e2]

theorem landDue_none {k : Core} {P j : Nat} (h : ∀ p ∈ k.pend, p.due = P) (hj : ¬ P ≤ j) : k.landDue j = k := by
  have e1 : k.pend.filter (fun p => decide (p.due ≤ j)) = [] :=
    List.filter_eq_nil_iff.2 (fun p hp => by simp [h p hp, hj])
  have e2 : k.pend.filter (fun p => decide (¬ p.due ≤ j)) = k.pend :=
    List.filter_eq_self.2 (fun p hp => by simp [h p hp]; omega)
  simp only [Core.landDue, e1, e2, List.foldl_nil]

/-- Core k at the next position, with these results in flight and nothing landed yet. -/
structure Issued (k m : Core) (P : Nat) (l : Writes) : Prop where
  regs : m.regs = k.regs
  ctl : m.ctl = k.ctl
  due : ∀ p ∈ m.pend, p.due = P
  writes : m.pend.map (fun p => (p.dst, p.val)) = l
  frame : m.frame k = k
  counted : m.cnt = { k.cnt with bndl := k.cnt.bndl + 1 }
  position : m.seq.pos = k.seq.pos + 1

theorem frame_self (k : Core) : k.frame k = k := rfl

theorem issued_landed {k m : Core} {P : Nat} {l : Writes} (h : Issued k m P l) (j : Nat) (hj : P ≤ j) :
    (m.landDue j).regs = (k.putAll l).regs ∧ (m.landDue j).ctl = (k.putAll l).ctl ∧ (m.landDue j).pend = [] := by
  rw [landDue_all h.due hj]
  have := lands_putAll m.pend h.regs h.ctl
  rw [h.writes] at this
  exact ⟨this.1, this.2, rfl⟩

/-- From the core that a bundle leaves to what the state shows of it. -/
theorem lands_of_issued {s : State} {m : Core} {lat : Nat} {l : Writes} (hi : s.focus < 256)
    (h : Issued s.me m (s.here + lat) l) :
    Lands s (s.setCore s.focus (m.landDue (s.here + 1))) lat l := by
  have hme : (s.setCore s.focus (m.landDue (s.here + 1))).me = m.landDue (s.here + 1) := by
    simp [State.me, core_setCore_same _ _ _ hi]
  by_cases hl : s.here + lat ≤ s.here + 1
  · have e := landDue_all h.due hl
    have hL := issued_landed h (s.here + 1) hl
    have again : ∀ j, (m.landDue (s.here + 1)).landDue j = m.landDue (s.here + 1) := by
      intro j
      rw [e]
      rfl
    constructor
    · rw [hme, e]
      have := lands_frame m.pend m m
      have p2 : ∀ (q : List Pend) (k : Core), (q.foldl Core.land k).seq.pos = k.seq.pos := by
        intro q
        induction q with
        | nil => intro k; rfl
        | cons p t ih =>
          intro k
          rw [List.foldl_cons, ih]
          unfold Core.land Core.noteWrite Seq.noteWrite Core.putReg
          repeat' (first | rfl | split)
      show (m.pend.foldl Core.land m).seq.pos = _
      rw [p2, h.position]; rfl
    · rw [hme, e]; show (m.pend.foldl Core.land m).cnt = _; rw [lands_cnt, h.counted]
    · intro j h1 h2; omega
    · intro j _; rw [hme, again]; exact ⟨hL.1, hL.2.1⟩
    · intro j _; rw [hme, again]; exact hL.2.2
    · rw [hme, e]
      have := lands_frame m.pend m s.me
      rw [h.frame] at this
      exact this
  · have e := landDue_none h.due hl
    rw [e] at hme ⊢
    constructor
    · rw [hme]; exact h.position
    · rw [hme]; exact h.counted
    · intro j _ h2
      rw [hme, landDue_none h.due (by omega)]
      exact ⟨h.regs, h.ctl⟩
    · intro j hj; rw [hme]; have := issued_landed h j hj; exact ⟨this.1, this.2.1⟩
    · intro j hj; rw [hme]; exact (issued_landed h j hj).2.2
    · rw [hme]; exact h.frame

theorem quiet_setCore (s : State) (m : Core) : Quiet s (s.setCore s.focus m) where
  focus := rfl
  memory _ := rfl
  others _ hd := core_setCore_other _ _ _ _ hd
  elsewhere := rfl

/-- The core before anything lands, after a lone plain bundle. -/
def sentCore (s : State) (op : SlotOp) (stop : Bool) (o : SlotOut) (rs : List Res) (f : Core → Core) (t : Turn) : Core :=
  (slotted op o rs f (s.me.count false)).advance (s.lone op stop false) [s.sight op] t [] true

theorem advance_fence (k : Core) (b : Bun) (l : List Seen) (t : Turn) :
    k.advance b l t [] false = (k.advance b l t [] true).landDue (k.seq.pos + 1) := rfl

theorem issued_sentCore {s : State} {op : SlotOp} {stop : Bool} {o : SlotOut} {rs : List Res} {t : Turn} {lat : Nat}
    {f : Core → Core} (hf : NotesLoad f) (h : s.Ready) (hlat : ∀ r ∈ rs, r.lat = lat) (hsort : Sorted rs) :
    Issued s.me (sentCore s op stop o rs f t) (s.here + lat) (rs.map (fun r => (r.dst, r.val))) := by
  obtain ⟨a, b, c, d, e⟩ := slotted_same (op := op) (o := o) (rs := rs) hf (s.me.count false)
  have hp : s.me.pend = [] := h.settled
  have e' : (slotted op o rs f (s.me.count false)).pend =
      rs.map (fun r => ⟨s.here + lat, r.dst, r.val, s.me.seq.pos, posRef s.me.seq.fetch.pos⟩) := by
    rw [e, show (s.me.count false).pend = [] from hp]
    exact fold_pendInsert s.me.seq.pos lat _ rs hlat hsort [] (by simp)
  have hpend : (sentCore s op stop o rs f t).pend = (slotted op o rs f (s.me.count false)).pend := rfl
  constructor
  · exact a
  · exact b
  · rw [hpend, e']; simp
  · rw [hpend, e']; simp [Function.comp_def]
  · unfold sentCore
    rw [advance_frame, slotted_frame hf]; rfl
  · exact c
  · show (slotted op o rs f (s.me.count false)).seq.pos + 1 = _
    rw [d]; rfl

theorem updCore_id {s : State} {c : Nat} (hc : c < 256) (f : Core → Core) (hf : f (s.core c) = s.core c) :
    s.updCore c f = s := by
  rw [updCore_eq, hf]
  simp only [State.setCore, State.core]
  have : s.cores.setIfInBounds c (s.cores[c]?.getD Core.reset) = s.cores := by
    ext i hi
    simp only [Vector.getElem_setIfInBounds]
    split
    · rename_i e; subst e; simp [hc]
    · rfl
  rw [this]

/-- A plain operation with register results only: the whole step. -/
theorem issueLone_gives {s : State} {op : SlotOp} {stop : Bool} {rs : List Res} {lat : Nat}
    {f : State → State} {φ : Core → Core}
    (h : s.Ready) (hg : s.me.Guarded op.guard) (hl : Fits s op false) (hn : op.isNop = false)
    (hr : (op.sem s.ctx).res = .ok rs f .seq)
    (hf : ∀ u : State, u.focus = s.focus → f u = u.updCore s.focus φ) (hφ : NotesLoad φ) (hx : (op.sem s.ctx).indexed = false)
    (hlat : ∀ r ∈ rs, r.lat = lat) (hsort : Sorted rs) :
    ∃ t, issueLone op stop false s = .next t ∧ Lands s t lat (rs.map (fun r => (r.dst, r.val))) ∧ Quiet s t ∧
      Onward s t := by
  have hc := h.inRange
  have ht : s.turn s.focus .seq = ⟨s.nextPlace s.focus s.me.seq.fetch.pos, none, none⟩ := by
    have h1 := h.straight; have h2 := ready_visits h .seq
    simp only [State.me] at h1 h2
    simp [State.turn, h1, h2, State.me]
  have hv := ready_visits h .seq
  have hcm := issueLone_commit (stop := stop) (qui := false) h hg hl hn (by simp) hr
    (by simp [State.Indexed, hx]) (.inr rfl) (by simp) rfl (by simp)
  refine ⟨s.setCore s.focus ((sentCore s op stop (op.sem s.ctx) rs φ
    ⟨s.nextPlace s.focus s.me.seq.fetch.pos, none, none⟩).landDue (s.here + 1)), ?_, ?_, ?_, ?_⟩
  · rw [hcm, ht]
    unfold State.commitOn
    simp only [show (s.core s.focus).visits .seq = [] from hv, counted_unheld h]
    rw [commitSlots_plain hc (setCore_focus _ _ _) hr hf, updCore_updCore _ _ _ _ hc]
    simp only [State.finishOn, State.finish, State.lone, Flow.suspends, Bool.or_false]
    rw [updCore_eq, core_setCore_same _ _ _ hc, setCore_setCore]
    simp only [Bool.false_eq_true, not_false_eq_true, if_true]
    have := (slotted_same (op := op) (o := op.sem s.ctx) (rs := rs) hφ (s.me.count false)).2.2.2.1
    rw [advance_fence]
    simp only [sentCore, State.lone]
    rw [this]
    rfl
  · exact lands_of_issued hc (issued_sentCore hφ h hlat hsort)
  · exact quiet_setCore _ _
  · have hme : ∀ m, (s.setCore s.focus m).me = m := fun m => by simp [State.me, core_setCore_same _ _ _ hc]
    unfold Onward
    rw [hme]
    have p2 : ∀ (q : List Pend) (k : Core), (q.foldl Core.land k).seq.fetch = k.seq.fetch ∧
        (q.foldl Core.land k).seq.br = k.seq.br := by
      intro q
      induction q with
      | nil => intro k; exact ⟨rfl, rfl⟩
      | cons p t ih =>
        intro k
        rw [List.foldl_cons]
        obtain ⟨i1, i2⟩ := ih (k.land p)
        rw [i1, i2]
        unfold Core.land Core.noteWrite Seq.noteWrite Core.putReg
        constructor <;> (repeat' (first | rfl | split))
    unfold Core.landDue
    exact p2 _ _

end Sys2Proof.Machine
end

