-- ==== Sys2Proof/Laws/Shapes.lean ====
section
/-!
SUPPORT. The bundle that each shape of register result leaves (R82 to R85, R98).
-/
namespace Sys2Proof.Machine

/-- A slot operation commits in a bundle of its own and only sends results to their registers. -/
def Issues (s : State) (op : SlotOp) (lat : Nat) (l : Writes) : Prop :=
  ∃ t, issueLone op true false s = .next t ∧ Lands s t lat l ∧ Quiet s t ∧ Onward s t

/-- Results of one latency, none of a register after one of flags. -/
theorem plain_issues {s : State} {slot : Nat} {legal : Bool} {g : BitVec 4} {sem : Ctx → SlotOut} {rs : List Res}
    {lat : Nat} (h : s.Go g) (hl : legal = true) (hr : (sem s.ctx).res = .ok rs id .seq)
    (hx : (sem s.ctx).indexed = false) (hlat : ∀ r ∈ rs, r.lat = lat) (hsort : Sorted rs) :
    Issues s (.plain slot legal g sem) lat (rs.map (fun r => (r.dst, r.val))) :=
  issueLone_gives (op := .plain slot legal g sem) h.1 h.2 (fits_plain hl rfl rfl) rfl hr
    (fun _ _ => (updCore_id h.1.inRange id rfl).symm) notesLoad_id hx hlat hsort

theorem scalarOut_issues {s : State} {slot n lat : Nat} {legal : Bool} {g : BitVec 4} {sem : Ctx → SlotOut}
    {d : BitVec 6} {reads : List RegId} {v : SReg} {flags : BitVec 5} (h : s.Go g) (hl : legal = true)
    (hs : sem s.ctx = scalarOut n lat d reads v flags) :
    Issues s (.plain slot legal g sem) lat (toScalar n d v ++ if flags = 0 then [] else raises flags) := by
  have := plain_issues (slot := slot) (sem := sem) (rs := (dstS d).map (fun r => ⟨lat, r, .word v.val v.tag⟩) ++
      [⟨lat, .sPort n, .word v.val v.tag⟩] ++ (if flags = 0 then [] else [⟨lat, .fpf, .flags flags⟩]))
    (lat := lat) h hl (by rw [hs]; rfl) (by rw [hs]; rfl)
    (by intro r hr; unfold dstS at hr; split at hr <;> split at hr <;> simp at hr <;> rcases hr with h | h | h <;> simp_all)
    (by unfold dstS; split <;> split <;> simp [Sorted, Res.flagged])
  have e : ∀ x y : Writes, x = y → Issues s (.plain slot legal g sem) lat x → Issues s (.plain slot legal g sem) lat y :=
    fun _ _ e h => e ▸ h
  refine e _ _ ?_ this
  unfold toScalar raises
  split <;> simp [Function.comp_def]

theorem predOut_issues {s : State} {slot lat : Nat} {legal : Bool} {g : BitVec 4} {sem : Ctx → SlotOut}
    {p : BitVec 3} {reads : List RegId} {b : Bool} {t : Tag} {flags : BitVec 5} (h : s.Go g) (hl : legal = true)
    (hs : sem s.ctx = predOut lat p.toNat reads b t flags) :
    Issues s (.plain slot legal g sem) lat (toPred p b t ++ if flags = 0 then [] else raises flags) := by
  have := plain_issues (slot := slot) (sem := sem) (rs := [⟨lat, .p p.toNat, .bit b t⟩] ++ (if flags = 0 then [] else [⟨lat, .fpf, .flags flags⟩]))
    (lat := lat) h hl (by rw [hs]; rfl) (by rw [hs]; rfl)
    (by intro r hr; split at hr <;> simp at hr <;> rcases hr with h | h <;> simp_all)
    (by split <;> simp [Sorted, Res.flagged])
  have e : ∀ x y : Writes, x = y → Issues s (.plain slot legal g sem) lat x → Issues s (.plain slot legal g sem) lat y :=
    fun _ _ e h => e ▸ h
  refine e _ _ ?_ this
  unfold toPred raises
  split <;> simp

theorem vectorOut_issues {s : State} {slot n lat : Nat} {legal : Bool} {g : BitVec 4} {sem : Ctx → SlotOut}
    {d : BitVec 5} {reads : List RegId} {x : Vec} {t : VTags} {en : Mask} {flags : BitVec 5} (h : s.Go g) (hl : legal = true)
    (hs : sem s.ctx = vectorOut n lat d reads x t en flags) :
    Issues s (.plain slot legal g sem) lat (toVector n d x t en ++ if flags = 0 then [] else raises flags) := by
  have := plain_issues (slot := slot) (sem := sem) (rs := (dstV d).map (fun r => ⟨lat, r, .vec x t en⟩) ++
      [⟨lat, .vPort n, .vec x t en⟩] ++ (if flags = 0 then [] else [⟨lat, .fpf, .flags flags⟩]))
    (lat := lat) h hl (by rw [hs]; rfl) (by rw [hs]; rfl)
    (by intro r hr; unfold dstV at hr; split at hr <;> split at hr <;> simp at hr <;> rcases hr with h | h | h <;> simp_all)
    (by unfold dstV; split <;> split <;> simp [Sorted, Res.flagged])
  have e : ∀ x y : Writes, x = y → Issues s (.plain slot legal g sem) lat x → Issues s (.plain slot legal g sem) lat y :=
    fun _ _ e h => e ▸ h
  refine e _ _ ?_ this
  unfold toVector raises
  split <;> simp [Function.comp_def]

theorem maskOut_issues {s : State} {slot lat : Nat} {legal : Bool} {g : BitVec 4} {sem : Ctx → SlotOut}
    {m : BitVec 3} {reads : List RegId} {x : Mask} {t : MTags} {en : Mask} {flags : BitVec 5} (h : s.Go g) (hl : legal = true)
    (hs : sem s.ctx = maskOut lat m.toNat reads x t en flags) :
    Issues s (.plain slot legal g sem) lat (toMask m x t en ++ if flags = 0 then [] else raises flags) := by
  have := plain_issues (slot := slot) (sem := sem) (rs := [⟨lat, .m m.toNat, .mask x t en⟩] ++ (if flags = 0 then [] else [⟨lat, .fpf, .flags flags⟩]))
    (lat := lat) h hl (by rw [hs]; rfl) (by rw [hs]; rfl)
    (by intro r hr; split at hr <;> simp at hr <;> rcases hr with h | h <;> simp_all)
    (by split <;> simp [Sorted, Res.flagged])
  have e : ∀ x y : Writes, x = y → Issues s (.plain slot legal g sem) lat x → Issues s (.plain slot legal g sem) lat y :=
    fun _ _ e h => e ▸ h
  refine e _ _ ?_ this
  unfold toMask raises
  split <;> simp

theorem kOut_issues {s : State} {slot lat : Nat} {legal : Bool} {g : BitVec 4} {sem : Ctx → SlotOut}
    {d : Nat} {reads : List RegId} {v : SReg} (h : s.Go g) (hl : legal = true)
    (hs : sem s.ctx = kOut lat d reads v) :
    Issues s (.plain slot legal g sem) lat [(.s (48 + d), .word v.val v.tag)] :=
  plain_issues (sem := sem) (rs := [⟨lat, .s (48 + d), .word v.val v.tag⟩]) h hl (by rw [hs]; rfl) (by rw [hs]; rfl) (by simp)
    (by simp [Sorted])

/-! ### From the shape to the instruction -/

theorem gives_of_issues {s : State} {i : Instr} {op : SlotOp} {lat : Nat} {l : Writes}
    (he : exec i s = issueLone op true false s) (h : Issues s op lat l) : Gives s i lat l := by
  unfold Gives; rw [he]; exact h

theorem gives_scalar {s : State} {i : Instr} {slot n lat : Nat} {legal : Bool} {g : BitVec 4} {sem : Ctx → SlotOut}
    {d : BitVec 6} {reads : List RegId} {v : SReg} {f : BitVec 5} {l : Writes} (h : s.Go g) (hl : legal = true)
    (he : exec i s = issueLone (.plain slot legal g sem) true false s) (hs : sem s.ctx = scalarOut n lat d reads v f)
    (hv : toScalar n d v ++ (if f = 0 then [] else raises f) = l) : Gives s i lat l :=
  hv ▸ gives_of_issues he (scalarOut_issues h hl hs)

theorem gives_pred {s : State} {i : Instr} {slot lat : Nat} {legal : Bool} {g : BitVec 4} {sem : Ctx → SlotOut}
    {p : BitVec 3} {reads : List RegId} {b : Bool} {t : Tag} {f : BitVec 5} {l : Writes} (h : s.Go g) (hl : legal = true)
    (he : exec i s = issueLone (.plain slot legal g sem) true false s) (hs : sem s.ctx = predOut lat p.toNat reads b t f)
    (hv : toPred p b t ++ (if f = 0 then [] else raises f) = l) : Gives s i lat l :=
  hv ▸ gives_of_issues he (predOut_issues h hl hs)

theorem gives_vector {s : State} {i : Instr} {slot n lat : Nat} {legal : Bool} {g : BitVec 4} {sem : Ctx → SlotOut}
    {d : BitVec 5} {reads : List RegId} {x : Vec} {t : VTags} {en : Mask} {f : BitVec 5} {l : Writes} (h : s.Go g)
    (hl : legal = true) (he : exec i s = issueLone (.plain slot legal g sem) true false s)
    (hs : sem s.ctx = vectorOut n lat d reads x t en f)
    (hv : toVector n d x t en ++ (if f = 0 then [] else raises f) = l) : Gives s i lat l :=
  hv ▸ gives_of_issues he (vectorOut_issues h hl hs)

theorem gives_mask {s : State} {i : Instr} {slot lat : Nat} {legal : Bool} {g : BitVec 4} {sem : Ctx → SlotOut}
    {m : BitVec 3} {reads : List RegId} {x : Mask} {t : MTags} {en : Mask} {f : BitVec 5} {l : Writes} (h : s.Go g)
    (hl : legal = true) (he : exec i s = issueLone (.plain slot legal g sem) true false s)
    (hs : sem s.ctx = maskOut lat m.toNat reads x t en f)
    (hv : toMask m x t en ++ (if f = 0 then [] else raises f) = l) : Gives s i lat l :=
  hv ▸ gives_of_issues he (maskOut_issues h hl hs)

/-- Register results of one latency, with the load noted for the bivouac (R70). -/
theorem gives_noted {s : State} {i : Instr} {slot lat : Nat} {legal : Bool} {g : BitVec 4} {sem : Ctx → SlotOut}
    {rs : List Res} {n : Option (Nat × Nat)} {l : Writes} (h : s.Go g) (hl : legal = true)
    (he : exec i s = issueLone (.plain slot legal g sem) true false s)
    (hr : (sem s.ctx).res = .ok rs (fun u => u.noteLoad s.focus n) .seq) (hx : (sem s.ctx).indexed = false)
    (hlat : ∀ r ∈ rs, r.lat = lat) (hsort : Sorted rs) (hv : rs.map (fun r => (r.dst, r.val)) = l) : Gives s i lat l := by
  subst hv
  exact gives_of_issues he (issueLone_gives (op := .plain slot legal g sem) h.1 h.2 (fits_plain hl rfl rfl) rfl hr (fun _ _ => rfl)
    (fun k => ⟨n, rfl⟩) hx hlat hsort)

/-- An instruction whose slot traps. -/
theorem traps_of {s : State} {i : Instr} {slot code : Nat} {tra : Word} {legal : Bool} {g : BitVec 4} {sem : Ctx → SlotOut}
    (h : s.Go g) (hl : legal = true) (h8 : slot < 8)
    (he : exec i s = issueLone (.plain slot legal g sem) true false s) (hs : (sem s.ctx).res = .trap code tra) :
    Traps s i slot code tra := by
  unfold Traps; rw [he]
  exact issueLone_trap (op := .plain slot legal g sem) (stop := true) (qui := false) h.1 h.2
    (fits_plain hl rfl rfl) rfl (by simp) (by simp) h8 hs

end Sys2Proof.Machine
end

