-- ==== Sys2Proof/Laws/Effects.lean ====
section
/-!
SUPPORT. A lone operation that acts on the module outside its core: stores, and every other effect that a core
sees only through its registers, control registers and regions.
-/
namespace Sys2Proof.Machine

/-- Two forms of a core that differ in bookkeeping only. -/
def Core.alike (k r : Core) : Prop := k.frame r = r ∧ k.regs = r.regs ∧ k.ctl = r.ctl

theorem alike_regions {k r : Core} (h : k.alike r) : k.regions = r.regions :=
  (congrArg Core.regions h.1 : (k.frame r).regions = r.regions)
theorem alike_governs {k r : Core} (h : k.alike r) (kid : Word) (a : Nat) : k.governs kid a = r.governs kid a := by
  unfold Core.governs; rw [alike_regions h]

theorem padKey_setCore {s : State} {k : Core} (h : k.alike (s.core c)) (hc : c < 256) (kid : Word) (a : Nat) :
    (s.setCore c k).padKey c kid a = s.padKey c kid a := by
  unfold State.padKey
  rw [core_setCore_same _ _ _ hc, alike_governs h]

/-- An effect that a core's bookkeeping has no part in. -/
def Outside (s : State) (f : State → State) : Prop :=
  ∀ k : Core, k.alike s.me → f (s.setCore s.focus k) = (f s).setCore s.focus k

theorem noteReads_alike (k : Core) (l : List RegId) :
    (l.foldl Core.noteRead k).alike k := ⟨(noteReads_frame l k k).trans rfl, (noteReads_same l k).1, (noteReads_same l k).2.1⟩

theorem alike_trans {k l m : Core} (h : k.alike l) (g : l.alike m) : k.alike m := by
  obtain ⟨a, b, c⟩ := h
  obtain ⟨a', b', c'⟩ := g
  refine ⟨?_, b.trans b', c.trans c'⟩
  have e : k.frame m = (k.frame l).frame m := rfl
  rw [e, a, a']

/-- A plain operation with register results and an effect outside the core. -/
theorem issueLone_outside {s : State} {op : SlotOp} {rs : List Res} {lat : Nat} {f : State → State}
    (h : s.Ready) (hg : s.me.Guarded op.guard) (hl : Fits s op false) (hn : op.isNop = false)
    (hr : (op.sem s.ctx).res = .ok rs f .seq) (hf : Outside s f) (hfc : (f s).focus = s.focus)
    (hx : s.Indexed (op.sem s.ctx)) (hlat : ∀ r ∈ rs, r.lat = lat) (hsort : Sorted rs) :
    ∃ K, issueLone op true false s = .next ((f s).setCore s.focus K) ∧
      Lands s ((f s).setCore s.focus K) lat (rs.map (fun r => (r.dst, r.val))) ∧
      Onward s ((f s).setCore s.focus K) := by
  have hc := h.inRange
  have ht : s.turn s.focus .seq = ⟨s.nextPlace s.focus s.me.seq.fetch.pos, none, none⟩ := by
    have h1 := h.straight; have h2 := ready_visits h .seq
    simp only [State.me] at h1 h2
    simp [State.turn, h1, h2, State.me]
  have hv := ready_visits h .seq
  have hcm := issueLone_commit (stop := true) (qui := false) h hg hl hn (by simp) hr
    hx (.inr rfl) (by simp) rfl (by simp)
  have hslot : (s.setCore s.focus (s.me.count false)).commitSlots s.focus [s.sight op] =
      (f s).setCore s.focus (slotted op (op.sem s.ctx) rs id (s.me.count false)) := by
    rw [commitSlots_one]
    simp only [State.commitSlot, State.sight, hr, core_setCore_same _ _ _ hc]
    rw [updCore_updCore _ _ _ _ hc, updCore_eq (s.setCore s.focus (s.me.count false)), core_setCore_same _ _ _ hc, setCore_setCore, hf]
    · rw [updCore_eq, core_setCore_same _ _ _ hc, setCore_setCore]
      rfl
    · exact alike_trans (noteReads_alike _ _)
        (alike_trans (noteReads_alike _ _) ⟨rfl, rfl, rfl⟩)
  let K := (sentCore s op true (op.sem s.ctx) rs id ⟨s.nextPlace s.focus s.me.seq.fetch.pos, none, none⟩).landDue (s.here + 1)
  have hme : ((f s).setCore s.focus K).me = (s.setCore s.focus K).me := by
    simp only [State.me, setCore_focus, hfc]
    rw [core_setCore_same _ _ _ hc, core_setCore_same _ _ _ hc]
  have hL := lands_of_issued hc (issued_sentCore (op := op) (stop := true) (o := op.sem s.ctx) (rs := rs)
    (t := ⟨s.nextPlace s.focus s.me.seq.fetch.pos, none, none⟩) notesLoad_id h hlat hsort)
  refine ⟨K, ?_, ?_, ?_⟩
  · rw [hcm, ht]
    unfold State.commitOn
    simp only [show (s.core s.focus).visits .seq = [] from hv, counted_unheld h]
    rw [hslot]
    simp only [State.finishOn, State.finish, State.lone, Flow.suspends, Bool.or_false]
    rw [updCore_eq, setCore_setCore, core_setCore_same _ _ _ hc]
    simp only [Bool.false_eq_true, not_false_eq_true, if_true]
    have := (slotted_same (op := op) (o := op.sem s.ctx) (rs := rs) notesLoad_id (s.me.count false)).2.2.2.1
    rw [advance_fence]
    rw [this]
    rfl
  · exact ⟨hme ▸ hL.position, hme ▸ hL.counted, hme ▸ hL.before, hme ▸ hL.after, hme ▸ hL.landed, hme ▸ hL.rest⟩
  · have hme2 : ((f s).setCore s.focus K).me = K := by
      rw [hme]; simp [State.me, core_setCore_same _ _ _ hc]
    unfold Onward
    rw [hme2]
    have p2 : ∀ (q : List Pend) (k : Core), (q.foldl Core.land k).seq.fetch = k.seq.fetch ∧
        (q.foldl Core.land k).seq.br = k.seq.br := by
      intro q
      induction q with
      | nil => intro k; exact ⟨rfl, rfl⟩
      | cons p t ih =>
        intro k
        rw [List.foldl_cons]
        obtain ⟨i1, i2⟩ := ih (k.land p)
        rw [i1, i2]
        unfold Core.land Core.noteWrite Seq.noteWrite Core.putReg
        constructor <;> (repeat' (first | rfl | split))
    show (Core.landDue _ _).seq.fetch = _ ∧ _
    unfold Core.landDue
    exact p2 _ _

/-! ### Effects on memory alone -/

/-- An effect that changes bytes and soundness only, and reads the core in focus only as the rest of the step does. -/
structure OnMemory (s : State) (f : State → State) : Prop where
  outside : Outside s f
  elsewhere : { f s with mem := s.mem, bad := s.bad } = s

theorem onMemory_cores {s : State} {f : State → State} (h : OnMemory s f) : (f s).cores = s.cores :=
  (congrArg State.cores h.elsewhere : ({ f s with mem := s.mem, bad := s.bad } : State).cores = s.cores)
theorem onMemory_focus {s : State} {f : State → State} (h : OnMemory s f) : (f s).focus = s.focus :=
  (congrArg State.focus h.elsewhere : ({ f s with mem := s.mem, bad := s.bad } : State).focus = s.focus)

theorem stores_setCore {s : State} {f : State → State} (h : OnMemory s f) {n : Nat} {act : Nat → Bool} {key : Nat → Nat}
    {b : Nat → Byte} (K : Core)
    (stored : ∀ j, j < n → act j = true → (f s).byte (key j) = b j)
    (kept : ∀ a, (∀ j, j < n → act j = true → a ≠ key j) → (f s).byte a = s.byte a)
    (sound : ∀ w, w ∈ (f s).bad → w ∈ s.bad) : Stores s ((f s).setCore s.focus K) n act key b where
  focus := onMemory_focus h
  stored := stored
  kept := kept
  sound := sound
  others d hd := by
    rw [core_setCore_other _ _ _ _ hd]
    unfold State.core
    rw [onMemory_cores h]
  elsewhere := by
    have h1 := h.elsewhere
    have h2 := onMemory_cores h
    have : ({ (f s).setCore s.focus K with cores := s.cores, mem := s.mem, bad := s.bad } : State) =
        { ({ f s with mem := s.mem, bad := s.bad } : State) with cores := s.cores } := rfl
    rw [this, h1]

theorem pokes_setCore (s : State) (c : Nat) (k : Core) (a : Nat) (l : List Byte) :
    (s.setCore c k).pokes a l = (s.pokes a l).setCore c k := by
  induction l generalizing s a with
  | nil => rfl
  | cons b t ih => exact ih (s.poke a b) (a + 1)
theorem heals_setCore (s : State) (c : Nat) (k : Core) (l : List Nat) (g : Nat → Nat) :
    l.foldl (fun s i => s.heal (g i)) (s.setCore c k) = (l.foldl (fun s i => s.heal (g i)) s).setCore c k := by
  induction l generalizing s with
  | nil => rfl
  | cons b t ih => exact ih (s.heal (g b))
theorem write_setCore (s : State) (c : Nat) (k : Core) (a : Nat) (l : List Byte) :
    (s.setCore c k).write a l = (s.write a l).setCore c k := by
  unfold State.write
  rw [pokes_setCore]
  exact heals_setCore _ _ _ _ (fun i => ((a + 15) / 16 + i) * 16)

theorem pokes_elsewhere (s : State) (a : Nat) (l : List Byte) : { s.pokes a l with mem := s.mem } = s := by
  induction l generalizing s a with
  | nil => rfl
  | cons b t ih =>
    have := ih (s.poke a b) (a + 1)
    simp only [State.pokes]
    have e : ({ (s.poke a b).pokes (a + 1) t with mem := s.mem } : State) =
      { ({ (s.poke a b).pokes (a + 1) t with mem := (s.poke a b).mem } : State) with mem := s.mem } := rfl
    rw [e, this]
    rfl
theorem heals_elsewhere (s : State) (l : List Nat) (g : Nat → Nat) :
    { l.foldl (fun s i => s.heal (g i)) s with bad := s.bad } = s := by
  induction l generalizing s with
  | nil => rfl
  | cons b t ih =>
    have := ih (s.heal (g b))
    rw [List.foldl_cons]
    have e : ({ t.foldl (fun s i => s.heal (g i)) (s.heal (g b)) with bad := s.bad } : State) =
      { ({ t.foldl (fun s i => s.heal (g i)) (s.heal (g b)) with bad := (s.heal (g b)).bad } : State) with bad := s.bad } := rfl
    rw [e, this]
    rfl
theorem heals_bad (s : State) (l : List Nat) (g : Nat → Nat) (w : Nat) (h : w ∈ (l.foldl (fun s i => s.heal (g i)) s).bad) :
    w ∈ s.bad := by
  induction l generalizing s with
  | nil => exact h
  | cons b t ih => exact (List.mem_filter.mp (ih _ h)).1

theorem write_elsewhere (s : State) (a : Nat) (l : List Byte) : { s.write a l with mem := s.mem, bad := s.bad } = s := by
  unfold State.write
  have h1 := pokes_elsewhere s a l
  have h2 := heals_elsewhere (s.pokes a l) (List.range ((a + l.length) / 16 - (a + 15) / 16)) (fun i => ((a + 15) / 16 + i) * 16)
  have hb : (s.pokes a l).bad = s.bad := (congrArg State.bad h1 : ({ s.pokes a l with mem := s.mem } : State).bad = s.bad)
  rw [hb] at h2
  have h3 := congrArg (fun u : State => ({ u with mem := s.mem } : State)) h2
  exact h3.trans h1
theorem write_bad (s : State) (a : Nat) (l : List Byte) (w : Nat) (h : w ∈ (s.write a l).bad) : w ∈ s.bad := by
  have := heals_bad (s.pokes a l) (List.range ((a + l.length) / 16 - (a + 15) / 16)) (fun i => ((a + 15) / 16 + i) * 16) w h
  have hb : (s.pokes a l).bad = s.bad := (congrArg State.bad (pokes_elsewhere s a l) : ({ s.pokes a l with mem := s.mem } : State).bad = s.bad)
  rwa [hb] at this

theorem padWrite_onMemory {s : State} (hc : s.focus < 256) (kid : Word) (a : Nat) (l : List Byte) :
    OnMemory s (fun u => u.padWrite s.focus kid a l) where
  outside k hk := by
    show (s.setCore s.focus k).write ((s.setCore s.focus k).padKey s.focus kid a) l = _
    rw [padKey_setCore hk hc, write_setCore]
    rfl
  elsewhere := write_elsewhere _ _ _

end Sys2Proof.Machine
end

