-- ==== Sys2Proof/Laws/Lanes.lean ====
section
/-!
SUPPORT. Elements, lane tags, masks and mask tags: what is packed is what is read.
-/
namespace Sys2Proof.Machine

/-- The number with digits f a, f (a + 1), … in base B. -/
def digits (B : Nat) (f : Nat → Nat) : Nat → Nat → Nat
  | _, 0 => 0
  | a, n + 1 => f a + B * digits B f (a + 1) n

theorem foldr_digits (B : Nat) (f : Nat → Nat) (n a : Nat) :
    (List.range' a n).foldr (fun i acc => f i + B * acc) 0 = digits B f a n := by
  induction n generalizing a with
  | zero => rfl
  | succ n ih => simp only [List.range'_succ, List.foldr_cons, ih, digits]

theorem range_digits (B : Nat) (f : Nat → Nat) (n : Nat) :
    (List.range n).foldr (fun i acc => f i + B * acc) 0 = digits B f 0 n := by
  rw [List.range_eq_range', foldr_digits]

theorem digits_lt {B : Nat} {f : Nat → Nat} (hf : ∀ i, f i < B) (n a : Nat) : digits B f a n < B ^ n := by
  induction n generalizing a with
  | zero => simp [digits]
  | succ n ih =>
    have h1 := ih (a + 1)
    have h2 := hf a
    simp only [digits, Nat.pow_succ]
    calc f a + B * digits B f (a + 1) n < B + B * digits B f (a + 1) n := by omega
      _ = B * (digits B f (a + 1) n + 1) := by rw [Nat.mul_add, Nat.mul_one, Nat.add_comm]
      _ ≤ B * B ^ n := Nat.mul_le_mul_left _ h1
      _ = B ^ n * B := Nat.mul_comm _ _

theorem digits_get {B : Nat} {f : Nat → Nat} (hf : ∀ i, f i < B) (n a i : Nat) (hi : i < n) :
    digits B f a n / B ^ i % B = f (a + i) := by
  induction n generalizing a i with
  | zero => omega
  | succ n ih =>
    have hB : 0 < B := Nat.lt_of_le_of_lt (Nat.zero_le _) (hf 0)
    cases i with
    | zero => simp [digits, Nat.add_mul_mod_self_left, Nat.mod_eq_of_lt (hf a)]
    | succ i =>
      simp only [digits, Nat.pow_succ]
      rw [Nat.mul_comm (B ^ i) B, ← Nat.div_div_eq_div_mul, Nat.add_mul_div_left _ _ hB,
        Nat.div_eq_of_lt (hf a), Nat.zero_add, ih _ _ (by omega)]
      congr 1; omega

theorem extract_digits {w n : Nat} {f : Nat → Nat} (hf : ∀ i, f i < 2 ^ w) (i : Nat) (hi : i < n) :
    ((BitVec.ofNat (w * n) (digits (2 ^ w) f 0 n)).extractLsb' (i * w) w).toNat = f i := by
  have h1 : digits (2 ^ w) f 0 n < 2 ^ (w * n) := by rw [Nat.pow_mul]; exact digits_lt hf n 0
  rw [BitVec.extractLsb'_toNat, BitVec.toNat_ofNat, Nat.mod_eq_of_lt h1, Nat.shiftRight_eq_div_pow,
    Nat.mul_comm i w, Nat.pow_mul, digits_get hf n 0 i hi, Nat.zero_add]

/-- Element i of a packed vector (R248). -/
theorem elem_packElems {W n : Nat} (h : 8 * W * n = 2048) (f : Nat → Nat) (i : Nat) (hi : i < n) :
    elem W (packElems W n f) i = f i % 2 ^ (8 * W) := by
  have hd := extract_digits (w := 8 * W) (n := n) (f := fun i => f i % 2 ^ (8 * W))
    (fun i => Nat.mod_lt _ (Nat.two_pow_pos _)) i hi
  unfold elem packElems
  rw [range_digits (2 ^ (8 * W)) (fun i => f i % 2 ^ (8 * W)) n]
  rw [h] at hd
  exact hd

/-- Lane tag i of packed tags (R93). -/
theorem ltag_packTags (f : Nat → Tag) (i : Nat) (hi : i < 64) : ltag (packTags f) i = f i := by
  have hd := extract_digits (w := 2) (n := 64) (f := fun i => (f i).toNat) (fun i => (f i).isLt) i hi
  apply BitVec.eq_of_toNat_eq
  unfold ltag packTags
  have e := range_digits 4 (fun i => (f i).toNat) 64
  rw [e, Nat.mul_comm 2 i]
  exact hd

/-- The tag of mask bit i of packed tags (R93). -/
theorem mtag_packMTags (f : Nat → Tag) (i : Nat) (hi : i < 256) : mtag (packMTags f) i = f i := by
  have hd := extract_digits (w := 2) (n := 256) (f := fun i => (f i).toNat) (fun i => (f i).isLt) i hi
  apply BitVec.eq_of_toNat_eq
  unfold mtag packMTags
  have e := range_digits 4 (fun i => (f i).toNat) 256
  rw [e, Nat.mul_comm 2 i]
  exact hd

/-- Bit i of a packed mask (R84). -/
theorem bit_packMask (f : Nat → Bool) (i : Nat) (hi : i < 256) : (packMask f).getLsbD i = f i := by
  have hd := digits_get (B := 2) (f := fun i => (f i).toNat) (fun i => by cases f i <;> decide) 256 0 i hi
  unfold packMask
  have e := range_digits 2 (fun i => (f i).toNat) 256
  rw [e, BitVec.getLsbD_ofNat]
  simp only [hi, decide_true, Bool.true_and, Nat.testBit_eq_decide_div_mod_eq]
  rw [hd, Nat.zero_add]
  cases f i <;> rfl

/-- The byte lanes of the active elements (R249). -/
theorem bit_enOf (W : Nat) (act : Nat → Bool) (j : Nat) (hj : j < 256) : (enOf W act).getLsbD j = act (j / W) :=
  bit_packMask _ j hj

/-- Byte i of a byte mask widened to bits. -/
theorem lane_maskBits (en : Mask) (i : Nat) (hi : i < 256) :
    lane 8 (maskBits en) i = if en.getLsbD i then 255#8 else 0#8 := by
  have hd := extract_digits (w := 8) (n := 256) (f := fun i => if en.getLsbD i then 255 else 0)
    (fun i => by split <;> decide) i hi
  apply BitVec.eq_of_toNat_eq
  unfold lane maskBits
  have e := range_digits 256 (fun i => if en.getLsbD i then 255 else 0) 256
  rw [e]
  refine hd.trans ?_
  cases en.getLsbD i <;> rfl

/-- Byte i of the bytes of x under en and of y elsewhere (R217). -/
theorem lane_blend (x y : Vec) (en : Mask) (i : Nat) (hi : i < 256) :
    lane 8 ((x &&& maskBits en) ||| (y &&& ~~~maskBits en)) i = if en.getLsbD i then lane 8 x i else lane 8 y i := by
  have h := lane_maskBits en i hi
  have e : lane 8 ((x &&& maskBits en) ||| (y &&& ~~~maskBits en)) i =
      (lane 8 x i &&& lane 8 (maskBits en) i) ||| (lane 8 y i &&& ~~~lane 8 (maskBits en) i) := by
    apply BitVec.eq_of_getLsbD_eq
    intro j hj
    simp only [lane, BitVec.getLsbD_extractLsb', BitVec.getLsbD_or, BitVec.getLsbD_and, BitVec.getLsbD_not, hj,
      decide_true, Bool.true_and]
    have : i * 8 + j < 2048 := by omega
    simp [this]
  have ones (z : BitVec 8) : z &&& 255#8 = z := BitVec.and_allOnes
  rw [e, h]
  split <;> simp [ones]

end Sys2Proof.Machine
end

