-- ==== Sys2Proof/Laws/Elements.lean ====
section
/-!
SUPPORT. What each kind of element result gives (R248 to R250, R254, R157), and tag maxima.
-/
namespace Sys2Proof.Machine

/-! ### Maxima of tags -/

theorem Tag.max_toNat (a b : Tag) : (Tag.max a b).toNat = Nat.max a.toNat b.toNat := by
  unfold Tag.max
  split <;> rename_i h <;> simp only [BitVec.ult, decide_eq_true_eq] at h <;> simp only [Nat.max_def] <;> split <;> omega

theorem Tag.max_assoc (a b c : Tag) : Tag.max (Tag.max a b) c = Tag.max a (Tag.max b c) := by
  apply BitVec.eq_of_toNat_eq; simp only [Tag.max_toNat, Nat.max_def]; repeat' split
  all_goals omega

theorem Tag.max_comm (a b : Tag) : Tag.max a b = Tag.max b a := by
  apply BitVec.eq_of_toNat_eq; simp only [Tag.max_toNat, Nat.max_def]; repeat' split
  all_goals omega

@[simp] theorem Tag.max_zero (a : Tag) : Tag.max a 0#2 = a := by
  apply BitVec.eq_of_toNat_eq; simp [Tag.max_toNat]

@[simp] theorem Tag.zero_max (a : Tag) : Tag.max 0#2 a = a := by rw [Tag.max_comm, Tag.max_zero]

@[simp] theorem Tag.max_self (a : Tag) : Tag.max a a = a := by
  apply BitVec.eq_of_toNat_eq; simp [Tag.max_toNat]

theorem foldl_max (l : List Tag) (a : Tag) : l.foldl Tag.max a = Tag.max a (l.foldl Tag.max 0#2) := by
  induction l generalizing a with
  | nil => exact (Tag.max_zero a).symm
  | cons b l ih => rw [List.foldl_cons, List.foldl_cons, ih, ih (Tag.max 0#2 b), Tag.zero_max, Tag.max_assoc]

@[simp] theorem maxTag_nil : maxTag [] = 0#2 := rfl

@[simp] theorem maxTag_cons (a : Tag) (l : List Tag) : maxTag (a :: l) = Tag.max a (maxTag l) := by
  show l.foldl Tag.max (Tag.max 0#2 a) = _
  rw [Tag.zero_max]; exact foldl_max l a

theorem maxTag_append (l m : List Tag) : maxTag (l ++ m) = Tag.max (maxTag l) (maxTag m) := by
  induction l with
  | nil => simp
  | cons a l ih => simp [ih, Tag.max_assoc]

theorem le_maxTag {a : Tag} {l : List Tag} (h : a ∈ l) : Tag.max (maxTag l) a = maxTag l := by
  induction l with
  | nil => cases h
  | cons b l ih =>
    rcases List.mem_cons.mp h with h | h
    · subst h; rw [maxTag_cons, Tag.max_comm, ← Tag.max_assoc, Tag.max_self]
    · rw [maxTag_cons, Tag.max_assoc, ih h]

/-! ### Elements -/

theorem lane_eq {W : Nat} {v : Vec} {e : Nat} {b : BitVec (8 * W)} (h : elem W v e = b.toNat) : lane (8 * W) v e = b :=
  BitVec.eq_of_toNat_eq h

theorem elem_eq_lane (W : Nat) (v : Vec) (e : Nat) : elem W v e = (lane (8 * W) v e).toNat := rfl

/-- An element size (R248). -/
def IsWidth (W : Nat) : Prop := W = 1 ∨ W = 2 ∨ W = 4

theorem isWidth_widthOf {x : BitVec 3} (h : x.toNat < 3) : IsWidth (2 ^ x.toNat) := by
  have : x.toNat = 0 ∨ x.toNat = 1 ∨ x.toNat = 2 := by omega
  rcases this with h | h | h <;> simp [IsWidth, h]

theorem IsWidth.row {W : Nat} (h : IsWidth W) : 8 * W * (256 / W) = 2048 := by
  rcases h with rfl | rfl | rfl <;> rfl

theorem IsWidth.lane {W l e : Nat} (h : IsWidth W) (hl : l < 64) (he : e < 4 / W) : l * (4 / W) + e < 256 / W := by
  rcases h with rfl | rfl | rfl <;> simp at he ⊢ <;> omega

theorem laneJoin_congr {W : Nat} {act : Nat → Bool} {t t' : Nat → Tag} (hW : IsWidth W)
    (h : ∀ e, e < 256 / W → act e = true → t e = t' e) (l : Nat) (hl : l < 64) : laneJoin W act t l = laneJoin W act t' l := by
  unfold laneJoin
  congr 1
  apply List.map_congr_left
  intro e he
  have := hW.lane hl (List.mem_range.mp he)
  split
  · exact h _ this ‹_›
  · rfl

theorem elements_of {W : Nat} (hW : IsWidth W) {act : Nat → Bool} {F : Nat → Nat} {T : Nat → Tag}
    {f : Nat → BitVec (8 * W)} {t : Nat → Tag} {en : Mask} (hen : ∀ j, j < 256 → en.getLsbD j = act (j / W))
    (hf : ∀ e, e < 256 / W → act e = true → F e % 2 ^ (8 * W) = (f e).toNat)
    (ht : ∀ e, e < 256 / W → act e = true → T e = t e) :
    Elements W act f t (packElems W (256 / W) F) (laneTags W act T) en where
  enabled := hen
  value e he ha := lane_eq (by rw [elem_packElems hW.row F e he, hf e he ha])
  joined l hl := by
    rw [← laneJoin_congr hW ht l hl]
    exact ltag_packTags _ l hl

/-- A result under a write mask (R249). -/
theorem writeMasked_gives {s : State} {i : Instr} {slot lat W : Nat} {u : VUnit} {legal : Bool} {g : BitVec 4}
    {sem : Ctx → SlotOut} {d : BitVec 5} {reads : List RegId} {N : MReg} {F : Nat → Nat} {T : Nat → Tag}
    {f : Nat → BitVec (8 * W)} {t : Nat → Tag} (h : s.Go g) (hl : legal = true)
    (he : exec i s = issueLone (.plain slot legal g sem) true false s) (hW : IsWidth W)
    (hs : sem s.ctx = writeMasked u lat d reads W N F T)
    (hf : ∀ e, e < 256 / W → actW W N e = true → F e % 2 ^ (8 * W) = (f e).toNat)
    (ht : ∀ e, e < 256 / W → actW W N e = true → Tag.max (T e) (mtag N.tags (e * W)) = t e) :
    GivesVector s i lat (vunitPort u) d W (actW W N) f t [] :=
  ⟨_, _, _, gives_vector h hl he hs rfl, elements_of hW (fun j hj => bit_enOf W _ j hj) hf ht⟩

/-- A result that takes its mask as a selector (R249). -/
theorem writeAll_gives {s : State} {i : Instr} {slot lat W : Nat} {u : VUnit} {legal : Bool} {g : BitVec 4}
    {sem : Ctx → SlotOut} {d : BitVec 5} {reads : List RegId} {gov : Tag} {F : Nat → Nat} {T : Nat → Tag}
    {f : Nat → BitVec (8 * W)} {t : Nat → Tag} (h : s.Go g) (hl : legal = true)
    (he : exec i s = issueLone (.plain slot legal g sem) true false s) (hW : IsWidth W)
    (hs : sem s.ctx = writeAll u lat d reads W F T gov)
    (hf : ∀ e, e < 256 / W → F e % 2 ^ (8 * W) = (f e).toNat)
    (ht : ∀ e, e < 256 / W → Tag.max (T e) gov = t e) :
    GivesVector s i lat (vunitPort u) d W (fun _ => true) f t [] :=
  ⟨_, _, _, gives_vector h hl he hs rfl, elements_of hW (fun _ hj => BitVec.getLsbD_allOnes.trans (decide_eq_true hj))
    (fun e he _ => hf e he) (fun e he _ => ht e he)⟩

/-- A compare's mask result (R254). -/
theorem cmpMask_gives {s : State} {i : Instr} {slot lat W : Nat} {legal : Bool} {g : BitVec 4}
    {sem : Ctx → SlotOut} {d : BitVec 3} {reads : List RegId} {N : MReg} {F : Nat → Bool} {T : Nat → Tag}
    {fl : BitVec 5} {f : Nat → Bool} {t : Nat → Tag} (h : s.Go g) (hl : legal = true)
    (he : exec i s = issueLone (.plain slot legal g sem) true false s) (hW : IsWidth W)
    (hs : sem s.ctx = cmpMask lat W d reads N F T fl)
    (hf : ∀ e, e < 256 / W → F e = f e)
    (ht : ∀ e, e < 256 / W → Tag.max (T e) (mtag N.tags (e * W)) = t e) :
    GivesMask s i lat d W (actW W N) f t (if fl = 0 then [] else raises fl) := by
  refine ⟨_, _, _, gives_mask h hl he hs rfl, fun j hj => ⟨bit_enOf W _ j hj, fun _ => ⟨?_, ?_⟩⟩⟩
  all_goals have hj2 : j / W < 256 / W := by rcases hW with rfl | rfl | rfl <;> omega
  · rw [bit_packMask _ j hj]; exact hf _ hj2
  · rw [mtag_packMTags _ j hj]; exact ht _ hj2

/-! ### Flags -/

theorem getLsbD_foldl_or {α : Type} (l : List α) (c : α → Bool) (r : α → BitVec 5) (a : BitVec 5) (b : Nat) :
    (l.foldl (fun (acc : BitVec 5) e => if c e then acc ||| r e else acc) a).getLsbD b = true ↔
      a.getLsbD b = true ∨ ∃ e ∈ l, c e = true ∧ (r e).getLsbD b = true := by
  induction l generalizing a with
  | nil => simp
  | cons x l ih =>
    rw [List.foldl_cons, ih]
    by_cases hx : c x = true
    · rw [if_pos hx, BitVec.getLsbD_or, Bool.or_eq_true, or_assoc]
      simp [hx]
    · rw [if_neg hx]
      simp [hx]

theorem IsWidth.lane_of {W e : Nat} (h : IsWidth W) (he : e < 256 / W) : e * W / 4 < 64 := by
  rcases h with rfl | rfl | rfl <;> omega

/-- A floating-point result (R157). -/
theorem fpMasked_gives {s : State} {i : Instr} {slot lat W : Nat} {u : VUnit} {legal : Bool} {g : BitVec 4}
    {sem : Ctx → SlotOut} {d : BitVec 5} {reads : List RegId} {N : MReg} {F f : Nat → FRes} {T t : Nat → Tag}
    (h : s.Go g) (hl : legal = true)
    (he : exec i s = issueLone (.plain slot legal g sem) true false s) (hW : IsWidth W)
    (hs : sem s.ctx = fpMasked u lat d reads W N F T)
    (hf : ∀ e, e < 256 / W → actW W N e = true → F e = f e)
    (ht : ∀ e, e < 256 / W → actW W N e = true → Tag.max (T e) (mtag N.tags (e * W)) = t e) :
    GivesFloat s i lat (vunitPort u) d W (actW W N) f t := by
  refine ⟨_, ?_, _, _, _, gives_vector h hl he hs rfl, elements_of hW (fun j hj => bit_enOf W _ j hj)
    (fun e he ha => by rw [hf e he ha, BitVec.toNat_ofNat]) ht⟩
  intro b
  rw [getLsbD_foldl_or]
  have h0 : ((0 : BitVec 5).getLsbD b = true) = False := by simp
  simp only [h0, false_or, List.mem_range, Bool.and_eq_true, beq_iff_eq]
  have hj : ∀ e, e < 256 / W → elemTag W (laneTags W (actW W N) (fun i => Tag.max (T i) (mtag N.tags (i * W)))) e =
      laneJoin W (actW W N) t (e * W / 4) := fun e he => by
    rw [← laneJoin_congr hW ht _ (hW.lane_of he)]
    exact ltag_packTags _ _ (hW.lane_of he)
  constructor
  · rintro ⟨e, he, ⟨ha, hz⟩, hb⟩
    exact ⟨e, he, ha, by rw [← hj e he]; exact hz, by rw [← hf e he ha]; exact hb⟩
  · rintro ⟨e, he, ha, hz, hb⟩
    exact ⟨e, he, ⟨ha, by rw [hj e he]; exact hz⟩, by rw [hf e he ha]; exact hb⟩

end Sys2Proof.Machine
end

