-- ==== Sys2Proof/Laws/PerInstr.lean ====
section
/-!
SUPPORT. A law of each instruction as syntax (R75 to R77, R106 to R112): its encoding names one of the eight slots and a
word of 32 bits. A step row has no encoding.
-/
namespace Sys2Proof.Laws.F

/-- The encoding of i, if it has one, stands in a slot of the bundle and fits its word. -/
def Statement (i : Instr) : Prop := ∀ k w, encode i = some (k, w) → k < 8 ∧ w < 2 ^ 32

theorem bool_lt (b : Bool) : b.toNat < 2 := by cases b <;> decide
theorem scalar_slot (u : SUnit) : u.slot < 8 := by cases u <;> decide
theorem vector_slot (u : VUnit) : u.slot < 8 := by cases u <;> decide

theorem nopSlot0 (stop : Bool) (qui : Bool) (g : BitVec 4) : Statement (.nopSlot0 stop qui g) := by
  intro _ _ h
  cases h
  have h0 := bool_lt stop
  have h1 := bool_lt qui
  have h2 := g.isLt
  exact ⟨by decide, by unfold lay31_30_26; omega⟩

theorem br (stop : Bool) (qui : Bool) (g : BitVec 4) (o : BitVec 20) : Statement (.br stop qui g o) := by
  intro _ _ h
  cases h
  have h0 := bool_lt stop
  have h1 := bool_lt qui
  have h2 := g.isLt
  have h3 := o.isLt
  exact ⟨by decide, by unfold lay31_30_26_0; omega⟩

theorem callR (stop : Bool) (qui : Bool) (g : BitVec 4) (o : BitVec 20) : Statement (.callR stop qui g o) := by
  intro _ _ h
  cases h
  have h0 := bool_lt stop
  have h1 := bool_lt qui
  have h2 := g.isLt
  have h3 := o.isLt
  exact ⟨by decide, by unfold lay31_30_26_0; omega⟩

theorem jr (stop : Bool) (qui : Bool) (g : BitVec 4) (a : BitVec 6) : Statement (.jr stop qui g a) := by
  intro _ _ h
  cases h
  have h0 := bool_lt stop
  have h1 := bool_lt qui
  have h2 := g.isLt
  have h3 := a.isLt
  exact ⟨by decide, by unfold lay31_30_26_14; omega⟩

theorem ret (stop : Bool) (qui : Bool) (g : BitVec 4) : Statement (.ret stop qui g) := by
  intro _ _ h
  cases h
  have h0 := bool_lt stop
  have h1 := bool_lt qui
  have h2 := g.isLt
  exact ⟨by decide, by unfold lay31_30_26; omega⟩

theorem loopR (stop : Bool) (qui : Bool) (g : BitVec 4) (c : BitVec 1) (a : BitVec 6) (l : BitVec 13) : Statement (.loopR stop qui g c a l) := by
  intro _ _ h
  cases h
  have h0 := bool_lt stop
  have h1 := bool_lt qui
  have h2 := g.isLt
  have h3 := c.isLt
  have h4 := a.isLt
  have h5 := l.isLt
  exact ⟨by decide, by unfold lay31_30_26_19_13_0; omega⟩

theorem chk (stop : Bool) (qui : Bool) (g : BitVec 4) (a : BitVec 6) (o : BitVec 14) : Statement (.chk stop qui g a o) := by
  intro _ _ h
  cases h
  have h0 := bool_lt stop
  have h1 := bool_lt qui
  have h2 := g.isLt
  have h3 := a.isLt
  have h4 := o.isLt
  exact ⟨by decide, by unfold lay31_30_26_14_0; omega⟩

theorem chkv (stop : Bool) (qui : Bool) (g : BitVec 4) (v : BitVec 5) (o : BitVec 15) : Statement (.chkv stop qui g v o) := by
  intro _ _ h
  cases h
  have h0 := bool_lt stop
  have h1 := bool_lt qui
  have h2 := g.isLt
  have h3 := v.isLt
  have h4 := o.isLt
  exact ⟨by decide, by unfold lay31_30_26_15_0; omega⟩

theorem brvAll (stop : Bool) (qui : Bool) (g : BitVec 4) (m : BitVec 3) (o : BitVec 15) : Statement (.brvAll stop qui g m o) := by
  intro _ _ h
  cases h
  have h0 := bool_lt stop
  have h1 := bool_lt qui
  have h2 := g.isLt
  have h3 := m.isLt
  have h4 := o.isLt
  exact ⟨by decide, by unfold lay31_30_26_15_0; omega⟩

theorem brvNone (stop : Bool) (qui : Bool) (g : BitVec 4) (m : BitVec 3) (o : BitVec 15) : Statement (.brvNone stop qui g m o) := by
  intro _ _ h
  cases h
  have h0 := bool_lt stop
  have h1 := bool_lt qui
  have h2 := g.isLt
  have h3 := m.isLt
  have h4 := o.isLt
  exact ⟨by decide, by unfold lay31_30_26_15_0; omega⟩

theorem haltR (stop : Bool) (qui : Bool) (g : BitVec 4) : Statement (.haltR stop qui g) := by
  intro _ _ h
  cases h
  have h0 := bool_lt stop
  have h1 := bool_lt qui
  have h2 := g.isLt
  exact ⟨by decide, by unfold lay31_30_26; omega⟩

theorem park (stop : Bool) (qui : Bool) (g : BitVec 4) (a : BitVec 6) (b : BitVec 6) (t : BitVec 8) : Statement (.park stop qui g a b t) := by
  intro _ _ h
  cases h
  have h0 := bool_lt stop
  have h1 := bool_lt qui
  have h2 := g.isLt
  have h3 := a.isLt
  have h4 := b.isLt
  have h5 := t.isLt
  exact ⟨by decide, by unfold lay31_30_26_14_8_0; omega⟩

theorem yield (stop : Bool) (qui : Bool) (g : BitVec 4) : Statement (.yield stop qui g) := by
  intro _ _ h
  cases h
  have h0 := bool_lt stop
  have h1 := bool_lt qui
  have h2 := g.isLt
  exact ⟨by decide, by unfold lay31_30_26; omega⟩

theorem summit (stop : Bool) (qui : Bool) (g : BitVec 4) : Statement (.summit stop qui g) := by
  intro _ _ h
  cases h
  have h0 := bool_lt stop
  have h1 := bool_lt qui
  have h2 := g.isLt
  exact ⟨by decide, by unfold lay31_30_26; omega⟩

theorem barset (stop : Bool) (qui : Bool) (g : BitVec 4) (i : BitVec 7) (a : BitVec 6) : Statement (.barset stop qui g i a) := by
  intro _ _ h
  cases h
  have h0 := bool_lt stop
  have h1 := bool_lt qui
  have h2 := g.isLt
  have h3 := i.isLt
  have h4 := a.isLt
  exact ⟨by decide, by unfold lay31_30_26_13_7; omega⟩

theorem bararr (stop : Bool) (qui : Bool) (g : BitVec 4) (i : BitVec 7) : Statement (.bararr stop qui g i) := by
  intro _ _ h
  cases h
  have h0 := bool_lt stop
  have h1 := bool_lt qui
  have h2 := g.isLt
  have h3 := i.isLt
  exact ⟨by decide, by unfold lay31_30_26_13; omega⟩

theorem barwait (stop : Bool) (qui : Bool) (g : BitVec 4) (i : BitVec 7) : Statement (.barwait stop qui g i) := by
  intro _ _ h
  cases h
  have h0 := bool_lt stop
  have h1 := bool_lt qui
  have h2 := g.isLt
  have h3 := i.isLt
  exact ⟨by decide, by unfold lay31_30_26_13; omega⟩

theorem bartest (stop : Bool) (qui : Bool) (g : BitVec 4) (i : BitVec 7) (p : BitVec 3) : Statement (.bartest stop qui g i p) := by
  intro _ _ h
  cases h
  have h0 := bool_lt stop
  have h1 := bool_lt qui
  have h2 := g.isLt
  have h3 := i.isLt
  have h4 := p.isLt
  exact ⟨by decide, by unfold lay31_30_26_13_0; omega⟩

theorem ropePair (stop : Bool) (qui : Bool) (g : BitVec 4) : Statement (.ropePair stop qui g) := by
  intro _ _ h
  cases h
  have h0 := bool_lt stop
  have h1 := bool_lt qui
  have h2 := g.isLt
  exact ⟨by decide, by unfold lay31_30_26; omega⟩

theorem ropeQuad (stop : Bool) (qui : Bool) (g : BitVec 4) : Statement (.ropeQuad stop qui g) := by
  intro _ _ h
  cases h
  have h0 := bool_lt stop
  have h1 := bool_lt qui
  have h2 := g.isLt
  exact ⟨by decide, by unfold lay31_30_26; omega⟩

theorem unrope (stop : Bool) (qui : Bool) (g : BitVec 4) : Statement (.unrope stop qui g) := by
  intro _ _ h
  cases h
  have h0 := bool_lt stop
  have h1 := bool_lt qui
  have h2 := g.isLt
  exact ⟨by decide, by unfold lay31_30_26; omega⟩

theorem drain (stop : Bool) (qui : Bool) (g : BitVec 4) (x : BitVec 3) : Statement (.drain stop qui g x) := by
  intro _ _ h
  cases h
  have h0 := bool_lt stop
  have h1 := bool_lt qui
  have h2 := g.isLt
  have h3 := x.isLt
  exact ⟨by decide, by unfold lay31_30_26_17; omega⟩

theorem trapR (stop : Bool) (qui : Bool) (g : BitVec 4) (c : BitVec 16) : Statement (.trapR stop qui g c) := by
  intro _ _ h
  cases h
  have h0 := bool_lt stop
  have h1 := bool_lt qui
  have h2 := g.isLt
  have h3 := c.isLt
  exact ⟨by decide, by unfold lay31_30_26_0; omega⟩

theorem sys (stop : Bool) (qui : Bool) (g : BitVec 4) (c : BitVec 16) : Statement (.sys stop qui g c) := by
  intro _ _ h
  cases h
  have h0 := bool_lt stop
  have h1 := bool_lt qui
  have h2 := g.isLt
  have h3 := c.isLt
  exact ⟨by decide, by unfold lay31_30_26_0; omega⟩

theorem cread (stop : Bool) (qui : Bool) (g : BitVec 4) (d : BitVec 6) (r : BitVec 12) : Statement (.cread stop qui g d r) := by
  intro _ _ h
  cases h
  have h0 := bool_lt stop
  have h1 := bool_lt qui
  have h2 := g.isLt
  have h3 := d.isLt
  have h4 := r.isLt
  exact ⟨by decide, by unfold lay31_30_26_14_0; omega⟩

theorem cwrite (stop : Bool) (qui : Bool) (g : BitVec 4) (r : BitVec 12) (a : BitVec 6) : Statement (.cwrite stop qui g r a) := by
  intro _ _ h
  cases h
  have h0 := bool_lt stop
  have h1 := bool_lt qui
  have h2 := g.isLt
  have h3 := r.isLt
  have h4 := a.isLt
  exact ⟨by decide, by unfold lay31_30_26_8_0; omega⟩

theorem rfdefer (stop : Bool) (qui : Bool) (g : BitVec 4) (a : BitVec 6) : Statement (.rfdefer stop qui g a) := by
  intro _ _ h
  cases h
  have h0 := bool_lt stop
  have h1 := bool_lt qui
  have h2 := g.isLt
  have h3 := a.isLt
  exact ⟨by decide, by unfold lay31_30_26_14; omega⟩

theorem tret (stop : Bool) (qui : Bool) (g : BitVec 4) : Statement (.tret stop qui g) := by
  intro _ _ h
  cases h
  have h0 := bool_lt stop
  have h1 := bool_lt qui
  have h2 := g.isLt
  exact ⟨by decide, by unfold lay31_30_26; omega⟩

theorem tretAt (stop : Bool) (qui : Bool) (g : BitVec 4) (a : BitVec 6) : Statement (.tretAt stop qui g a) := by
  intro _ _ h
  cases h
  have h0 := bool_lt stop
  have h1 := bool_lt qui
  have h2 := g.isLt
  have h3 := a.isLt
  exact ⟨by decide, by unfold lay31_30_26_14; omega⟩

theorem nopK (k : BitVec 3) (g : BitVec 4) : Statement (.nopK k g) := by
  intro _ _ h
  cases h
  have h0 := k.isLt
  have h1 := g.isLt
  exact ⟨k.isLt, by unfold lay28; omega⟩

theorem addR (u : SUnit) (g : BitVec 4) (d : BitVec 6) (a : BitVec 6) (b : BitVec 6) : Statement (.addR u g d a b) := by
  intro _ _ h
  cases h
  have h0 := g.isLt
  have h1 := d.isLt
  have h2 := a.isLt
  have h3 := b.isLt
  exact ⟨scalar_slot u, by unfold lay28_15_9_3; omega⟩

theorem subR (u : SUnit) (g : BitVec 4) (d : BitVec 6) (a : BitVec 6) (b : BitVec 6) : Statement (.subR u g d a b) := by
  intro _ _ h
  cases h
  have h0 := g.isLt
  have h1 := d.isLt
  have h2 := a.isLt
  have h3 := b.isLt
  exact ⟨scalar_slot u, by unfold lay28_15_9_3; omega⟩

theorem mulR (u : SUnit) (g : BitVec 4) (d : BitVec 6) (a : BitVec 6) (b : BitVec 6) : Statement (.mulR u g d a b) := by
  intro _ _ h
  cases h
  have h0 := g.isLt
  have h1 := d.isLt
  have h2 := a.isLt
  have h3 := b.isLt
  exact ⟨scalar_slot u, by unfold lay28_15_9_3; omega⟩

theorem mulhs (u : SUnit) (g : BitVec 4) (d : BitVec 6) (a : BitVec 6) (b : BitVec 6) : Statement (.mulhs u g d a b) := by
  intro _ _ h
  cases h
  have h0 := g.isLt
  have h1 := d.isLt
  have h2 := a.isLt
  have h3 := b.isLt
  exact ⟨scalar_slot u, by unfold lay28_15_9_3; omega⟩

theorem mulhu (u : SUnit) (g : BitVec 4) (d : BitVec 6) (a : BitVec 6) (b : BitVec 6) : Statement (.mulhu u g d a b) := by
  intro _ _ h
  cases h
  have h0 := g.isLt
  have h1 := d.isLt
  have h2 := a.isLt
  have h3 := b.isLt
  exact ⟨scalar_slot u, by unfold lay28_15_9_3; omega⟩

theorem divR (u : SUnit) (g : BitVec 4) (d : BitVec 6) (a : BitVec 6) (b : BitVec 6) : Statement (.divR u g d a b) := by
  intro _ _ h
  cases h
  have h0 := g.isLt
  have h1 := d.isLt
  have h2 := a.isLt
  have h3 := b.isLt
  exact ⟨scalar_slot u, by unfold lay28_15_9_3; omega⟩

theorem divu (u : SUnit) (g : BitVec 4) (d : BitVec 6) (a : BitVec 6) (b : BitVec 6) : Statement (.divu u g d a b) := by
  intro _ _ h
  cases h
  have h0 := g.isLt
  have h1 := d.isLt
  have h2 := a.isLt
  have h3 := b.isLt
  exact ⟨scalar_slot u, by unfold lay28_15_9_3; omega⟩

theorem remR (u : SUnit) (g : BitVec 4) (d : BitVec 6) (a : BitVec 6) (b : BitVec 6) : Statement (.remR u g d a b) := by
  intro _ _ h
  cases h
  have h0 := g.isLt
  have h1 := d.isLt
  have h2 := a.isLt
  have h3 := b.isLt
  exact ⟨scalar_slot u, by unfold lay28_15_9_3; omega⟩

theorem remu (u : SUnit) (g : BitVec 4) (d : BitVec 6) (a : BitVec 6) (b : BitVec 6) : Statement (.remu u g d a b) := by
  intro _ _ h
  cases h
  have h0 := g.isLt
  have h1 := d.isLt
  have h2 := a.isLt
  have h3 := b.isLt
  exact ⟨scalar_slot u, by unfold lay28_15_9_3; omega⟩

theorem andR (u : SUnit) (g : BitVec 4) (d : BitVec 6) (a : BitVec 6) (b : BitVec 6) : Statement (.andR u g d a b) := by
  intro _ _ h
  cases h
  have h0 := g.isLt
  have h1 := d.isLt
  have h2 := a.isLt
  have h3 := b.isLt
  exact ⟨scalar_slot u, by unfold lay28_15_9_3; omega⟩

theorem orR (u : SUnit) (g : BitVec 4) (d : BitVec 6) (a : BitVec 6) (b : BitVec 6) : Statement (.orR u g d a b) := by
  intro _ _ h
  cases h
  have h0 := g.isLt
  have h1 := d.isLt
  have h2 := a.isLt
  have h3 := b.isLt
  exact ⟨scalar_slot u, by unfold lay28_15_9_3; omega⟩

theorem xorR (u : SUnit) (g : BitVec 4) (d : BitVec 6) (a : BitVec 6) (b : BitVec 6) : Statement (.xorR u g d a b) := by
  intro _ _ h
  cases h
  have h0 := g.isLt
  have h1 := d.isLt
  have h2 := a.isLt
  have h3 := b.isLt
  exact ⟨scalar_slot u, by unfold lay28_15_9_3; omega⟩

theorem andn (u : SUnit) (g : BitVec 4) (d : BitVec 6) (a : BitVec 6) (b : BitVec 6) : Statement (.andn u g d a b) := by
  intro _ _ h
  cases h
  have h0 := g.isLt
  have h1 := d.isLt
  have h2 := a.isLt
  have h3 := b.isLt
  exact ⟨scalar_slot u, by unfold lay28_15_9_3; omega⟩

theorem shl (u : SUnit) (g : BitVec 4) (d : BitVec 6) (a : BitVec 6) (b : BitVec 6) : Statement (.shl u g d a b) := by
  intro _ _ h
  cases h
  have h0 := g.isLt
  have h1 := d.isLt
  have h2 := a.isLt
  have h3 := b.isLt
  exact ⟨scalar_slot u, by unfold lay28_15_9_3; omega⟩

theorem shr (u : SUnit) (g : BitVec 4) (d : BitVec 6) (a : BitVec 6) (b : BitVec 6) : Statement (.shr u g d a b) := by
  intro _ _ h
  cases h
  have h0 := g.isLt
  have h1 := d.isLt
  have h2 := a.isLt
  have h3 := b.isLt
  exact ⟨scalar_slot u, by unfold lay28_15_9_3; omega⟩

theorem sar (u : SUnit) (g : BitVec 4) (d : BitVec 6) (a : BitVec 6) (b : BitVec 6) : Statement (.sar u g d a b) := by
  intro _ _ h
  cases h
  have h0 := g.isLt
  have h1 := d.isLt
  have h2 := a.isLt
  have h3 := b.isLt
  exact ⟨scalar_slot u, by unfold lay28_15_9_3; omega⟩

theorem rol (u : SUnit) (g : BitVec 4) (d : BitVec 6) (a : BitVec 6) (b : BitVec 6) : Statement (.rol u g d a b) := by
  intro _ _ h
  cases h
  have h0 := g.isLt
  have h1 := d.isLt
  have h2 := a.isLt
  have h3 := b.isLt
  exact ⟨scalar_slot u, by unfold lay28_15_9_3; omega⟩

theorem minR (u : SUnit) (g : BitVec 4) (d : BitVec 6) (a : BitVec 6) (b : BitVec 6) : Statement (.minR u g d a b) := by
  intro _ _ h
  cases h
  have h0 := g.isLt
  have h1 := d.isLt
  have h2 := a.isLt
  have h3 := b.isLt
  exact ⟨scalar_slot u, by unfold lay28_15_9_3; omega⟩

theorem maxR (u : SUnit) (g : BitVec 4) (d : BitVec 6) (a : BitVec 6) (b : BitVec 6) : Statement (.maxR u g d a b) := by
  intro _ _ h
  cases h
  have h0 := g.isLt
  have h1 := d.isLt
  have h2 := a.isLt
  have h3 := b.isLt
  exact ⟨scalar_slot u, by unfold lay28_15_9_3; omega⟩

theorem minu (u : SUnit) (g : BitVec 4) (d : BitVec 6) (a : BitVec 6) (b : BitVec 6) : Statement (.minu u g d a b) := by
  intro _ _ h
  cases h
  have h0 := g.isLt
  have h1 := d.isLt
  have h2 := a.isLt
  have h3 := b.isLt
  exact ⟨scalar_slot u, by unfold lay28_15_9_3; omega⟩

theorem maxu (u : SUnit) (g : BitVec 4) (d : BitVec 6) (a : BitVec 6) (b : BitVec 6) : Statement (.maxu u g d a b) := by
  intro _ _ h
  cases h
  have h0 := g.isLt
  have h1 := d.isLt
  have h2 := a.isLt
  have h3 := b.isLt
  exact ⟨scalar_slot u, by unfold lay28_15_9_3; omega⟩

theorem lea (u : SUnit) (g : BitVec 4) (d : BitVec 6) (a : BitVec 6) (b : BitVec 6) (x : BitVec 3) : Statement (.lea u g d a b x) := by
  intro _ _ h
  cases h
  have h0 := g.isLt
  have h1 := d.isLt
  have h2 := a.isLt
  have h3 := b.isLt
  have h4 := x.isLt
  exact ⟨scalar_slot u, by unfold lay28_15_9_3_0; omega⟩

theorem sel (u : SUnit) (g : BitVec 4) (d : BitVec 6) (a : BitVec 6) (b : BitVec 6) (p : BitVec 3) : Statement (.sel u g d a b p) := by
  intro _ _ h
  cases h
  have h0 := g.isLt
  have h1 := d.isLt
  have h2 := a.isLt
  have h3 := b.isLt
  have h4 := p.isLt
  exact ⟨scalar_slot u, by unfold lay28_15_9_3_0; omega⟩

theorem clz (u : SUnit) (g : BitVec 4) (d : BitVec 6) (a : BitVec 6) : Statement (.clz u g d a) := by
  intro _ _ h
  cases h
  have h0 := g.isLt
  have h1 := d.isLt
  have h2 := a.isLt
  exact ⟨scalar_slot u, by unfold lay28_15_9; omega⟩

theorem ctz (u : SUnit) (g : BitVec 4) (d : BitVec 6) (a : BitVec 6) : Statement (.ctz u g d a) := by
  intro _ _ h
  cases h
  have h0 := g.isLt
  have h1 := d.isLt
  have h2 := a.isLt
  exact ⟨scalar_slot u, by unfold lay28_15_9; omega⟩

theorem popc (u : SUnit) (g : BitVec 4) (d : BitVec 6) (a : BitVec 6) : Statement (.popc u g d a) := by
  intro _ _ h
  cases h
  have h0 := g.isLt
  have h1 := d.isLt
  have h2 := a.isLt
  exact ⟨scalar_slot u, by unfold lay28_15_9; omega⟩

theorem rngx (u : SUnit) (g : BitVec 4) (d : BitVec 6) (a : BitVec 6) (b : BitVec 6) : Statement (.rngx u g d a b) := by
  intro _ _ h
  cases h
  have h0 := g.isLt
  have h1 := d.isLt
  have h2 := a.isLt
  have h3 := b.isLt
  exact ⟨scalar_slot u, by unfold lay28_15_9_3; omega⟩

theorem mov (u : SUnit) (g : BitVec 4) (d : BitVec 6) (a : BitVec 6) : Statement (.mov u g d a) := by
  intro _ _ h
  cases h
  have h0 := g.isLt
  have h1 := d.isLt
  have h2 := a.isLt
  exact ⟨scalar_slot u, by unfold lay28_15_9; omega⟩

theorem addi (u : SUnit) (g : BitVec 4) (d : BitVec 6) (a : BitVec 6) (i : BitVec 9) : Statement (.addi u g d a i) := by
  intro _ _ h
  cases h
  have h0 := g.isLt
  have h1 := d.isLt
  have h2 := a.isLt
  have h3 := i.isLt
  exact ⟨scalar_slot u, by unfold lay28_15_9_0; omega⟩

theorem andi (u : SUnit) (g : BitVec 4) (d : BitVec 6) (a : BitVec 6) (i : BitVec 9) : Statement (.andi u g d a i) := by
  intro _ _ h
  cases h
  have h0 := g.isLt
  have h1 := d.isLt
  have h2 := a.isLt
  have h3 := i.isLt
  exact ⟨scalar_slot u, by unfold lay28_15_9_0; omega⟩

theorem ori (u : SUnit) (g : BitVec 4) (d : BitVec 6) (a : BitVec 6) (i : BitVec 9) : Statement (.ori u g d a i) := by
  intro _ _ h
  cases h
  have h0 := g.isLt
  have h1 := d.isLt
  have h2 := a.isLt
  have h3 := i.isLt
  exact ⟨scalar_slot u, by unfold lay28_15_9_0; omega⟩

theorem xori (u : SUnit) (g : BitVec 4) (d : BitVec 6) (a : BitVec 6) (i : BitVec 9) : Statement (.xori u g d a i) := by
  intro _ _ h
  cases h
  have h0 := g.isLt
  have h1 := d.isLt
  have h2 := a.isLt
  have h3 := i.isLt
  exact ⟨scalar_slot u, by unfold lay28_15_9_0; omega⟩

theorem shli (u : SUnit) (g : BitVec 4) (d : BitVec 6) (a : BitVec 6) (i : BitVec 5) : Statement (.shli u g d a i) := by
  intro _ _ h
  cases h
  have h0 := g.isLt
  have h1 := d.isLt
  have h2 := a.isLt
  have h3 := i.isLt
  exact ⟨scalar_slot u, by unfold lay28_15_9_0; omega⟩

theorem shri (u : SUnit) (g : BitVec 4) (d : BitVec 6) (a : BitVec 6) (i : BitVec 5) : Statement (.shri u g d a i) := by
  intro _ _ h
  cases h
  have h0 := g.isLt
  have h1 := d.isLt
  have h2 := a.isLt
  have h3 := i.isLt
  exact ⟨scalar_slot u, by unfold lay28_15_9_0; omega⟩

theorem sari (u : SUnit) (g : BitVec 4) (d : BitVec 6) (a : BitVec 6) (i : BitVec 5) : Statement (.sari u g d a i) := by
  intro _ _ h
  cases h
  have h0 := g.isLt
  have h1 := d.isLt
  have h2 := a.isLt
  have h3 := i.isLt
  exact ⟨scalar_slot u, by unfold lay28_15_9_0; omega⟩

theorem roli (u : SUnit) (g : BitVec 4) (d : BitVec 6) (a : BitVec 6) (i : BitVec 5) : Statement (.roli u g d a i) := by
  intro _ _ h
  cases h
  have h0 := g.isLt
  have h1 := d.isLt
  have h2 := a.isLt
  have h3 := i.isLt
  exact ⟨scalar_slot u, by unfold lay28_15_9_0; omega⟩

theorem muli (u : SUnit) (g : BitVec 4) (d : BitVec 6) (a : BitVec 6) (i : BitVec 9) : Statement (.muli u g d a i) := by
  intro _ _ h
  cases h
  have h0 := g.isLt
  have h1 := d.isLt
  have h2 := a.isLt
  have h3 := i.isLt
  exact ⟨scalar_slot u, by unfold lay28_15_9_0; omega⟩

theorem bfx (u : SUnit) (g : BitVec 4) (d : BitVec 6) (a : BitVec 6) (p : BitVec 5) (n : BitVec 4) : Statement (.bfx u g d a p n) := by
  intro _ _ h
  cases h
  have h0 := g.isLt
  have h1 := d.isLt
  have h2 := a.isLt
  have h3 := p.isLt
  have h4 := n.isLt
  exact ⟨scalar_slot u, by unfold lay28_15_9_4_0; omega⟩

theorem bfi (u : SUnit) (g : BitVec 4) (d : BitVec 6) (a : BitVec 6) (p : BitVec 5) (n : BitVec 4) : Statement (.bfi u g d a p n) := by
  intro _ _ h
  cases h
  have h0 := g.isLt
  have h1 := d.isLt
  have h2 := a.isLt
  have h3 := p.isLt
  have h4 := n.isLt
  exact ⟨scalar_slot u, by unfold lay28_15_9_4_0; omega⟩

theorem li (u : SUnit) (g : BitVec 4) (d : BitVec 6) (i : BitVec 15) : Statement (.li u g d i) := by
  intro _ _ h
  cases h
  have h0 := g.isLt
  have h1 := d.isLt
  have h2 := i.isLt
  exact ⟨scalar_slot u, by unfold lay28_15_0; omega⟩

theorem cmpEq (u : SUnit) (g : BitVec 4) (p : BitVec 3) (a : BitVec 6) (b : BitVec 6) : Statement (.cmpEq u g p a b) := by
  intro _ _ h
  cases h
  have h0 := g.isLt
  have h1 := p.isLt
  have h2 := a.isLt
  have h3 := b.isLt
  exact ⟨scalar_slot u, by unfold lay28_15_9_3; omega⟩

theorem cmpNe (u : SUnit) (g : BitVec 4) (p : BitVec 3) (a : BitVec 6) (b : BitVec 6) : Statement (.cmpNe u g p a b) := by
  intro _ _ h
  cases h
  have h0 := g.isLt
  have h1 := p.isLt
  have h2 := a.isLt
  have h3 := b.isLt
  exact ⟨scalar_slot u, by unfold lay28_15_9_3; omega⟩

theorem cmpLt (u : SUnit) (g : BitVec 4) (p : BitVec 3) (a : BitVec 6) (b : BitVec 6) : Statement (.cmpLt u g p a b) := by
  intro _ _ h
  cases h
  have h0 := g.isLt
  have h1 := p.isLt
  have h2 := a.isLt
  have h3 := b.isLt
  exact ⟨scalar_slot u, by unfold lay28_15_9_3; omega⟩

theorem cmpLe (u : SUnit) (g : BitVec 4) (p : BitVec 3) (a : BitVec 6) (b : BitVec 6) : Statement (.cmpLe u g p a b) := by
  intro _ _ h
  cases h
  have h0 := g.isLt
  have h1 := p.isLt
  have h2 := a.isLt
  have h3 := b.isLt
  exact ⟨scalar_slot u, by unfold lay28_15_9_3; omega⟩

theorem cmpLtu (u : SUnit) (g : BitVec 4) (p : BitVec 3) (a : BitVec 6) (b : BitVec 6) : Statement (.cmpLtu u g p a b) := by
  intro _ _ h
  cases h
  have h0 := g.isLt
  have h1 := p.isLt
  have h2 := a.isLt
  have h3 := b.isLt
  exact ⟨scalar_slot u, by unfold lay28_15_9_3; omega⟩

theorem cmpLeu (u : SUnit) (g : BitVec 4) (p : BitVec 3) (a : BitVec 6) (b : BitVec 6) : Statement (.cmpLeu u g p a b) := by
  intro _ _ h
  cases h
  have h0 := g.isLt
  have h1 := p.isLt
  have h2 := a.isLt
  have h3 := b.isLt
  exact ⟨scalar_slot u, by unfold lay28_15_9_3; omega⟩

theorem cmpiEq (u : SUnit) (g : BitVec 4) (p : BitVec 3) (a : BitVec 6) (i : BitVec 9) : Statement (.cmpiEq u g p a i) := by
  intro _ _ h
  cases h
  have h0 := g.isLt
  have h1 := p.isLt
  have h2 := a.isLt
  have h3 := i.isLt
  exact ⟨scalar_slot u, by unfold lay28_15_9_0; omega⟩

theorem cmpiLt (u : SUnit) (g : BitVec 4) (p : BitVec 3) (a : BitVec 6) (i : BitVec 9) : Statement (.cmpiLt u g p a i) := by
  intro _ _ h
  cases h
  have h0 := g.isLt
  have h1 := p.isLt
  have h2 := a.isLt
  have h3 := i.isLt
  exact ⟨scalar_slot u, by unfold lay28_15_9_0; omega⟩

theorem cmpiLtu (u : SUnit) (g : BitVec 4) (p : BitVec 3) (a : BitVec 6) (i : BitVec 9) : Statement (.cmpiLtu u g p a i) := by
  intro _ _ h
  cases h
  have h0 := g.isLt
  have h1 := p.isLt
  have h2 := a.isLt
  have h3 := i.isLt
  exact ⟨scalar_slot u, by unfold lay28_15_9_0; omega⟩

theorem cmpiNe (u : SUnit) (g : BitVec 4) (p : BitVec 3) (a : BitVec 6) (i : BitVec 9) : Statement (.cmpiNe u g p a i) := by
  intro _ _ h
  cases h
  have h0 := g.isLt
  have h1 := p.isLt
  have h2 := a.isLt
  have h3 := i.isLt
  exact ⟨scalar_slot u, by unfold lay28_15_9_0; omega⟩

theorem pand (u : SUnit) (g : BitVec 4) (p : BitVec 3) (a : BitVec 3) (b : BitVec 3) : Statement (.pand u g p a b) := by
  intro _ _ h
  cases h
  have h0 := g.isLt
  have h1 := p.isLt
  have h2 := a.isLt
  have h3 := b.isLt
  exact ⟨scalar_slot u, by unfold lay28_15_12_9; omega⟩

theorem por (u : SUnit) (g : BitVec 4) (p : BitVec 3) (a : BitVec 3) (b : BitVec 3) : Statement (.por u g p a b) := by
  intro _ _ h
  cases h
  have h0 := g.isLt
  have h1 := p.isLt
  have h2 := a.isLt
  have h3 := b.isLt
  exact ⟨scalar_slot u, by unfold lay28_15_12_9; omega⟩

theorem pxor (u : SUnit) (g : BitVec 4) (p : BitVec 3) (a : BitVec 3) (b : BitVec 3) : Statement (.pxor u g p a b) := by
  intro _ _ h
  cases h
  have h0 := g.isLt
  have h1 := p.isLt
  have h2 := a.isLt
  have h3 := b.isLt
  exact ⟨scalar_slot u, by unfold lay28_15_12_9; omega⟩

theorem pandn (u : SUnit) (g : BitVec 4) (p : BitVec 3) (a : BitVec 3) (b : BitVec 3) : Statement (.pandn u g p a b) := by
  intro _ _ h
  cases h
  have h0 := g.isLt
  have h1 := p.isLt
  have h2 := a.isLt
  have h3 := b.isLt
  exact ⟨scalar_slot u, by unfold lay28_15_12_9; omega⟩

theorem cmpt (u : SUnit) (g : BitVec 4) (a : BitVec 6) (b : BitVec 6) : Statement (.cmpt u g a b) := by
  intro _ _ h
  cases h
  have h0 := g.isLt
  have h1 := a.isLt
  have h2 := b.isLt
  exact ⟨scalar_slot u, by unfold lay28_9_3; omega⟩

theorem cmpti (u : SUnit) (g : BitVec 4) (a : BitVec 6) (i : BitVec 9) : Statement (.cmpti u g a i) := by
  intro _ _ h
  cases h
  have h0 := g.isLt
  have h1 := a.isLt
  have h2 := i.isLt
  exact ⟨scalar_slot u, by unfold lay28_9_0; omega⟩

theorem ptest (u : SUnit) (g : BitVec 4) (p : BitVec 3) (a : BitVec 6) : Statement (.ptest u g p a) := by
  intro _ _ h
  cases h
  have h0 := g.isLt
  have h1 := p.isLt
  have h2 := a.isLt
  exact ⟨scalar_slot u, by unfold lay28_15_9; omega⟩

theorem pclr (u : SUnit) (g : BitVec 4) (d : BitVec 6) (a : BitVec 6) : Statement (.pclr u g d a) := by
  intro _ _ h
  cases h
  have h0 := g.isLt
  have h1 := d.isLt
  have h2 := a.isLt
  exact ⟨scalar_slot u, by unfold lay28_15_9; omega⟩

theorem fadd (u : SUnit) (g : BitVec 4) (d : BitVec 6) (a : BitVec 6) (b : BitVec 6) (r : BitVec 3) : Statement (.fadd u g d a b r) := by
  intro _ _ h
  cases h
  have h0 := g.isLt
  have h1 := d.isLt
  have h2 := a.isLt
  have h3 := b.isLt
  have h4 := r.isLt
  exact ⟨scalar_slot u, by unfold lay28_15_9_3_0; omega⟩

theorem fsub (u : SUnit) (g : BitVec 4) (d : BitVec 6) (a : BitVec 6) (b : BitVec 6) (r : BitVec 3) : Statement (.fsub u g d a b r) := by
  intro _ _ h
  cases h
  have h0 := g.isLt
  have h1 := d.isLt
  have h2 := a.isLt
  have h3 := b.isLt
  have h4 := r.isLt
  exact ⟨scalar_slot u, by unfold lay28_15_9_3_0; omega⟩

theorem fmul (u : SUnit) (g : BitVec 4) (d : BitVec 6) (a : BitVec 6) (b : BitVec 6) (r : BitVec 3) : Statement (.fmul u g d a b r) := by
  intro _ _ h
  cases h
  have h0 := g.isLt
  have h1 := d.isLt
  have h2 := a.isLt
  have h3 := b.isLt
  have h4 := r.isLt
  exact ⟨scalar_slot u, by unfold lay28_15_9_3_0; omega⟩

theorem ffma (u : SUnit) (g : BitVec 4) (d : BitVec 6) (a : BitVec 6) (b : BitVec 6) (r : BitVec 3) : Statement (.ffma u g d a b r) := by
  intro _ _ h
  cases h
  have h0 := g.isLt
  have h1 := d.isLt
  have h2 := a.isLt
  have h3 := b.isLt
  have h4 := r.isLt
  exact ⟨scalar_slot u, by unfold lay28_15_9_3_0; omega⟩

theorem fmin (u : SUnit) (g : BitVec 4) (d : BitVec 6) (a : BitVec 6) (b : BitVec 6) : Statement (.fmin u g d a b) := by
  intro _ _ h
  cases h
  have h0 := g.isLt
  have h1 := d.isLt
  have h2 := a.isLt
  have h3 := b.isLt
  exact ⟨scalar_slot u, by unfold lay28_15_9_3; omega⟩

theorem fmax (u : SUnit) (g : BitVec 4) (d : BitVec 6) (a : BitVec 6) (b : BitVec 6) : Statement (.fmax u g d a b) := by
  intro _ _ h
  cases h
  have h0 := g.isLt
  have h1 := d.isLt
  have h2 := a.isLt
  have h3 := b.isLt
  exact ⟨scalar_slot u, by unfold lay28_15_9_3; omega⟩

theorem fabs (u : SUnit) (g : BitVec 4) (d : BitVec 6) (a : BitVec 6) : Statement (.fabs u g d a) := by
  intro _ _ h
  cases h
  have h0 := g.isLt
  have h1 := d.isLt
  have h2 := a.isLt
  exact ⟨scalar_slot u, by unfold lay28_15_9; omega⟩

theorem fneg (u : SUnit) (g : BitVec 4) (d : BitVec 6) (a : BitVec 6) : Statement (.fneg u g d a) := by
  intro _ _ h
  cases h
  have h0 := g.isLt
  have h1 := d.isLt
  have h2 := a.isLt
  exact ⟨scalar_slot u, by unfold lay28_15_9; omega⟩

theorem fcvtWF (u : SUnit) (g : BitVec 4) (d : BitVec 6) (a : BitVec 6) (b : BitVec 6) (r : BitVec 3) : Statement (.fcvtWF u g d a b r) := by
  intro _ _ h
  cases h
  have h0 := g.isLt
  have h1 := d.isLt
  have h2 := a.isLt
  have h3 := b.isLt
  have h4 := r.isLt
  exact ⟨scalar_slot u, by unfold lay28_15_9_3_0; omega⟩

theorem fcvtFW (u : SUnit) (g : BitVec 4) (d : BitVec 6) (a : BitVec 6) (b : BitVec 6) (r : BitVec 3) : Statement (.fcvtFW u g d a b r) := by
  intro _ _ h
  cases h
  have h0 := g.isLt
  have h1 := d.isLt
  have h2 := a.isLt
  have h3 := b.isLt
  have h4 := r.isLt
  exact ⟨scalar_slot u, by unfold lay28_15_9_3_0; omega⟩

theorem fcvtFWu (u : SUnit) (g : BitVec 4) (d : BitVec 6) (a : BitVec 6) (b : BitVec 6) (r : BitVec 3) : Statement (.fcvtFWu u g d a b r) := by
  intro _ _ h
  cases h
  have h0 := g.isLt
  have h1 := d.isLt
  have h2 := a.isLt
  have h3 := b.isLt
  have h4 := r.isLt
  exact ⟨scalar_slot u, by unfold lay28_15_9_3_0; omega⟩

theorem fcvtWuF (u : SUnit) (g : BitVec 4) (d : BitVec 6) (a : BitVec 6) (b : BitVec 6) (r : BitVec 3) : Statement (.fcvtWuF u g d a b r) := by
  intro _ _ h
  cases h
  have h0 := g.isLt
  have h1 := d.isLt
  have h2 := a.isLt
  have h3 := b.isLt
  have h4 := r.isLt
  exact ⟨scalar_slot u, by unfold lay28_15_9_3_0; omega⟩

theorem fcmpEq (u : SUnit) (g : BitVec 4) (p : BitVec 3) (a : BitVec 6) (b : BitVec 6) : Statement (.fcmpEq u g p a b) := by
  intro _ _ h
  cases h
  have h0 := g.isLt
  have h1 := p.isLt
  have h2 := a.isLt
  have h3 := b.isLt
  exact ⟨scalar_slot u, by unfold lay28_15_9_3; omega⟩

theorem fcmpLt (u : SUnit) (g : BitVec 4) (p : BitVec 3) (a : BitVec 6) (b : BitVec 6) : Statement (.fcmpLt u g p a b) := by
  intro _ _ h
  cases h
  have h0 := g.isLt
  have h1 := p.isLt
  have h2 := a.isLt
  have h3 := b.isLt
  exact ⟨scalar_slot u, by unfold lay28_15_9_3; omega⟩

theorem fcmpLe (u : SUnit) (g : BitVec 4) (p : BitVec 3) (a : BitVec 6) (b : BitVec 6) : Statement (.fcmpLe u g p a b) := by
  intro _ _ h
  cases h
  have h0 := g.isLt
  have h1 := p.isLt
  have h2 := a.isLt
  have h3 := b.isLt
  exact ⟨scalar_slot u, by unfold lay28_15_9_3; omega⟩

theorem fcmpUn (u : SUnit) (g : BitVec 4) (p : BitVec 3) (a : BitVec 6) (b : BitVec 6) : Statement (.fcmpUn u g p a b) := by
  intro _ _ h
  cases h
  have h0 := g.isLt
  have h1 := p.isLt
  have h2 := a.isLt
  have h3 := b.isLt
  exact ⟨scalar_slot u, by unfold lay28_15_9_3; omega⟩

theorem fclass (u : SUnit) (g : BitVec 4) (d : BitVec 6) (a : BitVec 6) : Statement (.fclass u g d a) := by
  intro _ _ h
  cases h
  have h0 := g.isLt
  have h1 := d.isLt
  have h2 := a.isLt
  exact ⟨scalar_slot u, by unfold lay28_15_9; omega⟩

theorem ldb (g : BitVec 4) (d : BitVec 6) (b : BitVec 6) (o : BitVec 9) : Statement (.ldb g d b o) := by
  intro _ _ h
  cases h
  have h0 := g.isLt
  have h1 := d.isLt
  have h2 := b.isLt
  have h3 := o.isLt
  exact ⟨by decide, by unfold lay28_15_9_0; omega⟩

theorem ldbu (g : BitVec 4) (d : BitVec 6) (b : BitVec 6) (o : BitVec 9) : Statement (.ldbu g d b o) := by
  intro _ _ h
  cases h
  have h0 := g.isLt
  have h1 := d.isLt
  have h2 := b.isLt
  have h3 := o.isLt
  exact ⟨by decide, by unfold lay28_15_9_0; omega⟩

theorem ldh (g : BitVec 4) (d : BitVec 6) (b : BitVec 6) (o : BitVec 9) : Statement (.ldh g d b o) := by
  intro _ _ h
  cases h
  have h0 := g.isLt
  have h1 := d.isLt
  have h2 := b.isLt
  have h3 := o.isLt
  exact ⟨by decide, by unfold lay28_15_9_0; omega⟩

theorem ldhu (g : BitVec 4) (d : BitVec 6) (b : BitVec 6) (o : BitVec 9) : Statement (.ldhu g d b o) := by
  intro _ _ h
  cases h
  have h0 := g.isLt
  have h1 := d.isLt
  have h2 := b.isLt
  have h3 := o.isLt
  exact ⟨by decide, by unfold lay28_15_9_0; omega⟩

theorem ldw (g : BitVec 4) (d : BitVec 6) (b : BitVec 6) (o : BitVec 9) : Statement (.ldw g d b o) := by
  intro _ _ h
  cases h
  have h0 := g.isLt
  have h1 := d.isLt
  have h2 := b.isLt
  have h3 := o.isLt
  exact ⟨by decide, by unfold lay28_15_9_0; omega⟩

theorem stb (g : BitVec 4) (d : BitVec 6) (b : BitVec 6) (o : BitVec 9) : Statement (.stb g d b o) := by
  intro _ _ h
  cases h
  have h0 := g.isLt
  have h1 := d.isLt
  have h2 := b.isLt
  have h3 := o.isLt
  exact ⟨by decide, by unfold lay28_15_9_0; omega⟩

theorem sth (g : BitVec 4) (d : BitVec 6) (b : BitVec 6) (o : BitVec 9) : Statement (.sth g d b o) := by
  intro _ _ h
  cases h
  have h0 := g.isLt
  have h1 := d.isLt
  have h2 := b.isLt
  have h3 := o.isLt
  exact ⟨by decide, by unfold lay28_15_9_0; omega⟩

theorem stw (g : BitVec 4) (d : BitVec 6) (b : BitVec 6) (o : BitVec 9) : Statement (.stw g d b o) := by
  intro _ _ h
  cases h
  have h0 := g.isLt
  have h1 := d.isLt
  have h2 := b.isLt
  have h3 := o.isLt
  exact ⟨by decide, by unfold lay28_15_9_0; omega⟩

theorem ldwS (g : BitVec 4) (d : BitVec 6) (b : BitVec 6) (o : BitVec 9) : Statement (.ldwS g d b o) := by
  intro _ _ h
  cases h
  have h0 := g.isLt
  have h1 := d.isLt
  have h2 := b.isLt
  have h3 := o.isLt
  exact ⟨by decide, by unfold lay28_15_9_0; omega⟩

theorem ldbuS (g : BitVec 4) (d : BitVec 6) (b : BitVec 6) (o : BitVec 9) : Statement (.ldbuS g d b o) := by
  intro _ _ h
  cases h
  have h0 := g.isLt
  have h1 := d.isLt
  have h2 := b.isLt
  have h3 := o.isLt
  exact ⟨by decide, by unfold lay28_15_9_0; omega⟩

theorem ldhuS (g : BitVec 4) (d : BitVec 6) (b : BitVec 6) (o : BitVec 9) : Statement (.ldhuS g d b o) := by
  intro _ _ h
  cases h
  have h0 := g.isLt
  have h1 := d.isLt
  have h2 := b.isLt
  have h3 := o.isLt
  exact ⟨by decide, by unfold lay28_15_9_0; omega⟩

theorem ldv (g : BitVec 4) (v : BitVec 5) (b : BitVec 6) (o : BitVec 7) (m : BitVec 3) : Statement (.ldv g v b o m) := by
  intro _ _ h
  cases h
  have h0 := g.isLt
  have h1 := v.isLt
  have h2 := b.isLt
  have h3 := o.isLt
  have h4 := m.isLt
  exact ⟨by decide, by unfold lay28_16_10_3_0; omega⟩

theorem stv (g : BitVec 4) (v : BitVec 5) (b : BitVec 6) (o : BitVec 7) (m : BitVec 3) : Statement (.stv g v b o m) := by
  intro _ _ h
  cases h
  have h0 := g.isLt
  have h1 := v.isLt
  have h2 := b.isLt
  have h3 := o.isLt
  have h4 := m.isLt
  exact ⟨by decide, by unfold lay28_16_10_3_0; omega⟩

theorem ldvS (g : BitVec 4) (v : BitVec 5) (b : BitVec 6) (o : BitVec 7) (m : BitVec 3) : Statement (.ldvS g v b o m) := by
  intro _ _ h
  cases h
  have h0 := g.isLt
  have h1 := v.isLt
  have h2 := b.isLt
  have h3 := o.isLt
  have h4 := m.isLt
  exact ⟨by decide, by unfold lay28_16_10_3_0; omega⟩

theorem ldmx4 (g : BitVec 4) (v : BitVec 5) (b : BitVec 6) (o : BitVec 7) (m : BitVec 3) : Statement (.ldmx4 g v b o m) := by
  intro _ _ h
  cases h
  have h0 := g.isLt
  have h1 := v.isLt
  have h2 := b.isLt
  have h3 := o.isLt
  have h4 := m.isLt
  exact ⟨by decide, by unfold lay28_16_10_3_0; omega⟩

theorem ldmx8 (g : BitVec 4) (v : BitVec 5) (b : BitVec 6) (o : BitVec 7) (m : BitVec 3) : Statement (.ldmx8 g v b o m) := by
  intro _ _ h
  cases h
  have h0 := g.isLt
  have h1 := v.isLt
  have h2 := b.isLt
  have h3 := o.isLt
  have h4 := m.isLt
  exact ⟨by decide, by unfold lay28_16_10_3_0; omega⟩

theorem ldvx (g : BitVec 4) (v : BitVec 5) (i : BitVec 5) (b : BitVec 6) (m : BitVec 2) (w : BitVec 3) : Statement (.ldvx g v i b m w) := by
  intro _ _ h
  cases h
  have h0 := g.isLt
  have h1 := v.isLt
  have h2 := i.isLt
  have h3 := b.isLt
  have h4 := m.isLt
  have h5 := w.isLt
  exact ⟨by decide, by unfold lay28_16_11_5_3_0; omega⟩

theorem stvx (g : BitVec 4) (v : BitVec 5) (i : BitVec 5) (b : BitVec 6) (m : BitVec 2) (w : BitVec 3) : Statement (.stvx g v i b m w) := by
  intro _ _ h
  cases h
  have h0 := g.isLt
  have h1 := v.isLt
  have h2 := i.isLt
  have h3 := b.isLt
  have h4 := m.isLt
  have h5 := w.isLt
  exact ⟨by decide, by unfold lay28_16_11_5_3_0; omega⟩

theorem ldvxS (g : BitVec 4) (v : BitVec 5) (i : BitVec 5) (b : BitVec 6) (m : BitVec 2) (w : BitVec 3) : Statement (.ldvxS g v i b m w) := by
  intro _ _ h
  cases h
  have h0 := g.isLt
  have h1 := v.isLt
  have h2 := i.isLt
  have h3 := b.isLt
  have h4 := m.isLt
  have h5 := w.isLt
  exact ⟨by decide, by unfold lay28_16_11_5_3_0; omega⟩

theorem shn (g : BitVec 4) (d : BitVec 5) (a : BitVec 5) (e : BitVec 3) (t : BitVec 5) (m : BitVec 3) : Statement (.shn g d a e t m) := by
  intro _ _ h
  cases h
  have h0 := g.isLt
  have h1 := d.isLt
  have h2 := a.isLt
  have h3 := e.isLt
  have h4 := t.isLt
  have h5 := m.isLt
  exact ⟨by decide, by unfold lay28_16_11_8_3_0; omega⟩

theorem tsh (g : BitVec 4) (d : BitVec 5) (a : BitVec 5) (e : BitVec 3) (t : BitVec 5) (m : BitVec 3) : Statement (.tsh g d a e t m) := by
  intro _ _ h
  cases h
  have h0 := g.isLt
  have h1 := d.isLt
  have h2 := a.isLt
  have h3 := e.isLt
  have h4 := t.isLt
  have h5 := m.isLt
  exact ⟨by decide, by unfold lay28_16_11_8_3_0; omega⟩

theorem vadd (u : VUnit) (g : BitVec 4) (d : BitVec 5) (a : BitVec 5) (b : BitVec 5) (m : BitVec 3) (x : BitVec 3) : Statement (.vadd u g d a b m x) := by
  intro _ _ h
  cases h
  have h0 := g.isLt
  have h1 := d.isLt
  have h2 := a.isLt
  have h3 := b.isLt
  have h4 := m.isLt
  have h5 := x.isLt
  exact ⟨vector_slot u, by unfold lay28_16_11_6_3_0; omega⟩

theorem vsub (u : VUnit) (g : BitVec 4) (d : BitVec 5) (a : BitVec 5) (b : BitVec 5) (m : BitVec 3) (x : BitVec 3) : Statement (.vsub u g d a b m x) := by
  intro _ _ h
  cases h
  have h0 := g.isLt
  have h1 := d.isLt
  have h2 := a.isLt
  have h3 := b.isLt
  have h4 := m.isLt
  have h5 := x.isLt
  exact ⟨vector_slot u, by unfold lay28_16_11_6_3_0; omega⟩

theorem vmul (u : VUnit) (g : BitVec 4) (d : BitVec 5) (a : BitVec 5) (b : BitVec 5) (m : BitVec 3) (x : BitVec 3) : Statement (.vmul u g d a b m x) := by
  intro _ _ h
  cases h
  have h0 := g.isLt
  have h1 := d.isLt
  have h2 := a.isLt
  have h3 := b.isLt
  have h4 := m.isLt
  have h5 := x.isLt
  exact ⟨vector_slot u, by unfold lay28_16_11_6_3_0; omega⟩

theorem vmulh (u : VUnit) (g : BitVec 4) (d : BitVec 5) (a : BitVec 5) (b : BitVec 5) (m : BitVec 3) (x : BitVec 3) : Statement (.vmulh u g d a b m x) := by
  intro _ _ h
  cases h
  have h0 := g.isLt
  have h1 := d.isLt
  have h2 := a.isLt
  have h3 := b.isLt
  have h4 := m.isLt
  have h5 := x.isLt
  exact ⟨vector_slot u, by unfold lay28_16_11_6_3_0; omega⟩

theorem vmad (u : VUnit) (g : BitVec 4) (d : BitVec 5) (a : BitVec 5) (b : BitVec 5) (m : BitVec 3) (x : BitVec 3) : Statement (.vmad u g d a b m x) := by
  intro _ _ h
  cases h
  have h0 := g.isLt
  have h1 := d.isLt
  have h2 := a.isLt
  have h3 := b.isLt
  have h4 := m.isLt
  have h5 := x.isLt
  exact ⟨vector_slot u, by unfold lay28_16_11_6_3_0; omega⟩

theorem vmin (u : VUnit) (g : BitVec 4) (d : BitVec 5) (a : BitVec 5) (b : BitVec 5) (m : BitVec 3) (x : BitVec 3) : Statement (.vmin u g d a b m x) := by
  intro _ _ h
  cases h
  have h0 := g.isLt
  have h1 := d.isLt
  have h2 := a.isLt
  have h3 := b.isLt
  have h4 := m.isLt
  have h5 := x.isLt
  exact ⟨vector_slot u, by unfold lay28_16_11_6_3_0; omega⟩

theorem vmax (u : VUnit) (g : BitVec 4) (d : BitVec 5) (a : BitVec 5) (b : BitVec 5) (m : BitVec 3) (x : BitVec 3) : Statement (.vmax u g d a b m x) := by
  intro _ _ h
  cases h
  have h0 := g.isLt
  have h1 := d.isLt
  have h2 := a.isLt
  have h3 := b.isLt
  have h4 := m.isLt
  have h5 := x.isLt
  exact ⟨vector_slot u, by unfold lay28_16_11_6_3_0; omega⟩

theorem vminu (u : VUnit) (g : BitVec 4) (d : BitVec 5) (a : BitVec 5) (b : BitVec 5) (m : BitVec 3) (x : BitVec 3) : Statement (.vminu u g d a b m x) := by
  intro _ _ h
  cases h
  have h0 := g.isLt
  have h1 := d.isLt
  have h2 := a.isLt
  have h3 := b.isLt
  have h4 := m.isLt
  have h5 := x.isLt
  exact ⟨vector_slot u, by unfold lay28_16_11_6_3_0; omega⟩

theorem vmaxu (u : VUnit) (g : BitVec 4) (d : BitVec 5) (a : BitVec 5) (b : BitVec 5) (m : BitVec 3) (x : BitVec 3) : Statement (.vmaxu u g d a b m x) := by
  intro _ _ h
  cases h
  have h0 := g.isLt
  have h1 := d.isLt
  have h2 := a.isLt
  have h3 := b.isLt
  have h4 := m.isLt
  have h5 := x.isLt
  exact ⟨vector_slot u, by unfold lay28_16_11_6_3_0; omega⟩

theorem vabs (u : VUnit) (g : BitVec 4) (d : BitVec 5) (a : BitVec 5) (m : BitVec 3) (x : BitVec 3) : Statement (.vabs u g d a m x) := by
  intro _ _ h
  cases h
  have h0 := g.isLt
  have h1 := d.isLt
  have h2 := a.isLt
  have h3 := m.isLt
  have h4 := x.isLt
  exact ⟨vector_slot u, by unfold lay28_16_11_3_0; omega⟩

theorem vand (u : VUnit) (g : BitVec 4) (d : BitVec 5) (a : BitVec 5) (b : BitVec 5) (m : BitVec 3) (x : BitVec 3) : Statement (.vand u g d a b m x) := by
  intro _ _ h
  cases h
  have h0 := g.isLt
  have h1 := d.isLt
  have h2 := a.isLt
  have h3 := b.isLt
  have h4 := m.isLt
  have h5 := x.isLt
  exact ⟨vector_slot u, by unfold lay28_16_11_6_3_0; omega⟩

theorem vor (u : VUnit) (g : BitVec 4) (d : BitVec 5) (a : BitVec 5) (b : BitVec 5) (m : BitVec 3) (x : BitVec 3) : Statement (.vor u g d a b m x) := by
  intro _ _ h
  cases h
  have h0 := g.isLt
  have h1 := d.isLt
  have h2 := a.isLt
  have h3 := b.isLt
  have h4 := m.isLt
  have h5 := x.isLt
  exact ⟨vector_slot u, by unfold lay28_16_11_6_3_0; omega⟩

theorem vxor (u : VUnit) (g : BitVec 4) (d : BitVec 5) (a : BitVec 5) (b : BitVec 5) (m : BitVec 3) (x : BitVec 3) : Statement (.vxor u g d a b m x) := by
  intro _ _ h
  cases h
  have h0 := g.isLt
  have h1 := d.isLt
  have h2 := a.isLt
  have h3 := b.isLt
  have h4 := m.isLt
  have h5 := x.isLt
  exact ⟨vector_slot u, by unfold lay28_16_11_6_3_0; omega⟩

theorem vshl (u : VUnit) (g : BitVec 4) (d : BitVec 5) (a : BitVec 5) (b : BitVec 5) (m : BitVec 3) (x : BitVec 3) : Statement (.vshl u g d a b m x) := by
  intro _ _ h
  cases h
  have h0 := g.isLt
  have h1 := d.isLt
  have h2 := a.isLt
  have h3 := b.isLt
  have h4 := m.isLt
  have h5 := x.isLt
  exact ⟨vector_slot u, by unfold lay28_16_11_6_3_0; omega⟩

theorem vshr (u : VUnit) (g : BitVec 4) (d : BitVec 5) (a : BitVec 5) (b : BitVec 5) (m : BitVec 3) (x : BitVec 3) : Statement (.vshr u g d a b m x) := by
  intro _ _ h
  cases h
  have h0 := g.isLt
  have h1 := d.isLt
  have h2 := a.isLt
  have h3 := b.isLt
  have h4 := m.isLt
  have h5 := x.isLt
  exact ⟨vector_slot u, by unfold lay28_16_11_6_3_0; omega⟩

theorem vsar (u : VUnit) (g : BitVec 4) (d : BitVec 5) (a : BitVec 5) (b : BitVec 5) (m : BitVec 3) (x : BitVec 3) : Statement (.vsar u g d a b m x) := by
  intro _ _ h
  cases h
  have h0 := g.isLt
  have h1 := d.isLt
  have h2 := a.isLt
  have h3 := b.isLt
  have h4 := m.isLt
  have h5 := x.isLt
  exact ⟨vector_slot u, by unfold lay28_16_11_6_3_0; omega⟩

theorem vclz (u : VUnit) (g : BitVec 4) (d : BitVec 5) (a : BitVec 5) (m : BitVec 3) (x : BitVec 3) : Statement (.vclz u g d a m x) := by
  intro _ _ h
  cases h
  have h0 := g.isLt
  have h1 := d.isLt
  have h2 := a.isLt
  have h3 := m.isLt
  have h4 := x.isLt
  exact ⟨vector_slot u, by unfold lay28_16_11_3_0; omega⟩

theorem vpopc (u : VUnit) (g : BitVec 4) (d : BitVec 5) (a : BitVec 5) (m : BitVec 3) (x : BitVec 3) : Statement (.vpopc u g d a m x) := by
  intro _ _ h
  cases h
  have h0 := g.isLt
  have h1 := d.isLt
  have h2 := a.isLt
  have h3 := m.isLt
  have h4 := x.isLt
  exact ⟨vector_slot u, by unfold lay28_16_11_3_0; omega⟩

theorem vadds (u : VUnit) (g : BitVec 4) (d : BitVec 5) (a : BitVec 5) (b : BitVec 5) (m : BitVec 3) (x : BitVec 3) : Statement (.vadds u g d a b m x) := by
  intro _ _ h
  cases h
  have h0 := g.isLt
  have h1 := d.isLt
  have h2 := a.isLt
  have h3 := b.isLt
  have h4 := m.isLt
  have h5 := x.isLt
  exact ⟨vector_slot u, by unfold lay28_16_11_6_3_0; omega⟩

theorem vsubs (u : VUnit) (g : BitVec 4) (d : BitVec 5) (a : BitVec 5) (b : BitVec 5) (m : BitVec 3) (x : BitVec 3) : Statement (.vsubs u g d a b m x) := by
  intro _ _ h
  cases h
  have h0 := g.isLt
  have h1 := d.isLt
  have h2 := a.isLt
  have h3 := b.isLt
  have h4 := m.isLt
  have h5 := x.isLt
  exact ⟨vector_slot u, by unfold lay28_16_11_6_3_0; omega⟩

theorem vcmpEq (u : VUnit) (g : BitVec 4) (d : BitVec 3) (a : BitVec 5) (b : BitVec 5) (m : BitVec 3) (x : BitVec 3) : Statement (.vcmpEq u g d a b m x) := by
  intro _ _ h
  cases h
  have h0 := g.isLt
  have h1 := d.isLt
  have h2 := a.isLt
  have h3 := b.isLt
  have h4 := m.isLt
  have h5 := x.isLt
  exact ⟨vector_slot u, by unfold lay28_16_11_6_3_0; omega⟩

theorem vcmpNe (u : VUnit) (g : BitVec 4) (d : BitVec 3) (a : BitVec 5) (b : BitVec 5) (m : BitVec 3) (x : BitVec 3) : Statement (.vcmpNe u g d a b m x) := by
  intro _ _ h
  cases h
  have h0 := g.isLt
  have h1 := d.isLt
  have h2 := a.isLt
  have h3 := b.isLt
  have h4 := m.isLt
  have h5 := x.isLt
  exact ⟨vector_slot u, by unfold lay28_16_11_6_3_0; omega⟩

theorem vcmpLt (u : VUnit) (g : BitVec 4) (d : BitVec 3) (a : BitVec 5) (b : BitVec 5) (m : BitVec 3) (x : BitVec 3) : Statement (.vcmpLt u g d a b m x) := by
  intro _ _ h
  cases h
  have h0 := g.isLt
  have h1 := d.isLt
  have h2 := a.isLt
  have h3 := b.isLt
  have h4 := m.isLt
  have h5 := x.isLt
  exact ⟨vector_slot u, by unfold lay28_16_11_6_3_0; omega⟩

theorem vcmpLe (u : VUnit) (g : BitVec 4) (d : BitVec 3) (a : BitVec 5) (b : BitVec 5) (m : BitVec 3) (x : BitVec 3) : Statement (.vcmpLe u g d a b m x) := by
  intro _ _ h
  cases h
  have h0 := g.isLt
  have h1 := d.isLt
  have h2 := a.isLt
  have h3 := b.isLt
  have h4 := m.isLt
  have h5 := x.isLt
  exact ⟨vector_slot u, by unfold lay28_16_11_6_3_0; omega⟩

theorem vcmpLtu (u : VUnit) (g : BitVec 4) (d : BitVec 3) (a : BitVec 5) (b : BitVec 5) (m : BitVec 3) (x : BitVec 3) : Statement (.vcmpLtu u g d a b m x) := by
  intro _ _ h
  cases h
  have h0 := g.isLt
  have h1 := d.isLt
  have h2 := a.isLt
  have h3 := b.isLt
  have h4 := m.isLt
  have h5 := x.isLt
  exact ⟨vector_slot u, by unfold lay28_16_11_6_3_0; omega⟩

theorem vcmpLeu (u : VUnit) (g : BitVec 4) (d : BitVec 3) (a : BitVec 5) (b : BitVec 5) (m : BitVec 3) (x : BitVec 3) : Statement (.vcmpLeu u g d a b m x) := by
  intro _ _ h
  cases h
  have h0 := g.isLt
  have h1 := d.isLt
  have h2 := a.isLt
  have h3 := b.isLt
  have h4 := m.isLt
  have h5 := x.isLt
  exact ⟨vector_slot u, by unfold lay28_16_11_6_3_0; omega⟩

theorem vaddX (u : VUnit) (g : BitVec 4) (d : BitVec 5) (a : BitVec 5) (sx : BitVec 6) (m : BitVec 2) (x : BitVec 3) : Statement (.vaddX u g d a sx m x) := by
  intro _ _ h
  cases h
  have h0 := g.isLt
  have h1 := d.isLt
  have h2 := a.isLt
  have h3 := sx.isLt
  have h4 := m.isLt
  have h5 := x.isLt
  exact ⟨vector_slot u, by unfold lay28_16_11_5_3_0; omega⟩

theorem vsubX (u : VUnit) (g : BitVec 4) (d : BitVec 5) (a : BitVec 5) (sx : BitVec 6) (m : BitVec 2) (x : BitVec 3) : Statement (.vsubX u g d a sx m x) := by
  intro _ _ h
  cases h
  have h0 := g.isLt
  have h1 := d.isLt
  have h2 := a.isLt
  have h3 := sx.isLt
  have h4 := m.isLt
  have h5 := x.isLt
  exact ⟨vector_slot u, by unfold lay28_16_11_5_3_0; omega⟩

theorem vmulX (u : VUnit) (g : BitVec 4) (d : BitVec 5) (a : BitVec 5) (sx : BitVec 6) (m : BitVec 2) (x : BitVec 3) : Statement (.vmulX u g d a sx m x) := by
  intro _ _ h
  cases h
  have h0 := g.isLt
  have h1 := d.isLt
  have h2 := a.isLt
  have h3 := sx.isLt
  have h4 := m.isLt
  have h5 := x.isLt
  exact ⟨vector_slot u, by unfold lay28_16_11_5_3_0; omega⟩

theorem vandX (u : VUnit) (g : BitVec 4) (d : BitVec 5) (a : BitVec 5) (sx : BitVec 6) (m : BitVec 2) (x : BitVec 3) : Statement (.vandX u g d a sx m x) := by
  intro _ _ h
  cases h
  have h0 := g.isLt
  have h1 := d.isLt
  have h2 := a.isLt
  have h3 := sx.isLt
  have h4 := m.isLt
  have h5 := x.isLt
  exact ⟨vector_slot u, by unfold lay28_16_11_5_3_0; omega⟩

theorem vshlX (u : VUnit) (g : BitVec 4) (d : BitVec 5) (a : BitVec 5) (sx : BitVec 6) (m : BitVec 2) (x : BitVec 3) : Statement (.vshlX u g d a sx m x) := by
  intro _ _ h
  cases h
  have h0 := g.isLt
  have h1 := d.isLt
  have h2 := a.isLt
  have h3 := sx.isLt
  have h4 := m.isLt
  have h5 := x.isLt
  exact ⟨vector_slot u, by unfold lay28_16_11_5_3_0; omega⟩

theorem vshrX (u : VUnit) (g : BitVec 4) (d : BitVec 5) (a : BitVec 5) (sx : BitVec 6) (m : BitVec 2) (x : BitVec 3) : Statement (.vshrX u g d a sx m x) := by
  intro _ _ h
  cases h
  have h0 := g.isLt
  have h1 := d.isLt
  have h2 := a.isLt
  have h3 := sx.isLt
  have h4 := m.isLt
  have h5 := x.isLt
  exact ⟨vector_slot u, by unfold lay28_16_11_5_3_0; omega⟩

theorem vsarX (u : VUnit) (g : BitVec 4) (d : BitVec 5) (a : BitVec 5) (sx : BitVec 6) (m : BitVec 2) (x : BitVec 3) : Statement (.vsarX u g d a sx m x) := by
  intro _ _ h
  cases h
  have h0 := g.isLt
  have h1 := d.isLt
  have h2 := a.isLt
  have h3 := sx.isLt
  have h4 := m.isLt
  have h5 := x.isLt
  exact ⟨vector_slot u, by unfold lay28_16_11_5_3_0; omega⟩

theorem vcmpEqX (u : VUnit) (g : BitVec 4) (d : BitVec 3) (a : BitVec 5) (sx : BitVec 6) (m : BitVec 2) (x : BitVec 3) : Statement (.vcmpEqX u g d a sx m x) := by
  intro _ _ h
  cases h
  have h0 := g.isLt
  have h1 := d.isLt
  have h2 := a.isLt
  have h3 := sx.isLt
  have h4 := m.isLt
  have h5 := x.isLt
  exact ⟨vector_slot u, by unfold lay28_16_11_5_3_0; omega⟩

theorem vcmpLtX (u : VUnit) (g : BitVec 4) (d : BitVec 3) (a : BitVec 5) (sx : BitVec 6) (m : BitVec 2) (x : BitVec 3) : Statement (.vcmpLtX u g d a sx m x) := by
  intro _ _ h
  cases h
  have h0 := g.isLt
  have h1 := d.isLt
  have h2 := a.isLt
  have h3 := sx.isLt
  have h4 := m.isLt
  have h5 := x.isLt
  exact ⟨vector_slot u, by unfold lay28_16_11_5_3_0; omega⟩

theorem vdup (u : VUnit) (g : BitVec 4) (d : BitVec 5) (a : BitVec 5) (sx : BitVec 6) (m : BitVec 2) (x : BitVec 3) : Statement (.vdup u g d a sx m x) := by
  intro _ _ h
  cases h
  have h0 := g.isLt
  have h1 := d.isLt
  have h2 := a.isLt
  have h3 := sx.isLt
  have h4 := m.isLt
  have h5 := x.isLt
  exact ⟨vector_slot u, by unfold lay28_16_11_5_3_0; omega⟩

theorem vins (u : VUnit) (g : BitVec 4) (d : BitVec 5) (a : BitVec 5) (sx : BitVec 6) (m : BitVec 2) (x : BitVec 3) : Statement (.vins u g d a sx m x) := by
  intro _ _ h
  cases h
  have h0 := g.isLt
  have h1 := d.isLt
  have h2 := a.isLt
  have h3 := sx.isLt
  have h4 := m.isLt
  have h5 := x.isLt
  exact ⟨vector_slot u, by unfold lay28_16_11_5_3_0; omega⟩

theorem vext (u : VUnit) (g : BitVec 4) (d : BitVec 3) (a : BitVec 5) (sx : BitVec 6) (m : BitVec 2) (x : BitVec 3) : Statement (.vext u g d a sx m x) := by
  intro _ _ h
  cases h
  have h0 := g.isLt
  have h1 := d.isLt
  have h2 := a.isLt
  have h3 := sx.isLt
  have h4 := m.isLt
  have h5 := x.isLt
  exact ⟨vector_slot u, by unfold lay28_16_11_5_3_0; omega⟩

theorem mand (u : VUnit) (g : BitVec 4) (d : BitVec 3) (a : BitVec 3) (b : BitVec 3) : Statement (.mand u g d a b) := by
  intro _ _ h
  cases h
  have h0 := g.isLt
  have h1 := d.isLt
  have h2 := a.isLt
  have h3 := b.isLt
  exact ⟨vector_slot u, by unfold lay28_16_11_6; omega⟩

theorem mor (u : VUnit) (g : BitVec 4) (d : BitVec 3) (a : BitVec 3) (b : BitVec 3) : Statement (.mor u g d a b) := by
  intro _ _ h
  cases h
  have h0 := g.isLt
  have h1 := d.isLt
  have h2 := a.isLt
  have h3 := b.isLt
  exact ⟨vector_slot u, by unfold lay28_16_11_6; omega⟩

theorem mxor (u : VUnit) (g : BitVec 4) (d : BitVec 3) (a : BitVec 3) (b : BitVec 3) : Statement (.mxor u g d a b) := by
  intro _ _ h
  cases h
  have h0 := g.isLt
  have h1 := d.isLt
  have h2 := a.isLt
  have h3 := b.isLt
  exact ⟨vector_slot u, by unfold lay28_16_11_6; omega⟩

theorem mandn (u : VUnit) (g : BitVec 4) (d : BitVec 3) (a : BitVec 3) (b : BitVec 3) : Statement (.mandn u g d a b) := by
  intro _ _ h
  cases h
  have h0 := g.isLt
  have h1 := d.isLt
  have h2 := a.isLt
  have h3 := b.isLt
  exact ⟨vector_slot u, by unfold lay28_16_11_6; omega⟩

theorem mpop (u : VUnit) (g : BitVec 4) (d : BitVec 3) (a : BitVec 3) : Statement (.mpop u g d a) := by
  intro _ _ h
  cases h
  have h0 := g.isLt
  have h1 := d.isLt
  have h2 := a.isLt
  exact ⟨vector_slot u, by unfold lay28_16_11; omega⟩

theorem mfirst (u : VUnit) (g : BitVec 4) (d : BitVec 3) (a : BitVec 3) : Statement (.mfirst u g d a) := by
  intro _ _ h
  cases h
  have h0 := g.isLt
  have h1 := d.isLt
  have h2 := a.isLt
  exact ⟨vector_slot u, by unfold lay28_16_11; omega⟩

theorem vsel (u : VUnit) (g : BitVec 4) (d : BitVec 5) (a : BitVec 5) (b : BitVec 5) (m : BitVec 3) : Statement (.vsel u g d a b m) := by
  intro _ _ h
  cases h
  have h0 := g.isLt
  have h1 := d.isLt
  have h2 := a.isLt
  have h3 := b.isLt
  have h4 := m.isLt
  exact ⟨vector_slot u, by unfold lay28_16_11_6_3; omega⟩

theorem vperm (u : VUnit) (g : BitVec 4) (d : BitVec 5) (a : BitVec 5) (b : BitVec 5) (m : BitVec 3) (x : BitVec 3) : Statement (.vperm u g d a b m x) := by
  intro _ _ h
  cases h
  have h0 := g.isLt
  have h1 := d.isLt
  have h2 := a.isLt
  have h3 := b.isLt
  have h4 := m.isLt
  have h5 := x.isLt
  exact ⟨vector_slot u, by unfold lay28_16_11_6_3_0; omega⟩

theorem vrotX (u : VUnit) (g : BitVec 4) (d : BitVec 5) (a : BitVec 5) (sx : BitVec 6) (m : BitVec 2) (x : BitVec 3) : Statement (.vrotX u g d a sx m x) := by
  intro _ _ h
  cases h
  have h0 := g.isLt
  have h1 := d.isLt
  have h2 := a.isLt
  have h3 := sx.isLt
  have h4 := m.isLt
  have h5 := x.isLt
  exact ⟨vector_slot u, by unfold lay28_16_11_5_3_0; omega⟩

theorem vzip (u : VUnit) (g : BitVec 4) (d : BitVec 5) (a : BitVec 5) (b : BitVec 5) (m : BitVec 3) (x : BitVec 3) : Statement (.vzip u g d a b m x) := by
  intro _ _ h
  cases h
  have h0 := g.isLt
  have h1 := d.isLt
  have h2 := a.isLt
  have h3 := b.isLt
  have h4 := m.isLt
  have h5 := x.isLt
  exact ⟨vector_slot u, by unfold lay28_16_11_6_3_0; omega⟩

theorem vunzip (u : VUnit) (g : BitVec 4) (d : BitVec 5) (a : BitVec 5) (b : BitVec 5) (m : BitVec 3) (x : BitVec 3) : Statement (.vunzip u g d a b m x) := by
  intro _ _ h
  cases h
  have h0 := g.isLt
  have h1 := d.isLt
  have h2 := a.isLt
  have h3 := b.isLt
  have h4 := m.isLt
  have h5 := x.isLt
  exact ⟨vector_slot u, by unfold lay28_16_11_6_3_0; omega⟩

theorem vcompress (u : VUnit) (g : BitVec 4) (d : BitVec 5) (a : BitVec 5) (b : BitVec 5) (m : BitVec 3) (x : BitVec 3) : Statement (.vcompress u g d a b m x) := by
  intro _ _ h
  cases h
  have h0 := g.isLt
  have h1 := d.isLt
  have h2 := a.isLt
  have h3 := b.isLt
  have h4 := m.isLt
  have h5 := x.isLt
  exact ⟨vector_slot u, by unfold lay28_16_11_6_3_0; omega⟩

theorem vexpand (u : VUnit) (g : BitVec 4) (d : BitVec 5) (a : BitVec 5) (b : BitVec 5) (m : BitVec 3) (x : BitVec 3) : Statement (.vexpand u g d a b m x) := by
  intro _ _ h
  cases h
  have h0 := g.isLt
  have h1 := d.isLt
  have h2 := a.isLt
  have h3 := b.isLt
  have h4 := m.isLt
  have h5 := x.isLt
  exact ⟨vector_slot u, by unfold lay28_16_11_6_3_0; omega⟩

theorem vidx (u : VUnit) (g : BitVec 4) (d : BitVec 5) (i : BitVec 8) (x : BitVec 3) : Statement (.vidx u g d i x) := by
  intro _ _ h
  cases h
  have h0 := g.isLt
  have h1 := d.isLt
  have h2 := i.isLt
  have h3 := x.isLt
  exact ⟨vector_slot u, by unfold lay28_16_3_0; omega⟩

theorem vredAdd (u : VUnit) (g : BitVec 4) (d : BitVec 5) (a : BitVec 5) (b : BitVec 5) (m : BitVec 3) (x : BitVec 3) : Statement (.vredAdd u g d a b m x) := by
  intro _ _ h
  cases h
  have h0 := g.isLt
  have h1 := d.isLt
  have h2 := a.isLt
  have h3 := b.isLt
  have h4 := m.isLt
  have h5 := x.isLt
  exact ⟨vector_slot u, by unfold lay28_16_11_6_3_0; omega⟩

theorem vredMax (u : VUnit) (g : BitVec 4) (d : BitVec 5) (a : BitVec 5) (b : BitVec 5) (m : BitVec 3) (x : BitVec 3) : Statement (.vredMax u g d a b m x) := by
  intro _ _ h
  cases h
  have h0 := g.isLt
  have h1 := d.isLt
  have h2 := a.isLt
  have h3 := b.isLt
  have h4 := m.isLt
  have h5 := x.isLt
  exact ⟨vector_slot u, by unfold lay28_16_11_6_3_0; omega⟩

theorem vredMin (u : VUnit) (g : BitVec 4) (d : BitVec 5) (a : BitVec 5) (b : BitVec 5) (m : BitVec 3) (x : BitVec 3) : Statement (.vredMin u g d a b m x) := by
  intro _ _ h
  cases h
  have h0 := g.isLt
  have h1 := d.isLt
  have h2 := a.isLt
  have h3 := b.isLt
  have h4 := m.isLt
  have h5 := x.isLt
  exact ⟨vector_slot u, by unfold lay28_16_11_6_3_0; omega⟩

theorem vscanAdd (u : VUnit) (g : BitVec 4) (d : BitVec 5) (a : BitVec 5) (b : BitVec 5) (m : BitVec 3) (x : BitVec 3) : Statement (.vscanAdd u g d a b m x) := by
  intro _ _ h
  cases h
  have h0 := g.isLt
  have h1 := d.isLt
  have h2 := a.isLt
  have h3 := b.isLt
  have h4 := m.isLt
  have h5 := x.isLt
  exact ⟨vector_slot u, by unfold lay28_16_11_6_3_0; omega⟩

theorem vmredAdd (u : VUnit) (g : BitVec 4) (d : BitVec 5) (a : BitVec 5) (b : BitVec 5) (m : BitVec 3) (x : BitVec 3) : Statement (.vmredAdd u g d a b m x) := by
  intro _ _ h
  cases h
  have h0 := g.isLt
  have h1 := d.isLt
  have h2 := a.isLt
  have h3 := b.isLt
  have h4 := m.isLt
  have h5 := x.isLt
  exact ⟨vector_slot u, by unfold lay28_16_11_6_3_0; omega⟩

theorem vmredMax (u : VUnit) (g : BitVec 4) (d : BitVec 5) (a : BitVec 5) (b : BitVec 5) (m : BitVec 3) (x : BitVec 3) : Statement (.vmredMax u g d a b m x) := by
  intro _ _ h
  cases h
  have h0 := g.isLt
  have h1 := d.isLt
  have h2 := a.isLt
  have h3 := b.isLt
  have h4 := m.isLt
  have h5 := x.isLt
  exact ⟨vector_slot u, by unfold lay28_16_11_6_3_0; omega⟩

theorem vmscanAdd (u : VUnit) (g : BitVec 4) (d : BitVec 5) (a : BitVec 5) (b : BitVec 5) (m : BitVec 3) (x : BitVec 3) : Statement (.vmscanAdd u g d a b m x) := by
  intro _ _ h
  cases h
  have h0 := g.isLt
  have h1 := d.isLt
  have h2 := a.isLt
  have h3 := b.isLt
  have h4 := m.isLt
  have h5 := x.isLt
  exact ⟨vector_slot u, by unfold lay28_16_11_6_3_0; omega⟩

theorem vmcount (u : VUnit) (g : BitVec 4) (d : BitVec 5) (a : BitVec 5) (b : BitVec 5) (m : BitVec 3) (x : BitVec 3) : Statement (.vmcount u g d a b m x) := by
  intro _ _ h
  cases h
  have h0 := g.isLt
  have h1 := d.isLt
  have h2 := a.isLt
  have h3 := b.isLt
  have h4 := m.isLt
  have h5 := x.isLt
  exact ⟨vector_slot u, by unfold lay28_16_11_6_3_0; omega⟩

theorem vfaddF (u : VUnit) (g : BitVec 4) (d : BitVec 5) (a : BitVec 5) (b : BitVec 5) (m : BitVec 3) (r : BitVec 3) : Statement (.vfaddF u g d a b m r) := by
  intro _ _ h
  cases h
  have h0 := g.isLt
  have h1 := d.isLt
  have h2 := a.isLt
  have h3 := b.isLt
  have h4 := m.isLt
  have h5 := r.isLt
  exact ⟨vector_slot u, by unfold lay28_16_11_6_3_0; omega⟩

theorem vfsubF (u : VUnit) (g : BitVec 4) (d : BitVec 5) (a : BitVec 5) (b : BitVec 5) (m : BitVec 3) (r : BitVec 3) : Statement (.vfsubF u g d a b m r) := by
  intro _ _ h
  cases h
  have h0 := g.isLt
  have h1 := d.isLt
  have h2 := a.isLt
  have h3 := b.isLt
  have h4 := m.isLt
  have h5 := r.isLt
  exact ⟨vector_slot u, by unfold lay28_16_11_6_3_0; omega⟩

theorem vfmulF (u : VUnit) (g : BitVec 4) (d : BitVec 5) (a : BitVec 5) (b : BitVec 5) (m : BitVec 3) (r : BitVec 3) : Statement (.vfmulF u g d a b m r) := by
  intro _ _ h
  cases h
  have h0 := g.isLt
  have h1 := d.isLt
  have h2 := a.isLt
  have h3 := b.isLt
  have h4 := m.isLt
  have h5 := r.isLt
  exact ⟨vector_slot u, by unfold lay28_16_11_6_3_0; omega⟩

theorem vffmaF (u : VUnit) (g : BitVec 4) (d : BitVec 5) (a : BitVec 5) (b : BitVec 5) (m : BitVec 3) (r : BitVec 3) : Statement (.vffmaF u g d a b m r) := by
  intro _ _ h
  cases h
  have h0 := g.isLt
  have h1 := d.isLt
  have h2 := a.isLt
  have h3 := b.isLt
  have h4 := m.isLt
  have h5 := r.isLt
  exact ⟨vector_slot u, by unfold lay28_16_11_6_3_0; omega⟩

theorem vfminF (u : VUnit) (g : BitVec 4) (d : BitVec 5) (a : BitVec 5) (b : BitVec 5) (m : BitVec 3) : Statement (.vfminF u g d a b m) := by
  intro _ _ h
  cases h
  have h0 := g.isLt
  have h1 := d.isLt
  have h2 := a.isLt
  have h3 := b.isLt
  have h4 := m.isLt
  exact ⟨vector_slot u, by unfold lay28_16_11_6_3; omega⟩

theorem vfmaxF (u : VUnit) (g : BitVec 4) (d : BitVec 5) (a : BitVec 5) (b : BitVec 5) (m : BitVec 3) : Statement (.vfmaxF u g d a b m) := by
  intro _ _ h
  cases h
  have h0 := g.isLt
  have h1 := d.isLt
  have h2 := a.isLt
  have h3 := b.isLt
  have h4 := m.isLt
  exact ⟨vector_slot u, by unfold lay28_16_11_6_3; omega⟩

theorem vfabsF (u : VUnit) (g : BitVec 4) (d : BitVec 5) (a : BitVec 5) (m : BitVec 3) : Statement (.vfabsF u g d a m) := by
  intro _ _ h
  cases h
  have h0 := g.isLt
  have h1 := d.isLt
  have h2 := a.isLt
  have h3 := m.isLt
  exact ⟨vector_slot u, by unfold lay28_16_11_3; omega⟩

theorem vfnegF (u : VUnit) (g : BitVec 4) (d : BitVec 5) (a : BitVec 5) (m : BitVec 3) : Statement (.vfnegF u g d a m) := by
  intro _ _ h
  cases h
  have h0 := g.isLt
  have h1 := d.isLt
  have h2 := a.isLt
  have h3 := m.isLt
  exact ⟨vector_slot u, by unfold lay28_16_11_3; omega⟩

theorem vfcmpEqF (u : VUnit) (g : BitVec 4) (d : BitVec 3) (a : BitVec 5) (b : BitVec 5) (m : BitVec 3) : Statement (.vfcmpEqF u g d a b m) := by
  intro _ _ h
  cases h
  have h0 := g.isLt
  have h1 := d.isLt
  have h2 := a.isLt
  have h3 := b.isLt
  have h4 := m.isLt
  exact ⟨vector_slot u, by unfold lay28_16_11_6_3; omega⟩

theorem vfcmpLtF (u : VUnit) (g : BitVec 4) (d : BitVec 3) (a : BitVec 5) (b : BitVec 5) (m : BitVec 3) : Statement (.vfcmpLtF u g d a b m) := by
  intro _ _ h
  cases h
  have h0 := g.isLt
  have h1 := d.isLt
  have h2 := a.isLt
  have h3 := b.isLt
  have h4 := m.isLt
  exact ⟨vector_slot u, by unfold lay28_16_11_6_3; omega⟩

theorem vfcmpLeF (u : VUnit) (g : BitVec 4) (d : BitVec 3) (a : BitVec 5) (b : BitVec 5) (m : BitVec 3) : Statement (.vfcmpLeF u g d a b m) := by
  intro _ _ h
  cases h
  have h0 := g.isLt
  have h1 := d.isLt
  have h2 := a.isLt
  have h3 := b.isLt
  have h4 := m.isLt
  exact ⟨vector_slot u, by unfold lay28_16_11_6_3; omega⟩

theorem vfcmpUnF (u : VUnit) (g : BitVec 4) (d : BitVec 3) (a : BitVec 5) (b : BitVec 5) (m : BitVec 3) : Statement (.vfcmpUnF u g d a b m) := by
  intro _ _ h
  cases h
  have h0 := g.isLt
  have h1 := d.isLt
  have h2 := a.isLt
  have h3 := b.isLt
  have h4 := m.isLt
  exact ⟨vector_slot u, by unfold lay28_16_11_6_3; omega⟩

theorem vfaddBf (u : VUnit) (g : BitVec 4) (d : BitVec 5) (a : BitVec 5) (b : BitVec 5) (m : BitVec 3) (r : BitVec 3) : Statement (.vfaddBf u g d a b m r) := by
  intro _ _ h
  cases h
  have h0 := g.isLt
  have h1 := d.isLt
  have h2 := a.isLt
  have h3 := b.isLt
  have h4 := m.isLt
  have h5 := r.isLt
  exact ⟨vector_slot u, by unfold lay28_16_11_6_3_0; omega⟩

theorem vfmulBf (u : VUnit) (g : BitVec 4) (d : BitVec 5) (a : BitVec 5) (b : BitVec 5) (m : BitVec 3) (r : BitVec 3) : Statement (.vfmulBf u g d a b m r) := by
  intro _ _ h
  cases h
  have h0 := g.isLt
  have h1 := d.isLt
  have h2 := a.isLt
  have h3 := b.isLt
  have h4 := m.isLt
  have h5 := r.isLt
  exact ⟨vector_slot u, by unfold lay28_16_11_6_3_0; omega⟩

theorem vffmaBf (u : VUnit) (g : BitVec 4) (d : BitVec 5) (a : BitVec 5) (b : BitVec 5) (m : BitVec 3) (r : BitVec 3) : Statement (.vffmaBf u g d a b m r) := by
  intro _ _ h
  cases h
  have h0 := g.isLt
  have h1 := d.isLt
  have h2 := a.isLt
  have h3 := b.isLt
  have h4 := m.isLt
  have h5 := r.isLt
  exact ⟨vector_slot u, by unfold lay28_16_11_6_3_0; omega⟩

theorem vfdotBf (u : VUnit) (g : BitVec 4) (d : BitVec 5) (a : BitVec 5) (b : BitVec 5) (m : BitVec 3) (r : BitVec 3) : Statement (.vfdotBf u g d a b m r) := by
  intro _ _ h
  cases h
  have h0 := g.isLt
  have h1 := d.isLt
  have h2 := a.isLt
  have h3 := b.isLt
  have h4 := m.isLt
  have h5 := r.isLt
  exact ⟨vector_slot u, by unfold lay28_16_11_6_3_0; omega⟩

theorem vcvtBfF (u : VUnit) (g : BitVec 4) (d : BitVec 5) (a : BitVec 5) (b : BitVec 5) (m : BitVec 3) (r : BitVec 3) : Statement (.vcvtBfF u g d a b m r) := by
  intro _ _ h
  cases h
  have h0 := g.isLt
  have h1 := d.isLt
  have h2 := a.isLt
  have h3 := b.isLt
  have h4 := m.isLt
  have h5 := r.isLt
  exact ⟨vector_slot u, by unfold lay28_16_11_6_3_0; omega⟩

theorem vcvtF16F (u : VUnit) (g : BitVec 4) (d : BitVec 5) (a : BitVec 5) (b : BitVec 5) (m : BitVec 3) (r : BitVec 3) : Statement (.vcvtF16F u g d a b m r) := by
  intro _ _ h
  cases h
  have h0 := g.isLt
  have h1 := d.isLt
  have h2 := a.isLt
  have h3 := b.isLt
  have h4 := m.isLt
  have h5 := r.isLt
  exact ⟨vector_slot u, by unfold lay28_16_11_6_3_0; omega⟩

theorem vcvtE4F (u : VUnit) (g : BitVec 4) (d : BitVec 5) (a : BitVec 5) (b : BitVec 5) (m : BitVec 3) (r : BitVec 3) : Statement (.vcvtE4F u g d a b m r) := by
  intro _ _ h
  cases h
  have h0 := g.isLt
  have h1 := d.isLt
  have h2 := a.isLt
  have h3 := b.isLt
  have h4 := m.isLt
  have h5 := r.isLt
  exact ⟨vector_slot u, by unfold lay28_16_11_6_3_0; omega⟩

theorem vcvtE5F (u : VUnit) (g : BitVec 4) (d : BitVec 5) (a : BitVec 5) (b : BitVec 5) (m : BitVec 3) (r : BitVec 3) : Statement (.vcvtE5F u g d a b m r) := by
  intro _ _ h
  cases h
  have h0 := g.isLt
  have h1 := d.isLt
  have h2 := a.isLt
  have h3 := b.isLt
  have h4 := m.isLt
  have h5 := r.isLt
  exact ⟨vector_slot u, by unfold lay28_16_11_6_3_0; omega⟩

theorem vcvtE2F (u : VUnit) (g : BitVec 4) (d : BitVec 5) (a : BitVec 5) (b : BitVec 5) (m : BitVec 3) (r : BitVec 3) : Statement (.vcvtE2F u g d a b m r) := by
  intro _ _ h
  cases h
  have h0 := g.isLt
  have h1 := d.isLt
  have h2 := a.isLt
  have h3 := b.isLt
  have h4 := m.isLt
  have h5 := r.isLt
  exact ⟨vector_slot u, by unfold lay28_16_11_6_3_0; omega⟩

theorem vcvtFBf (u : VUnit) (g : BitVec 4) (d : BitVec 5) (a : BitVec 5) (b : BitVec 5) (m : BitVec 3) (r : BitVec 3) : Statement (.vcvtFBf u g d a b m r) := by
  intro _ _ h
  cases h
  have h0 := g.isLt
  have h1 := d.isLt
  have h2 := a.isLt
  have h3 := b.isLt
  have h4 := m.isLt
  have h5 := r.isLt
  exact ⟨vector_slot u, by unfold lay28_16_11_6_3_0; omega⟩

theorem vcvtFF16 (u : VUnit) (g : BitVec 4) (d : BitVec 5) (a : BitVec 5) (b : BitVec 5) (m : BitVec 3) (r : BitVec 3) : Statement (.vcvtFF16 u g d a b m r) := by
  intro _ _ h
  cases h
  have h0 := g.isLt
  have h1 := d.isLt
  have h2 := a.isLt
  have h3 := b.isLt
  have h4 := m.isLt
  have h5 := r.isLt
  exact ⟨vector_slot u, by unfold lay28_16_11_6_3_0; omega⟩

theorem vcvtFE4 (u : VUnit) (g : BitVec 4) (d : BitVec 5) (a : BitVec 5) (b : BitVec 5) (m : BitVec 3) (r : BitVec 3) : Statement (.vcvtFE4 u g d a b m r) := by
  intro _ _ h
  cases h
  have h0 := g.isLt
  have h1 := d.isLt
  have h2 := a.isLt
  have h3 := b.isLt
  have h4 := m.isLt
  have h5 := r.isLt
  exact ⟨vector_slot u, by unfold lay28_16_11_6_3_0; omega⟩

theorem vcvtFE5 (u : VUnit) (g : BitVec 4) (d : BitVec 5) (a : BitVec 5) (b : BitVec 5) (m : BitVec 3) (r : BitVec 3) : Statement (.vcvtFE5 u g d a b m r) := by
  intro _ _ h
  cases h
  have h0 := g.isLt
  have h1 := d.isLt
  have h2 := a.isLt
  have h3 := b.isLt
  have h4 := m.isLt
  have h5 := r.isLt
  exact ⟨vector_slot u, by unfold lay28_16_11_6_3_0; omega⟩

theorem vcvtFE2 (u : VUnit) (g : BitVec 4) (d : BitVec 5) (a : BitVec 5) (b : BitVec 5) (m : BitVec 3) (r : BitVec 3) : Statement (.vcvtFE2 u g d a b m r) := by
  intro _ _ h
  cases h
  have h0 := g.isLt
  have h1 := d.isLt
  have h2 := a.isLt
  have h3 := b.isLt
  have h4 := m.isLt
  have h5 := r.isLt
  exact ⟨vector_slot u, by unfold lay28_16_11_6_3_0; omega⟩

theorem vcvtWF (u : VUnit) (g : BitVec 4) (d : BitVec 5) (a : BitVec 5) (b : BitVec 5) (m : BitVec 3) (r : BitVec 3) : Statement (.vcvtWF u g d a b m r) := by
  intro _ _ h
  cases h
  have h0 := g.isLt
  have h1 := d.isLt
  have h2 := a.isLt
  have h3 := b.isLt
  have h4 := m.isLt
  have h5 := r.isLt
  exact ⟨vector_slot u, by unfold lay28_16_11_6_3_0; omega⟩

theorem vcvtFW (u : VUnit) (g : BitVec 4) (d : BitVec 5) (a : BitVec 5) (b : BitVec 5) (m : BitVec 3) (r : BitVec 3) : Statement (.vcvtFW u g d a b m r) := by
  intro _ _ h
  cases h
  have h0 := g.isLt
  have h1 := d.isLt
  have h2 := a.isLt
  have h3 := b.isLt
  have h4 := m.isLt
  have h5 := r.isLt
  exact ⟨vector_slot u, by unfold lay28_16_11_6_3_0; omega⟩

theorem vcvtBF (u : VUnit) (g : BitVec 4) (d : BitVec 5) (a : BitVec 5) (b : BitVec 5) (m : BitVec 3) (r : BitVec 3) : Statement (.vcvtBF u g d a b m r) := by
  intro _ _ h
  cases h
  have h0 := g.isLt
  have h1 := d.isLt
  have h2 := a.isLt
  have h3 := b.isLt
  have h4 := m.isLt
  have h5 := r.isLt
  exact ⟨vector_slot u, by unfold lay28_16_11_6_3_0; omega⟩

theorem vcvtE4FSat (u : VUnit) (g : BitVec 4) (d : BitVec 5) (a : BitVec 5) (b : BitVec 5) (m : BitVec 3) (r : BitVec 3) : Statement (.vcvtE4FSat u g d a b m r) := by
  intro _ _ h
  cases h
  have h0 := g.isLt
  have h1 := d.isLt
  have h2 := a.isLt
  have h3 := b.isLt
  have h4 := m.isLt
  have h5 := r.isLt
  exact ⟨vector_slot u, by unfold lay28_16_11_6_3_0; omega⟩

theorem vcvtE5FSat (u : VUnit) (g : BitVec 4) (d : BitVec 5) (a : BitVec 5) (b : BitVec 5) (m : BitVec 3) (r : BitVec 3) : Statement (.vcvtE5FSat u g d a b m r) := by
  intro _ _ h
  cases h
  have h0 := g.isLt
  have h1 := d.isLt
  have h2 := a.isLt
  have h3 := b.isLt
  have h4 := m.isLt
  have h5 := r.isLt
  exact ⟨vector_slot u, by unfold lay28_16_11_6_3_0; omega⟩

theorem vpackH (u : VUnit) (g : BitVec 4) (d : BitVec 5) (a : BitVec 5) (b : BitVec 5) (m : BitVec 3) : Statement (.vpackH u g d a b m) := by
  intro _ _ h
  cases h
  have h0 := g.isLt
  have h1 := d.isLt
  have h2 := a.isLt
  have h3 := b.isLt
  have h4 := m.isLt
  exact ⟨vector_slot u, by unfold lay28_16_11_6_3; omega⟩

theorem vpackB (u : VUnit) (g : BitVec 4) (d : BitVec 5) (a : BitVec 5) (b : BitVec 5) (m : BitVec 3) : Statement (.vpackB u g d a b m) := by
  intro _ _ h
  cases h
  have h0 := g.isLt
  have h1 := d.isLt
  have h2 := a.isLt
  have h3 := b.isLt
  have h4 := m.isLt
  exact ⟨vector_slot u, by unfold lay28_16_11_6_3; omega⟩

theorem vpackN (u : VUnit) (g : BitVec 4) (d : BitVec 5) (a : BitVec 5) (b : BitVec 5) (m : BitVec 3) : Statement (.vpackN u g d a b m) := by
  intro _ _ h
  cases h
  have h0 := g.isLt
  have h1 := d.isLt
  have h2 := a.isLt
  have h3 := b.isLt
  have h4 := m.isLt
  exact ⟨vector_slot u, by unfold lay28_16_11_6_3; omega⟩

theorem vunpkLo (u : VUnit) (g : BitVec 4) (d : BitVec 5) (a : BitVec 5) (t : BitVec 5) (m : BitVec 3) : Statement (.vunpkLo u g d a t m) := by
  intro _ _ h
  cases h
  have h0 := g.isLt
  have h1 := d.isLt
  have h2 := a.isLt
  have h3 := t.isLt
  have h4 := m.isLt
  exact ⟨vector_slot u, by unfold lay28_16_11_6_3; omega⟩

theorem vunpkHi (u : VUnit) (g : BitVec 4) (d : BitVec 5) (a : BitVec 5) (t : BitVec 5) (m : BitVec 3) : Statement (.vunpkHi u g d a t m) := by
  intro _ _ h
  cases h
  have h0 := g.isLt
  have h1 := d.isLt
  have h2 := a.isLt
  have h3 := t.isLt
  have h4 := m.isLt
  exact ⟨vector_slot u, by unfold lay28_16_11_6_3; omega⟩

theorem vbexp (u : VUnit) (g : BitVec 4) (d : BitVec 5) (a : BitVec 5) (m : BitVec 3) : Statement (.vbexp u g d a m) := by
  intro _ _ h
  cases h
  have h0 := g.isLt
  have h1 := d.isLt
  have h2 := a.isLt
  have h3 := m.isLt
  exact ⟨vector_slot u, by unfold lay28_16_11_3; omega⟩

theorem vscalb (u : VUnit) (g : BitVec 4) (d : BitVec 5) (a : BitVec 5) (i : BitVec 8) (r : BitVec 3) : Statement (.vscalb u g d a i r) := by
  intro _ _ h
  cases h
  have h0 := g.isLt
  have h1 := d.isLt
  have h2 := a.isLt
  have h3 := i.isLt
  have h4 := r.isLt
  exact ⟨vector_slot u, by unfold lay28_16_11_3_0; omega⟩

theorem vexp2 (u : VUnit) (g : BitVec 4) (d : BitVec 5) (a : BitVec 5) (b : BitVec 5) (m : BitVec 3) (r : BitVec 3) : Statement (.vexp2 u g d a b m r) := by
  intro _ _ h
  cases h
  have h0 := g.isLt
  have h1 := d.isLt
  have h2 := a.isLt
  have h3 := b.isLt
  have h4 := m.isLt
  have h5 := r.isLt
  exact ⟨vector_slot u, by unfold lay28_16_11_6_3_0; omega⟩

theorem vlog2 (u : VUnit) (g : BitVec 4) (d : BitVec 5) (a : BitVec 5) (b : BitVec 5) (m : BitVec 3) (r : BitVec 3) : Statement (.vlog2 u g d a b m r) := by
  intro _ _ h
  cases h
  have h0 := g.isLt
  have h1 := d.isLt
  have h2 := a.isLt
  have h3 := b.isLt
  have h4 := m.isLt
  have h5 := r.isLt
  exact ⟨vector_slot u, by unfold lay28_16_11_6_3_0; omega⟩

theorem vrcp (u : VUnit) (g : BitVec 4) (d : BitVec 5) (a : BitVec 5) (b : BitVec 5) (m : BitVec 3) (r : BitVec 3) : Statement (.vrcp u g d a b m r) := by
  intro _ _ h
  cases h
  have h0 := g.isLt
  have h1 := d.isLt
  have h2 := a.isLt
  have h3 := b.isLt
  have h4 := m.isLt
  have h5 := r.isLt
  exact ⟨vector_slot u, by unfold lay28_16_11_6_3_0; omega⟩

theorem vrsqrt (u : VUnit) (g : BitVec 4) (d : BitVec 5) (a : BitVec 5) (b : BitVec 5) (m : BitVec 3) (r : BitVec 3) : Statement (.vrsqrt u g d a b m r) := by
  intro _ _ h
  cases h
  have h0 := g.isLt
  have h1 := d.isLt
  have h2 := a.isLt
  have h3 := b.isLt
  have h4 := m.isLt
  have h5 := r.isLt
  exact ⟨vector_slot u, by unfold lay28_16_11_6_3_0; omega⟩

theorem vsqrt (u : VUnit) (g : BitVec 4) (d : BitVec 5) (a : BitVec 5) (b : BitVec 5) (m : BitVec 3) (r : BitVec 3) : Statement (.vsqrt u g d a b m r) := by
  intro _ _ h
  cases h
  have h0 := g.isLt
  have h1 := d.isLt
  have h2 := a.isLt
  have h3 := b.isLt
  have h4 := m.isLt
  have h5 := r.isLt
  exact ⟨vector_slot u, by unfold lay28_16_11_6_3_0; omega⟩

theorem mparmLo (g : BitVec 4) (p : BitVec 3) (sx : BitVec 6) : Statement (.mparmLo g p sx) := by
  intro _ _ h
  cases h
  have h0 := g.isLt
  have h1 := p.isLt
  have h2 := sx.isLt
  exact ⟨by decide, by unfold lay28_18_12; omega⟩

theorem mparmHi (g : BitVec 4) (p : BitVec 3) (sx : BitVec 6) : Statement (.mparmHi g p sx) := by
  intro _ _ h
  cases h
  have h0 := g.isLt
  have h1 := p.isLt
  have h2 := sx.isLt
  exact ⟨by decide, by unfold lay28_18_12; omega⟩

theorem mcall (g : BitVec 4) (r : BitVec 8) (b : BitVec 7) (n : BitVec 1) : Statement (.mcall g r b n) := by
  intro _ _ h
  cases h
  have h0 := g.isLt
  have h1 := r.isLt
  have h2 := b.isLt
  have h3 := n.isLt
  exact ⟨by decide, by unfold lay28_13_6_0; omega⟩

theorem mswap (g : BitVec 4) (b : BitVec 7) (n : BitVec 1) : Statement (.mswap g b n) := by
  intro _ _ h
  cases h
  have h0 := g.isLt
  have h1 := b.isLt
  have h2 := n.isLt
  exact ⟨by decide, by unfold lay28_6_0; omega⟩

theorem tcfg (g : BitVec 4) (t : BitVec 3) (sx : BitVec 6) : Statement (.tcfg g t sx) := by
  intro _ _ h
  cases h
  have h0 := g.isLt
  have h1 := t.isLt
  have h2 := sx.isLt
  exact ⟨by decide, by unfold lay28_18_12; omega⟩

theorem tzero (g : BitVec 4) (t : BitVec 3) : Statement (.tzero g t) := by
  intro _ _ h
  cases h
  have h0 := g.isLt
  have h1 := t.isLt
  exact ⟨by decide, by unfold lay28_18; omega⟩

theorem trowW (g : BitVec 4) (v : BitVec 5) (t : BitVec 3) (i : BitVec 8) (e : BitVec 2) : Statement (.trowW g v t i e) := by
  intro _ _ h
  cases h
  have h0 := g.isLt
  have h1 := v.isLt
  have h2 := t.isLt
  have h3 := i.isLt
  have h4 := e.isLt
  exact ⟨by decide, by unfold lay28_16_13_5_3; omega⟩

theorem trowR (g : BitVec 4) (v : BitVec 5) (t : BitVec 3) (i : BitVec 8) (e : BitVec 2) : Statement (.trowR g v t i e) := by
  intro _ _ h
  cases h
  have h0 := g.isLt
  have h1 := v.isLt
  have h2 := t.isLt
  have h3 := i.isLt
  have h4 := e.isLt
  exact ⟨by decide, by unfold lay28_16_13_5_3; omega⟩

theorem tcolW (g : BitVec 4) (v : BitVec 5) (t : BitVec 3) (i : BitVec 8) (e : BitVec 2) : Statement (.tcolW g v t i e) := by
  intro _ _ h
  cases h
  have h0 := g.isLt
  have h1 := v.isLt
  have h2 := t.isLt
  have h3 := i.isLt
  have h4 := e.isLt
  exact ⟨by decide, by unfold lay28_16_13_5_3; omega⟩

theorem tcolR (g : BitVec 4) (v : BitVec 5) (t : BitVec 3) (i : BitVec 8) (e : BitVec 2) : Statement (.tcolR g v t i e) := by
  intro _ _ h
  cases h
  have h0 := g.isLt
  have h1 := v.isLt
  have h2 := t.isLt
  have h3 := i.isLt
  have h4 := e.isLt
  exact ⟨by decide, by unfold lay28_16_13_5_3; omega⟩

theorem mstat (g : BitVec 4) (k : BitVec 3) : Statement (.mstat g k) := by
  intro _ _ h
  cases h
  have h0 := g.isLt
  have h1 := k.isLt
  exact ⟨by decide, by unfold lay28_18; omega⟩

theorem tdrop (g : BitVec 4) (t : BitVec 3) : Statement (.tdrop g t) := by
  intro _ _ h
  cases h
  have h0 := g.isLt
  have h1 := t.isLt
  exact ⟨by decide, by unfold lay28_18; omega⟩

theorem spush (g : BitVec 4) (qx : BitVec 5) (sx : BitVec 6) : Statement (.spush g qx sx) := by
  intro _ _ h
  cases h
  have h0 := g.isLt
  have h1 := qx.isLt
  have h2 := sx.isLt
  exact ⟨by decide, by unfold lay28_16_10; omega⟩

theorem spushv (g : BitVec 4) (qx : BitVec 5) (v : BitVec 5) (m : BitVec 3) : Statement (.spushv g qx v m) := by
  intro _ _ h
  cases h
  have h0 := g.isLt
  have h1 := qx.isLt
  have h2 := v.isLt
  have h3 := m.isLt
  exact ⟨by decide, by unfold lay28_16_11_8; omega⟩

theorem spop (g : BitVec 4) (qx : BitVec 5) (sx : BitVec 6) : Statement (.spop g qx sx) := by
  intro _ _ h
  cases h
  have h0 := g.isLt
  have h1 := qx.isLt
  have h2 := sx.isLt
  exact ⟨by decide, by unfold lay28_16_10; omega⟩

theorem spopv (g : BitVec 4) (qx : BitVec 5) (v : BitVec 5) (m : BitVec 3) : Statement (.spopv g qx v m) := by
  intro _ _ h
  cases h
  have h0 := g.isLt
  have h1 := qx.isLt
  have h2 := v.isLt
  have h3 := m.isLt
  exact ⟨by decide, by unfold lay28_16_11_8; omega⟩

theorem scard (g : BitVec 4) (qx : BitVec 5) (sx : BitVec 6) : Statement (.scard g qx sx) := by
  intro _ _ h
  cases h
  have h0 := g.isLt
  have h1 := qx.isLt
  have h2 := sx.isLt
  exact ⟨by decide, by unfold lay28_16_10; omega⟩

theorem sroute (g : BitVec 4) (qx : BitVec 5) (sx : BitVec 6) (c : BitVec 10) : Statement (.sroute g qx sx c) := by
  intro _ _ h
  cases h
  have h0 := g.isLt
  have h1 := qx.isLt
  have h2 := sx.isLt
  have h3 := c.isLt
  exact ⟨by decide, by unfold lay28_16_10_0; omega⟩

theorem sstat (g : BitVec 4) (qx : BitVec 5) (sx : BitVec 6) : Statement (.sstat g qx sx) := by
  intro _ _ h
  cases h
  have h0 := g.isLt
  have h1 := qx.isLt
  have h2 := sx.isLt
  exact ⟨by decide, by unfold lay28_16_10; omega⟩

theorem sacc (g : BitVec 4) (i : BitVec 5) (v : BitVec 5) (o : BitVec 4) (m : BitVec 3) (d : BitVec 1) : Statement (.sacc g i v o m d) := by
  intro _ _ h
  cases h
  have h0 := g.isLt
  have h1 := i.isLt
  have h2 := v.isLt
  have h3 := o.isLt
  have h4 := m.isLt
  have h5 := d.isLt
  exact ⟨by decide, by unfold lay28_16_11_7_4_3; omega⟩

theorem sflush (g : BitVec 4) : Statement (.sflush g) := by
  intro _ _ h
  cases h
  have h0 := g.isLt
  exact ⟨by decide, by unfold lay28; omega⟩

theorem swsub (g : BitVec 4) (qx : BitVec 5) (sx : BitVec 6) (n : BitVec 4) : Statement (.swsub g qx sx n) := by
  intro _ _ h
  cases h
  have h0 := g.isLt
  have h1 := qx.isLt
  have h2 := sx.isLt
  have h3 := n.isLt
  exact ⟨by decide, by unfold lay28_16_10_0; omega⟩

theorem swjoin (g : BitVec 4) (qx : BitVec 5) (sx : BitVec 6) (n : BitVec 4) : Statement (.swjoin g qx sx n) := by
  intro _ _ h
  cases h
  have h0 := g.isLt
  have h1 := qx.isLt
  have h2 := sx.isLt
  have h3 := n.isLt
  exact ⟨by decide, by unfold lay28_16_10_0; omega⟩

theorem swpop (g : BitVec 4) (sx : BitVec 6) : Statement (.swpop g sx) := by
  intro _ _ h
  cases h
  have h0 := g.isLt
  have h1 := sx.isLt
  exact ⟨by decide, by unfold lay28_10; omega⟩

theorem swdone (g : BitVec 4) (sx : BitVec 6) : Statement (.swdone g sx) := by
  intro _ _ h
  cases h
  have h0 := g.isLt
  have h1 := sx.isLt
  exact ⟨by decide, by unfold lay28_10; omega⟩

theorem mgpush (g : BitVec 4) (v : BitVec 5) (m : BitVec 3) : Statement (.mgpush g v m) := by
  intro _ _ h
  cases h
  have h0 := g.isLt
  have h1 := v.isLt
  have h2 := m.isLt
  exact ⟨by decide, by unfold lay28_11_8; omega⟩

theorem mgpop (g : BitVec 4) (v : BitVec 5) (m : BitVec 3) : Statement (.mgpop g v m) := by
  intro _ _ h
  cases h
  have h0 := g.isLt
  have h1 := v.isLt
  have h2 := m.isLt
  exact ⟨by decide, by unfold lay28_11_8; omega⟩

theorem bundleIssue (c : Nat) : Statement (.bundleIssue c) := by
  intro k w h
  cases h

theorem bundleSkip (c : Nat) : Statement (.bundleSkip c) := by
  intro k w h
  cases h

theorem segmentExpand (c : Nat) : Statement (.segmentExpand c) := by
  intro k w h
  cases h

theorem loopClose (c : Nat) : Statement (.loopClose c) := by
  intro k w h
  cases h

theorem bivouac (c : Nat) : Statement (.bivouac c) := by
  intro k w h
  cases h

theorem parkWake (kid : Nat) (ix : Nat) : Statement (.parkWake kid ix) := by
  intro k w h
  cases h

theorem parkTimeout (kid : Nat) (ix : Nat) : Statement (.parkTimeout kid ix) := by
  intro k w h
  cases h

theorem cairnPickup (c : Nat) (kid : Nat) (ix : Nat) : Statement (.cairnPickup c kid ix) := by
  intro k w h
  cases h

theorem priorityAging (kid : Nat) (ix : Nat) : Statement (.priorityAging kid ix) := by
  intro k w h
  cases h

theorem phaseStart (kid : Nat) : Statement (.phaseStart kid) := by
  intro k w h
  cases h

theorem summitExchange (kid : Nat) : Statement (.summitExchange kid) := by
  intro k w h
  cases h

theorem ropeClose (c : Nat) : Statement (.ropeClose c) := by
  intro k w h
  cases h

theorem preemptGrant (c : Nat) : Statement (.preemptGrant c) := by
  intro k w h
  cases h

theorem preemptOverrun (c : Nat) : Statement (.preemptOverrun c) := by
  intro k w h
  cases h

theorem timingEvent (c : Nat) : Statement (.timingEvent c) := by
  intro k w h
  cases h

theorem supplySettled (c : Nat) : Statement (.supplySettled c) := by
  intro k w h
  cases h

theorem marginWindowEnd (c : Nat) : Statement (.marginWindowEnd c) := by
  intro k w h
  cases h

theorem quarantine (c : Nat) : Statement (.quarantine c) := by
  intro k w h
  cases h

theorem softError (c : Nat) : Statement (.softError c) := by
  intro k w h
  cases h

theorem controlRegisterUpset (c : Nat) (what : UpsetTarget) : Statement (.controlRegisterUpset c what) := by
  intro k w h
  cases h

theorem verticalWireFailure (c : Nat) (twr : Nat) (bus : Nat) (col : Nat) : Statement (.verticalWireFailure c twr bus col) := by
  intro k w h
  cases h

theorem towerMove (c : Nat) (twr : Nat) : Statement (.towerMove c twr) := by
  intro k w h
  cases h

theorem refreshPending (c : Nat) (twr : Nat) : Statement (.refreshPending c twr) := by
  intro k w h
  cases h

theorem refreshPassStart (c : Nat) (twr : Nat) : Statement (.refreshPassStart c twr) := by
  intro k w h
  cases h

theorem refreshPassEnd (c : Nat) (twr : Nat) : Statement (.refreshPassEnd c twr) := by
  intro k w h
  cases h

theorem deferralExpiry (c : Nat) : Statement (.deferralExpiry c) := by
  intro k w h
  cases h

theorem forcedPass (c : Nat) : Statement (.forcedPass c) := by
  intro k w h
  cases h

theorem temperatureChange (band : TempBand) : Statement (.temperatureChange band) := by
  intro k w h
  cases h

theorem popRelease (c : Nat) : Statement (.popRelease c) := by
  intro k w h
  cases h

theorem pushRoom (c : Nat) : Statement (.pushRoom c) := by
  intro k w h
  cases h

theorem barwaitRelease (c : Nat) : Statement (.barwaitRelease c) := by
  intro k w h
  cases h

theorem drainRelease (c : Nat) : Statement (.drainRelease c) := by
  intro k w h
  cases h

theorem sysRingRoom (c : Nat) : Statement (.sysRingRoom c) := by
  intro k w h
  cases h

theorem matrixQueueRoom (c : Nat) : Statement (.matrixQueueRoom c) := by
  intro k w h
  cases h

theorem tileHoldRelease (c : Nat) : Statement (.tileHoldRelease c) := by
  intro k w h
  cases h

theorem tshSourceRelease (c : Nat) : Statement (.tshSourceRelease c) := by
  intro k w h
  cases h

theorem cardRead (c : Nat) (fifo : Nat) : Statement (.cardRead c fifo) := by
  intro k w h
  cases h

theorem copyCard (c : Nat) (fifo : Nat) : Statement (.copyCard c fifo) := by
  intro k w h
  cases h

theorem gatherCard (c : Nat) (fifo : Nat) : Statement (.gatherCard c fifo) := by
  intro k w h
  cases h

theorem transposeCard (c : Nat) (fifo : Nat) : Statement (.transposeCard c fifo) := by
  intro k w h
  cases h

theorem multicastCard (c : Nat) (fifo : Nat) : Statement (.multicastCard c fifo) := by
  intro k w h
  cases h

theorem bankfillCard (c : Nat) (fifo : Nat) : Statement (.bankfillCard c fifo) := by
  intro k w h
  cases h

theorem offloadCard (c : Nat) (fifo : Nat) : Statement (.offloadCard c fifo) := by
  intro k w h
  cases h

theorem reloadCard (c : Nat) (fifo : Nat) : Statement (.reloadCard c fifo) := by
  intro k w h
  cases h

theorem decompCard (c : Nat) (fifo : Nat) : Statement (.decompCard c fifo) := by
  intro k w h
  cases h

theorem cardReport (c : Nat) (fifo : Nat) : Statement (.cardReport c fifo) := by
  intro k w h
  cases h

theorem switchHop (c : Nat) (fifo : Nat) : Statement (.switchHop c fifo) := by
  intro k w h
  cases h

theorem clusterStall (cl : Nat) : Statement (.clusterStall cl) := by
  intro k w h
  cases h

theorem mma (c : Nat) : Statement (.mma c) := by
  intro k w h
  cases h

theorem mmo (c : Nat) : Statement (.mmo c) := by
  intro k w h
  cases h

theorem mmaMx (c : Nat) : Statement (.mmaMx c) := by
  intro k w h
  cases h

theorem tstore (c : Nat) : Statement (.tstore c) := by
  intro k w h
  cases h

theorem tload (c : Nat) : Statement (.tload c) := by
  intro k w h
  cases h

theorem vendorRoutine (c : Nat) : Statement (.vendorRoutine c) := by
  intro k w h
  cases h

theorem routineStep (c : Nat) : Statement (.routineStep c) := by
  intro k w h
  cases h

theorem routineComplete (c : Nat) : Statement (.routineComplete c) := by
  intro k w h
  cases h

theorem swapComplete (c : Nat) : Statement (.swapComplete c) := by
  intro k w h
  cases h

theorem matrixUnitClaim (c : Nat) : Statement (.matrixUnitClaim c) := by
  intro k w h
  cases h

theorem tileLazyLoad (c : Nat) (tile : Nat) : Statement (.tileLazyLoad c tile) := by
  intro k w h
  cases h

theorem powerAlarmRaise : Statement (.powerAlarmRaise) := by
  intro k w h
  cases h

theorem powerAlarmClear : Statement (.powerAlarmClear) := by
  intro k w h
  cases h

theorem accumulateArrival (c : Nat) : Statement (.accumulateArrival c) := by
  intro k w h
  cases h

theorem sflushArrival (c : Nat) : Statement (.sflushArrival c) := by
  intro k w h
  cases h

theorem subscription (c : Nat) : Statement (.subscription c) := by
  intro k w h
  cases h

theorem pageIssue (kid : Nat) (swid : Nat) (page : Nat) : Statement (.pageIssue kid swid page) := by
  intro k w h
  cases h

theorem pageLanding (kid : Nat) (swid : Nat) (c : Nat) : Statement (.pageLanding kid swid c) := by
  intro k w h
  cases h

theorem partialCombine (c : Nat) (qslot : Nat) : Statement (.partialCombine c qslot) := by
  intro k w h
  cases h

theorem poolEntryFree (c : Nat) : Statement (.poolEntryFree c) := by
  intro k w h
  cases h

theorem qnotify (pn : Nat) (qn : Nat) (cnt : Nat) : Statement (.qnotify pn qn cnt) := by
  intro k w h
  cases h

theorem queueScanTimer (pn : Nat) : Statement (.queueScanTimer pn) := by
  intro k w h
  cases h

theorem shadowWrite (pn : Nat) (qn : Nat) : Statement (.shadowWrite pn qn) := by
  intro k w h
  cases h

theorem qridxResync (pn : Nat) (qn : Nat) : Statement (.qridxResync pn qn) := by
  intro k w h
  cases h

theorem qstatHaltClear (pn : Nat) (qn : Nat) : Statement (.qstatHaltClear pn qn) := by
  intro k w h
  cases h

theorem launchP (pn : Nat) (qn : Nat) : Statement (.launchP pn qn) := by
  intro k w h
  cases h

theorem signalP (pn : Nat) (qn : Nat) : Statement (.signalP pn qn) := by
  intro k w h
  cases h

theorem waitP (pn : Nat) (qn : Nat) : Statement (.waitP pn qn) := by
  intro k w h
  cases h

theorem waitTimeout (pn : Nat) (qn : Nat) : Statement (.waitTimeout pn qn) := by
  intro k w h
  cases h

theorem markerP (pn : Nat) (qn : Nat) : Statement (.markerP pn qn) := by
  intro k w h
  cases h

theorem nopPacket (pn : Nat) (qn : Nat) : Statement (.nopPacket pn qn) := by
  intro k w h
  cases h

theorem packetAging (pn : Nat) (qn : Nat) : Statement (.packetAging pn qn) := by
  intro k w h
  cases h

theorem kernelCompletion (kid : Nat) : Statement (.kernelCompletion kid) := by
  intro k w h
  cases h

theorem partitionReset (pn : Nat) : Statement (.partitionReset pn) := by
  intro k w h
  cases h

theorem unitLoss (unit : LostUnit) : Statement (.unitLoss unit) := by
  intro k w h
  cases h

theorem translationWalk (req : WalkRequest) : Statement (.translationWalk req) := by
  intro k w h
  cases h

theorem frespWalkAgain (pn : Nat) (ent : Nat) : Statement (.frespWalkAgain pn ent) := by
  intro k w h
  cases h

theorem frespFail (pn : Nat) (ent : Nat) : Statement (.frespFail pn ent) := by
  intro k w h
  cases h

theorem faultTimeout (pn : Nat) (ent : Nat) : Statement (.faultTimeout pn ent) := by
  intro k w h
  cases h

theorem tictlGo (pn : Nat) (word : Nat) : Statement (.tictlGo pn word) := by
  intro k w h
  cases h

theorem invalidationAck (pn : Nat) : Statement (.invalidationAck pn) := by
  intro k w h
  cases h

theorem backgroundFill (va : Nat) (asid : Nat) : Statement (.backgroundFill va asid) := by
  intro k w h
  cases h

theorem flitReceive (port : Nat) (flit : Flit) : Statement (.flitReceive port flit) := by
  intro k w h
  cases h

theorem ridgePacketReceive (pkt : RidgePacket) : Statement (.ridgePacketReceive pkt) := by
  intro k w h
  cases h

theorem linkDead (port : Nat) : Statement (.linkDead port) := by
  intro k w h
  cases h

theorem pathLossTimeout (modn : Nat) : Statement (.pathLossTimeout modn) := by
  intro k w h
  cases h

theorem ingestWrite (win : Nat) (off : Nat) (data : (List Byte)) (poisoned : Bool) : Statement (.ingestWrite win off data poisoned) := by
  intro k w h
  cases h

theorem wclose (win : Nat) (tag : Nat) : Statement (.wclose win tag) := by
  intro k w h
  cases h

theorem frameDescriptor (win : Nat) : Statement (.frameDescriptor win) := by
  intro k w h
  cases h

theorem wcfgEnable (win : Nat) (word : Nat) : Statement (.wcfgEnable win word) := by
  intro k w h
  cases h

theorem apertureAccess (pn : Nat) (off : Nat) (data : (Option (List Byte))) (size : Nat) (poisoned : Bool) : Statement (.apertureAccess pn off data size poisoned) := by
  intro k w h
  cases h

theorem registerWrite (pn : Nat) (off : Nat) (word : Nat) : Statement (.registerWrite pn off word) := by
  intro k w h
  cases h

theorem powerOn : Statement (.powerOn) := by
  intro k w h
  cases h

theorem moduleReset : Statement (.moduleReset) := by
  intro k w h
  cases h

theorem configOp (arg : (List Byte)) : Statement (.configOp arg) := by
  intro k w h
  cases h

theorem routineOp (arg : (List Byte)) : Statement (.routineOp arg) := by
  intro k w h
  cases h

theorem attestOp (arg : (List Byte)) : Statement (.attestOp arg) := by
  intro k w h
  cases h

theorem unloadOp (arg : (List Byte)) : Statement (.unloadOp arg) := by
  intro k w h
  cases h

theorem doubleBitError (loc : ErrorSite) : Statement (.doubleBitError loc) := by
  intro k w h
  cases h

theorem configurationRequest (fn : Nat) (reg : Nat) (data : (Option Nat)) : Statement (.configurationRequest fn reg data) := by
  intro k w h
  cases h

theorem i3cManagement (msg : I3CMessage) : Statement (.i3cManagement msg) := by
  intro k w h
  cases h

theorem badOp (op : Nat) (len : Nat) : Statement (.badOp op len) := by
  intro k w h
  cases h

end Sys2Proof.Laws.F
end

