-- ==== Sys2Proof/Laws/Sites.lean ====
section
/-!
SUPPORT. The orders that self-test chooses, and what they give: the clusters that are mapped out and the
physical cluster of each logical one.
-/
namespace Sys2Proof.Machine

theorem nodup_eraseDups (l : List Nat) : l.eraseDups.Nodup := by
  generalize hn : l.length = n
  induction n using Nat.strongRecOn generalizing l with
  | _ n ih =>
    cases l with
    | nil => simp
    | cons a t =>
      rw [List.eraseDups_cons, List.nodup_cons]
      refine ⟨by simp, ih _ ?_ _ rfl⟩
      subst hn
      exact Nat.lt_succ_of_le (List.length_filter_le _ _)

theorem order_nodup (raw : Nat → Nat) (n : Nat) : (Config.order raw n).Nodup := nodup_eraseDups _
theorem mem_order (raw : Nat → Nat) (n x : Nat) (h : 0 < n) : x ∈ Config.order raw n ↔ x < n := by
  simp only [Config.order, List.mem_eraseDups, List.mem_append, List.mem_map, List.mem_range]
  constructor
  · rintro (⟨i, -, rfl⟩ | hx)
    · exact Nat.mod_lt _ h
    · exact hx
  · exact Or.inr

/-- A list without repeats that holds exactly the numbers below n has n entries. -/
theorem length_of_all {l : List Nat} {n : Nat} (hd : l.Nodup) (h : ∀ x, x ∈ l ↔ x < n) : l.length = n := by
  have e : l.Perm (List.range n) := (List.perm_ext_iff_of_nodup hd List.nodup_range).2 (by simpa using h)
  simpa using e.length_eq
theorem order_length (raw : Nat → Nat) (n : Nat) (h : 0 < n) : (Config.order raw n).length = n :=
  length_of_all (order_nodup raw n) (fun x => mem_order raw n x h)

/-- The clusters mapped out of half h are 2, all of that half, and among them those found faulty, when these are no
more than 2 (R18). -/
theorem mappedOutOf_spec (t h : Nat) (f : List Nat) (hf : f.Nodup)
    (h2 : (f.filter (fun n => n / 34 == h)).length ≤ 2) :
    (mappedOutOf t h f).Nodup ∧ (mappedOutOf t h f).length = 2 ∧ (∀ x ∈ mappedOutOf t h f, x / 34 = h) ∧
      ∀ x ∈ f, x / 34 = h → x ∈ mappedOutOf t h f := by
  have hn := nodup_eraseDups (f.filter (fun n => n / 34 == h) ++ (Config.order (Config.spareSite t h) 34).map (34 * h + ·))
  have hl : 2 ≤ (f.filter (fun n => n / 34 == h) ++ (Config.order (Config.spareSite t h) 34).map (34 * h + ·)).eraseDups.length := by
    have hs : [34 * h, 34 * h + 1] ⊆
        (f.filter (fun n => n / 34 == h) ++ (Config.order (Config.spareSite t h) 34).map (34 * h + ·)).eraseDups := by
      intro x hx
      rw [List.mem_eraseDups, List.mem_append, List.mem_map]
      refine .inr ⟨x - 34 * h, (mem_order _ _ _ (by omega)).2 ?_, ?_⟩ <;> simp at hx <;> omega
    have h0 := hs (by simp : 34 * h ∈ [34 * h, 34 * h + 1])
    have h1 := hs (by simp : 34 * h + 1 ∈ [34 * h, 34 * h + 1])
    revert h0 h1
    generalize (f.filter (fun n => n / 34 == h) ++
      (Config.order (Config.spareSite t h) 34).map (34 * h + ·)).eraseDups = m
    match m with
    | [] => simp
    | [_] => simp only [List.mem_singleton]; omega
    | _ :: _ :: _ => simp
  refine ⟨hn.sublist (List.take_sublist _ _), ?_, ?_, ?_⟩
  · simp only [mappedOutOf, List.length_take]; omega
  · intro x hx
    have := List.mem_of_mem_take hx
    simp only [List.mem_eraseDups, List.mem_append, List.mem_filter, List.mem_map, beq_iff_eq] at this
    rcases this with ⟨-, e⟩ | ⟨i, hi, rfl⟩
    · exact e
    · have := (mem_order _ _ _ (by omega)).1 hi; omega
  · intro x hx e
    have hp : ∀ l r : List Nat, l.Nodup → l <+: (l ++ r).eraseDups := by
      intro l
      induction l with
      | nil => intro r _; exact List.nil_prefix
      | cons a t ih =>
        intro r hd
        rw [List.nodup_cons] at hd
        rw [List.cons_append, List.eraseDups_cons, List.filter_append,
          show t.filter (fun b => !b == a) = t from List.filter_eq_self.2 (fun b hb => by
            have : b ≠ a := fun e => hd.1 (e ▸ hb)
            simp [this])]
        exact List.cons_prefix_cons.2 ⟨rfl, ih _ hd.2⟩
    have hx' : x ∈ f.filter (fun n => n / 34 == h) := List.mem_filter.2 ⟨hx, by simp [e]⟩
    exact (List.prefix_take_iff.2 ⟨hp _ _ (hf.filter _), h2⟩).subset hx'

theorem length_filter_split (p : Nat → Bool) (l : List Nat) :
    l.length = (l.filter p).length + (l.filter (fun x => !p x)).length := by
  induction l with
  | nil => rfl
  | cons a t ih => cases h : p a <;> simp [h] <;> omega

/-- Logical clusters of one half stand on sound clusters of that half, no two on one, and on the sites of R19
while none of sites 0 to 31 is mapped out. -/
theorem siteOf_spec (t n : Nat) (out : List Nat) (hn : n < 64)
    (h2 : (out.filter (fun m => m / 34 == n % 8 / 4)).length = 2) :
    siteOf t out n ∉ out ∧ siteOf t out n / 34 = n % 8 / 4 ∧
      ((∀ i, i < 32 → 34 * (n % 8 / 4) + i ∉ out) → siteOf t out n = 34 * (n % 8 / 4) + (4 * (n / 8) + n % 4)) := by
  have hi : 4 * (n / 8) + n % 4 < 32 := by omega
  unfold siteOf
  simp only
  generalize n % 8 / 4 = h at *
  generalize 4 * (n / 8) + n % 4 = i at *
  by_cases hs : (List.range 32).all (fun j => !out.contains (34 * h + j)) = true
  · rw [if_pos hs]
    simp only [List.all_eq_true, List.mem_range, Bool.not_eq_true'] at hs
    refine ⟨by simpa using hs i hi, by omega, fun _ => rfl⟩
  · rw [if_neg hs]
    have hl := order_length (Config.nodeSite t h) 34 (by omega)
    have hc : ((Config.order (Config.nodeSite t h) 34).filter (fun j => out.contains (34 * h + j))).length ≤ 2 := by
      rw [← h2, ← List.length_map (f := (34 * h + ·))]
      refine List.Nodup.length_le_of_subset ?_ ?_
      · exact List.pairwise_map.2 (((order_nodup _ _).filter _).imp (fun hab e => hab (by omega)))
      · intro x hx
        simp only [List.mem_map, List.mem_filter, List.contains_iff_mem] at hx
        obtain ⟨j, ⟨hj, hm⟩, rfl⟩ := hx
        have := (mem_order _ _ _ (by omega)).1 hj
        simp only [List.mem_filter, beq_iff_eq]
        exact ⟨hm, by omega⟩
    have hsum := length_filter_split (fun j => out.contains (34 * h + j)) (Config.order (Config.nodeSite t h) 34)
    have hlen : i < ((Config.order (Config.nodeSite t h) 34).filter (fun j => !out.contains (34 * h + j))).length := by omega
    have hm : ((Config.order (Config.nodeSite t h) 34).filter (fun j => !out.contains (34 * h + j))).getD i 0 ∈
        (Config.order (Config.nodeSite t h) 34).filter (fun j => !out.contains (34 * h + j)) := by
      rw [List.getD_eq_getElem?_getD, List.getElem?_eq_getElem hlen]; exact List.getElem_mem hlen
    have hk := List.mem_filter.1 hm
    have := (mem_order _ _ _ (by omega)).1 hk.1
    refine ⟨by simpa using hk.2, by omega, fun hall => absurd ?_ hs⟩
    simp only [List.all_eq_true, List.mem_range, Bool.not_eq_true']
    exact fun j hj => by simpa using hall j hj

end Sys2Proof.Machine
end

