-- ==== Sys2Proof/Tests/Slice0.lean ====
section
/-!
SUPPORT. Small checks: ill-formed terms are refused, the spec's worked words decode, single operations give the
values that the spec works out, and every statement's hypotheses are met by a concrete state.
-/
namespace Sys2Proof.Tests
open Sys2Proof Sys2Proof.Machine
set_option Elab.async false

/-! ### Ill-formed terms (R59, R77, R82, R83, R86, R91, R112) -/

theorem test_wf_q_without_s : (Instr.br false true 0 0).wf = false := by decide
theorem test_wf_empty_loop : (Instr.loopR true false 0 0 1 0).wf = false := by decide
theorem test_wf_suspension_outside_q : (Instr.haltR true false 0).wf = false ∧ (Instr.park true false 0 1 2 0).wf = false ∧
    (Instr.yield true false 0).wf = false ∧ (Instr.summit true false 0).wf = false ∧
    (Instr.ropePair true false 0).wf = false ∧ (Instr.ropeQuad true false 0).wf = false ∧
    (Instr.unrope true false 0).wf = false := by decide
theorem test_wf_drain_scope : (Instr.drain true false 0 5).wf = false := by decide
theorem test_wf_nop_slot : (Instr.nopK 0 0).wf = false := by decide
theorem test_wf_scalar_destination : (Instr.addR .a 0 56 1 2).wf = false ∧ (Instr.addR .a 0 62 1 2).wf = false ∧
    (Instr.addR .a 0 63 1 2).wf = true ∧ (Instr.addR .a 0 55 1 2).wf = true := by decide
theorem test_wf_literal_in_slot_2 : (Instr.addR .b 0 1 63 2).wf = false ∧ (Instr.addR .a 0 1 63 2).wf = true := by decide
theorem test_wf_read_destination : (Instr.bfi .a 0 63 1 0 0).wf = false ∧ (Instr.ffma .a 0 63 1 2 0).wf = false ∧
    (Instr.vmad .v 0 31 1 2 0 0).wf = false ∧ (Instr.vffmaF .v 0 31 1 2 0 0).wf = false ∧
    (Instr.vffmaBf .v 0 31 1 2 0 0).wf = false ∧ (Instr.vfdotBf .v 0 31 1 2 0 0).wf = false := by decide
theorem test_wf_vector_destination : (Instr.ldv 0 28 1 0 0).wf = false ∧ (Instr.ldv 0 31 1 0 0).wf = true ∧
    (Instr.ldv 0 27 1 0 0).wf = true := by decide
theorem test_wf_width : (Instr.vadd .v 0 1 2 3 0 3).wf = false ∧ (Instr.ldvx 0 1 2 3 0 3).wf = false := by decide
theorem test_wf_direction : (Instr.shn 0 1 2 4 0 0).wf = false ∧ (Instr.tsh 0 1 2 4 0 0).wf = false := by decide
theorem test_wf_step_code : (Instr.vunpkLo .v 0 1 2 3 0).wf = false := by decide
theorem test_wf_barrier_field : (Instr.mcall 0 0 3 1).wf = false ∧ (Instr.mswap 0 3 1).wf = false := by decide
theorem test_wf_fifo : (Instr.spush 0 11 1).wf = false ∧ (Instr.spush 0 15 1).wf = false ∧
    (Instr.spush 0 16 1).wf = true ∧ (Instr.spop 0 10 1).wf = true := by decide
theorem test_wf_operation : (Instr.sacc 0 1 2 7 0 0).wf = false ∧ (Instr.sacc 0 1 2 6 0 0).wf = true := by decide
theorem test_wf_units : (Instr.bundleIssue 256).wf = false ∧ (Instr.clusterStall 64).wf = false ∧
    (Instr.cardRead 0 33).wf = false ∧ (Instr.towerMove 0 16).wf = false ∧ (Instr.tileLazyLoad 0 8).wf = false ∧
    (Instr.partialCombine 0 16).wf = false ∧ (Instr.launchP 8 0).wf = false ∧ (Instr.launchP 0 64).wf = false ∧
    (Instr.wclose 16 0).wf = false ∧ (Instr.linkDead 16).wf = false ∧ (Instr.pathLossTimeout 1024).wf = false ∧
    (Instr.pageIssue 0 256 0).wf = false ∧ (Instr.registerWrite 9 0 0).wf = false ∧
    (Instr.unitLoss (.stack 8)).wf = false ∧ (Instr.doubleBitError (.hbm 0 (2 ^ 36))).wf = false := by decide
theorem test_wf_sound_row_stops : exec (.bundleIssue 256) State.reset = .fault .noSuchUnit := by rfl

/-! ### Worked words (the spec's "Encodings worked out") -/

theorem test_words_slot0 :
    decodeSlot 0 0xA8100003 = .ok (.br true false 10 3) ∧
    decodeSlot 0 0x80588006 = .ok (.loopR true false 0 1 4 6) ∧
    decodeSlot 0 0xC0A10580 = .ok (.park true true 0 4 5 0x80) ∧
    decodeSlot 0 0x01624008 = .ok (.cread false false 0 9 8) ∧
    decodeSlot 0 0x01701003 = .ok (.cwrite false false 0 0x10 3) ∧
    decodeSlot 0 0x0100A003 = .ok (.bartest false false 0 5 3) ∧
    decodeSlot 0 0x01380000 = .ok (.drain false false 0 4) ∧
    decodeSlot 0 0x00328000 = .ok (.jr false false 0 10) := by
  refine ⟨rfl, rfl, rfl, rfl, rfl, rfl, rfl, rfl⟩
theorem test_words_slot1 :
    decodeSlot 1 0x06810210 = .ok (.cmpLtu .a 0 2 1 2) ∧
    decodeSlot 1 0x05220483 = .ok (.bfx .a 0 4 2 8 3) ∧
    decodeSlot 1 0x08008A00 = .ok (.ptest .a 0 1 5) := by
  refine ⟨rfl, rfl, rfl⟩
theorem test_words_slot3 :
    decodeSlot 3 0x014387FF = .ok (.ldbuS 0 7 3 0x1FF) ∧
    decodeSlot 3 0x02040811 = .ok (.ldv 0 4 2 2 1) ∧
    decodeSlot 3 0x02861400 = .ok (.ldmx8 0 6 5 0 0) ∧
    decodeSlot 3 0x03024891 = .ok (.ldvx 0 2 9 4 2 1) ∧
    decodeSlot 3 0x04031910 = .ok (.shn 0 3 3 1 2 0) ∧
    decodeSlot 3 0x04284880 = .ok (.tsh 0 8 9 0 16 0) := by
  refine ⟨rfl, rfl, rfl, rfl, rfl, rfl⟩
theorem test_words_vector :
    decodeSlot 4 0x05611882 = .ok (.vext .v 0 1 3 4 0 2) ∧
    decodeSlot 5 0x06640880 = .ok (.mandn .w 0 4 1 2) ∧
    decodeSlot 4 0x06820800 = .ok (.mpop .v 0 2 1) ∧
    decodeSlot 4 0x06C110E0 = .ok (.vsel .v 0 1 2 3 4) ∧
    decodeSlot 4 0x078D73F2 = .ok (.vcompress .v 0 13 14 15 6 2) ∧
    decodeSlot 4 0x07C90002 = .ok (.vidx .v 0 9 0 2) ∧
    decodeSlot 4 0x088A5B2A = .ok (.vmredAdd .v 0 10 11 12 5 2) := by
  refine ⟨rfl, rfl, rfl, rfl, rfl, rfl, rfl⟩
theorem test_words_vector_float :
    decodeSlot 4 0x0A042980 = .ok (.vfaddF .v 0 4 5 6 0 0) ∧
    decodeSlot 4 0x0B221900 = .ok (.vfcmpLtF .v 0 2 3 4 0) ∧
    decodeSlot 4 0x0BE21900 = .ok (.vfdotBf .v 0 2 3 4 0 0) ∧
    decodeSlot 4 0x0C0209C6 = .ok (.vcvtBfF .v 0 2 1 7 0 6) ∧
    decodeSlot 4 0x0DA11000 = .ok (.vcvtE4FSat .v 0 1 2 0 0 0) ∧
    decodeSlot 4 0x0E040880 = .ok (.vpackH .v 0 4 1 2 0) ∧
    decodeSlot 4 0x0E862000 = .ok (.vunpkHi .v 0 6 4 0 0) ∧
    decodeSlot 4 0x0EA31008 = .ok (.vbexp .v 0 3 2 1) ∧
    decodeSlot 4 0x0EC52FE9 = .ok (.vscalb .v 0 5 5 0xFD 1) ∧
    decodeSlot 4 0x0F073000 = .ok (.vexp2 .v 0 7 6 0 0 0) := by
  refine ⟨rfl, rfl, rfl, rfl, rfl, rfl, rfl, rfl, rfl, rfl⟩
theorem test_words_matrix :
    decodeSlot 6 0x0027F800 = .ok (.mparmHi 0 1 63) ∧
    decodeSlot 6 0x004000C0 = .ok (.mcall 0 0 3 0) ∧
    decodeSlot 6 0x00406001 = .ok (.mcall 0 3 0 1) ∧
    decodeSlot 6 0x00600140 = .ok (.mswap 0 5 0) ∧
    decodeSlot 6 0x00847000 = .ok (.tcfg 0 1 7) ∧
    decodeSlot 6 0x01250040 = .ok (.tcolR 0 5 0 2 0) ∧
    decodeSlot 6 0x014C0000 = .ok (.mstat 0 3) ∧
    decodeSlot 6 0x01740000 = .ok (.tdrop 0 5) := by
  refine ⟨rfl, rfl, rfl, rfl, rfl, rfl, rfl, rfl⟩
theorem test_words_stream :
    decodeSlot 7 0x00512100 = .ok (.spushv 0 17 4 1) ∧
    decodeSlot 7 0x00612400 = .ok (.spop 0 1 9) ∧
    decodeSlot 7 0x00923000 = .ok (.spopv 0 18 6 0) ∧
    decodeSlot 7 0x00A01C00 = .ok (.scard 0 0 7) ∧
    decodeSlot 7 0x00F00C00 = .ok (.sstat 0 16 3) ∧
    decodeSlot 7 0x01200000 = .ok (.sflush 0) := by
  refine ⟨rfl, rfl, rfl, rfl, rfl, rfl⟩
theorem test_words_sweep :
    decodeSlot 7 0x01491C02 = .ok (.swsub 0 9 7 2) ∧
    decodeSlot 7 0x01691C03 = .ok (.swjoin 0 9 7 3) ∧
    decodeSlot 7 0x01801400 = .ok (.swpop 0 5) ∧
    decodeSlot 7 0x01A01400 = .ok (.swdone 0 5) ∧
    decodeSlot 7 0x01C06100 = .ok (.mgpush 0 12 1) ∧
    decodeSlot 7 0x01E0A000 = .ok (.mgpop 0 20 0) := by
  refine ⟨rfl, rfl, rfl, rfl, rfl, rfl⟩
theorem test_words_refused :
    decodeSlot 1 0x0C000000 = .error .reservedOpcode ∧ decodeSlot 0 0x00000001 = .error .mustBeZero ∧
    decodeSlot 7 0x002B0000 = .error .illegalField := by
  refine ⟨rfl, rfl, rfl⟩
theorem test_words_table : decodeTableWord 32 0x0027F800 = some (.mparmHi 0 1 63) ∧
    decodeTableWord 32 0xFFFFFFFF = none := by
  refine ⟨rfl, rfl⟩

/-! ### Values that the spec works out -/

/-- R288's table. -/
theorem test_special_functions :
    fpSpecial 0 0 0 0xC0400000 = ⟨0x3E000000, 0⟩ ∧ fpSpecial 0 0 0 0x3F000000 = ⟨0x3FB504F3, flagNX⟩ ∧
    fpSpecial 0 0 0 0x43020000 = ⟨0x7F800000, flagOF ||| flagNX⟩ ∧
    fpSpecial 0 1 0 0x43020000 = ⟨0x7F7FFFFF, flagOF ||| flagNX⟩ ∧
    fpSpecial 1 0 0 0x41000000 = ⟨0x40400000, 0⟩ ∧ fpSpecial 2 3 0 0xBE800000 = ⟨0xC0800000, 0⟩ ∧
    fpSpecial 3 0 0 0x41800000 = ⟨0x3E800000, 0⟩ ∧ fpSpecial 4 1 0 0x40100000 = ⟨0x3FC00000, 0⟩ := by decide +kernel
/-- R276: 160 to E4M3 and to E2M1; R149: 500 to E4M3. -/
theorem test_conversions :
    fpCvt fp32 e4m3 false 0 0 0x43200000 = ⟨0x72, 0⟩ ∧ fpCvt fp32 e2m1 true 1 0 0x43200000 = ⟨7, flagOF ||| flagNX⟩ ∧
    (fpCvt fp32 e4m3 false 1 0 0x43FA0000).bits = 0x7E ∧ (fpCvt fp32 e4m3 false 0 0 0x43FA0000).bits = 0x7F ∧
    (fpCvt fp32 e4m3 true 0 0 0x43FA0000).bits = 0x7E := by decide +kernel
/-- The sum of 19_vector_float's "Positions and outcomes" under RNE, RTZ and two stochastic sources. -/
theorem test_sum_rounds :
    fpAdd fp32 0 0 0x3F800000 0x33C00000 = ⟨0x3F800001, flagNX⟩ ∧ fpAdd fp32 1 0 0x3F800000 0x33C00000 = ⟨0x3F800000, flagNX⟩ ∧
    fpAdd fp32 6 0x8000 0x3F800000 0x33C00000 = ⟨0x3F800001, flagNX⟩ ∧
    fpAdd fp32 6 0x3FFF 0x3F800000 0x33C00000 = ⟨0x3F800000, flagNX⟩ := by decide +kernel
/-- R188: rngx(0, 0) = 0. R363: the status words of 25_stream's copy, 1,024 bytes DONE and BAD_CARD. -/
theorem test_mix_of_zero : rngMix 0 0 = 0 := by decide +kernel

/-! ### A small state: core 0 runs cairn 0 of kernel 1, whose region 0 opens half the scratchpad -/

def wcairn : Cairn := ⟨0, .running, 1, 4, 0, 0, 0, false, none, 0, 0, none, 0x10000, 0⟩
def wkern : Kernel where
  kid := 1
  pn := 0
  qn := 0
  serial := 0
  code := 0
  stab := 0x200000
  carr := 0x300000
  sig := 0
  sts := 0
  plst := 0x400000
  nphase := 1
  nsched := 1
  clen := 0x1000
  nmax := 4
  rcl := false
  asid := 1
  pri := 1
  images := [40]
  order := 0
  phase := 0
  started := true
  since := 0
  waits := false
  handler := 0xFFFFFFFF
  v := 1
  bind := [0]
  took := []
  cairns := [wcairn]
  outcome := none
  orderLost := false
  accFault := false
  wrote := []
  again := []

/-- s1 and s9 are addresses inside and outside the region, s6 is poisoned, s7 to s12 are FP32 values. -/
def wregs : Regs := { Regs.zero with
  s := (((((((((((Vector.replicate 56 SReg.zero).set 1 ⟨0x100, 0⟩).set 2 ⟨0x80000000, 0⟩).set 3 ⟨0xFFFFFFFF, 0⟩).set 5
    ⟨7, 0⟩).set 6 ⟨0x100, 1⟩).set 7 ⟨0x7FC00001, 0⟩).set 8 ⟨0x7F800000, 0⟩).set 9 ⟨0x03000000, 0⟩).set 10
    ⟨0x3F800000, 0⟩).set 11 ⟨0x80000000, 0⟩).set 12 ⟨0x80001010, 0⟩
  v := (Vector.replicate 28 VReg.zero).set 1 ⟨0, 1⟩
  m := ((Vector.replicate 8 ⟨0, 0⟩).set 1 ⟨0, 1⟩).set 2 ⟨1, 0⟩
  p := (Vector.replicate 8 ⟨false, 0⟩).set 3 ⟨true, 1⟩ }

def wcore : Core := { Core.reset with
  run := some (1, 0)
  regs := wregs
  ctl := { Ctl.zero with kid := 1, asid := 1 }
  margin := .reset 16 0
  regions := (Vector.replicate 8 Region.zero).set 0 ⟨0, 0, true, true, true, true, 0x7FFFF, 1⟩
  towers := .ofFn (fun g => ⟨0, none, none, some g.val, [], []⟩)
  spc := 0
  spt := 1
  spareTowers := [16]
  spr := 0 }

/-- Partition 0 holds the module; a cached leaf maps the first 512 MiB of stack 0 to themselves for ASID 1. -/
def wpart : Part := { Part.reset with
  groups := 0xFF
  stackSet := 0xFF
  asidBase := 1
  asidCount := 15
  windows := 0xFFFF }
def wleaf : TlbEntry := ⟨0, 1, 0, true, 0x3B⟩

def wstate : State := { State.reset with
  agenda := []
  modNum := 0
  cores := (Vector.replicate 256 (Core.reset)).set 0 wcore
  parts := (Vector.replicate 8 Part.reset).set 0 wpart
  kernels := [wkern]
  tlb := [wleaf]
  house := { House.reset with stage := 6, vfs := [0] } }

/-- wstate with core 0 changed. -/
def wcoreWith (f : Core → Core) : State := { wstate with cores := (Vector.replicate 256 (Core.reset)).set 0 (f wcore) }

theorem wgo : wstate.Go 0 where
  left := by constructor <;> decide
  right := by constructor <;> decide

/-- wstate with the scalar register i at x, and at v the vector register 3. -/
def wscalar (i : Fin 56) (x : Word) (v : Vec := 0) : State := wcoreWith (fun k => { k with regs := { k.regs with
  s := k.regs.s.set i ⟨x, 0⟩
  v := k.regs.v.set 3 ⟨v, 0⟩ } })
theorem wgo_scalar : (wscalar 13 0x01FFFFF0).Go 0 ∧ (wscalar 13 0x01FFFF00 (2 ^ 32)).Go 0 := by
  refine ⟨⟨?_, ?_⟩, ?_, ?_⟩ <;> constructor <;> decide

/-- A card of core 0 has a byte of address 0x1F0 in flight. -/
def wflight : State := { wstate with
  flight := [⟨towerKey 0 0x1F0 / 16, .card 0 0 5, 1, 0, [9], false, none, some (0, 0x1F0), 0, false⟩] }
theorem wgo_flight : wflight.Go 0 where
  left := by constructor <;> decide
  right := by constructor <;> decide

/-- Cores 0 and 1 as a roped pair, each with the registers of wcore; s5 of core 1 differs. -/
def wmember (ix : Nat) (x : SReg) : Core := { wcore with
  run := some (1, ix)
  ctl := { wcore.ctl with ropeW := 1 }
  regs := { wcore.regs with s := wcore.regs.s.set 5 x } }
def wroped (x y : SReg) : State := { wstate with
  cores := ((Vector.replicate 256 Core.reset).set 0 (wmember 0 x)).set 1 (wmember 1 y) }
def wpair : State := wroped ⟨7, 0⟩ ⟨8, 0⟩
def wtorn : State := wroped ⟨7, 0⟩ ⟨0, 0⟩
def wtagged : State := wroped ⟨7, 1⟩ ⟨8, 0⟩
set_option maxRecDepth 10000 in
theorem wpaired_all : ∀ s ∈ [wpair, wtorn, wtagged], s.Paired 0 0 := by
  intro s h
  simp only [List.mem_cons, List.mem_nil_iff, or_false] at h
  rcases h with rfl | rfl | rfl
  all_goals
    constructor
    case even => rfl
    case inRange => decide
    case focus => exact .inl rfl
    case ready => rintro d (rfl | rfl) <;> exact ⟨rfl, by constructor <;> decide⟩
    case guarded => rintro d (rfl | rfl) <;> exact ⟨rfl, rfl⟩
    case place => rfl
    case next => rfl
theorem wpaired : wpair.Paired 0 0 := wpaired_all _ (by simp)
theorem wpaired_torn : wtorn.Paired 0 0 := wpaired_all _ (by simp)
theorem wpaired_tagged : wtagged.Paired 0 0 := wpaired_all _ (by simp)

/-- What a step leaves. -/
def left_ : Out → State
  | .next t => t
  | _ => State.reset

/-! ### One step of some instructions: expected values from the rules, worked by hand -/

/-- Register c of core 0 once results of latency at most 12 have landed. -/
def gives (i : Instr) (s : State) (c : Nat) : Option SReg := ((left_ (exec i s)).me.landDue 12).regs.s[c]?
/-- The first eight 32-bit lanes of vector register c then. -/
def lanes (i : Instr) (s : State) (c : Nat) : Option (BitVec 256) :=
  (((left_ (exec i s)).me.landDue 12).regs.v[c]?).map (fun v => v.val.extractLsb' 0 256)

theorem test_add_wraps : gives (.addR .a 0 13 3 5) wstate 13 = some ⟨6, 0⟩ := by decide +kernel
theorem test_mulhs : gives (.mulhs .a 0 13 2 3) wstate 13 = some ⟨0, 0⟩ ∧
    gives (.mulhu .a 0 13 2 3) wstate 13 = some ⟨0x7FFFFFFF, 0⟩ := by decide +kernel
theorem test_div_corners : gives (.divR .a 0 13 2 3) wstate 13 = some ⟨0x80000000, 0⟩ ∧
    gives (.divR .a 0 13 5 4) wstate 13 = some ⟨0xFFFFFFFF, 0⟩ ∧ gives (.remR .a 0 13 5 4) wstate 13 = some ⟨7, 0⟩ := by
  decide +kernel
theorem test_sar_sign : gives (.sari .a 0 13 2 31) wstate 13 = some ⟨0xFFFFFFFF, 0⟩ := by decide +kernel
theorem test_bfi_merges : gives (.bfi .a 0 13 3 8 3) (wcoreWith (fun k => { k with regs := { k.regs with
    s := k.regs.s.set 13 ⟨0x1000, 0⟩ } })) 13 = some ⟨0x1F00, 0⟩ := by decide +kernel
theorem test_poison_joins : gives (.addR .a 0 13 6 5) wstate 13 = some ⟨0x107, 1⟩ := by decide +kernel
theorem test_stw_bytes : (left_ (exec (.stw 0 12 1 0) wstate)).peek (towerKey 0 0x100) 4 = [0x10, 0x10, 0, 0x80] := by
  decide +kernel
theorem test_ldb_sign : gives (.ldb 0 13 1 1) { wstate with mem := [(towerKey 0 0x101, 0x80)] } 13 =
    some ⟨0xFFFFFF80, 0⟩ := by decide +kernel
theorem test_arrival_too_many : (left_ (exec (.bararr true false 0 5) wstate)).me.cnt.barz = 1 := by decide +kernel
/-- R301: a trap in handler mode fails the kernel with DOUBLE_FAULT. -/
theorem test_double_fault : (left_ (exec (.trapR true false 0 7) (wcoreWith (fun k =>
    { k with ctl := { k.ctl with hm := true } })))).kernels.map (·.outcome) = [some 5] := by decide +kernel
theorem test_branch_delays : (left_ (exec (.br true false 0 5) wstate)).me.seq.br.map (fun b => (b.1, b.2.1.pos)) =
    some (3, ⟨0, 5⟩) := by decide +kernel
theorem test_push_places : ((left_ (exec (.spush 0 16 5) wstate)).me.fifo 16).els = [⟨1, .word 7, 0, 0⟩] := by
  decide +kernel
/-- R263's example: lanes 0 to 7. -/
theorem test_compress : lanes (.vcompress .v 0 4 2 3 3 2) (wcoreWith (fun k => { k with regs := { k.regs with
      v := (k.regs.v.set 2 ⟨packLanes 32 64 (fun i => .ofNat 32 (10 + i)), 0⟩).set 3
        ⟨packLanes 32 64 (fun i => .ofNat 32 (100 + i)), 0⟩
      m := k.regs.m.set 3 ⟨0x0FF00FF0, 0⟩ } })) 4 =
    some 0x0000006B0000006A0000006900000068000000100000000F0000000C0000000B := by decide +kernel
theorem test_mask_counts : let s := wcoreWith (fun k => { k with regs := { k.regs with m := k.regs.m.set 3 ⟨0x0FF00FF0, 0⟩ } })
    gives (.mpop .v 0 1 3) s 49 = some ⟨16, 0⟩ ∧ gives (.mfirst .v 0 1 3) s 49 = some ⟨4, 0⟩ := by decide +kernel
/-- R266's example: elements 0 to 7. -/
theorem test_match_and_reduce : lanes (.vmredAdd .v 0 4 2 3 3 2) (wcoreWith (fun k => { k with regs := { k.regs with
      v := (k.regs.v.set 2 ⟨0x0000000300000007000000010000000200000003000000030000000100000003, 0⟩).set 3
        ⟨0x0000000800000007000000060000000500000004000000030000000200000001, 0⟩
      m := k.regs.m.set 3 ⟨0xFFFFFFFF, 0⟩ } })) 4 =
    some 0x0000001000000007000000080000000500000010000000100000000800000010 := by decide +kernel
set_option maxRecDepth 100000 in
/-- The word of `add s3, s5, s3` runs as the first instruction after reset. -/
theorem test_first_word_runs : (left_ (step (State.reset.withFetchWord 32 0x00218A18))).me.cnt.bndl = 1 := by
  decide +kernel

/-! ### The hypotheses of each statement are met: slots 1 to 5 -/

theorem test_meets_scalar_arithmetic :
    wstate.Go 0 ∧ (Instr.addR .a 0 13 2 3).wf = true ∧ (Instr.divR .b 0 13 2 3).wf = true ∧
    (wstate.ctx.rs 4).val = 0 ∧ (wstate.ctx.rs 2).val = 0x80000000 ∧ (wstate.ctx.rs 3).val = 0xFFFFFFFF ∧
    ((wstate.ctx.rs 5).val ≠ 0 ∧ ¬ ((wstate.ctx.rs 2).val = 0x80000000 ∧ (wstate.ctx.rs 5).val = 0xFFFFFFFF)) :=
  ⟨wgo, by decide⟩
theorem test_meets_scalar_logic_and_immediates :
    wstate.Go 0 ∧ (Instr.andR .a 0 13 2 3).wf = true ∧ (Instr.addi .b 0 13 2 0x100).wf = true ∧ (13 : BitVec 6) ≠ 63 :=
  ⟨wgo, by decide⟩
theorem test_meets_scalar_selection_and_counts : wstate.Go 0 ∧ (Instr.minR .a 0 13 2 3).wf = true := ⟨wgo, by decide⟩
theorem test_meets_scalar_compares_and_checks :
    wstate.Go 0 ∧ (Instr.addR .a 0 13 2 3).wf = true ∧ (Instr.cmpt .a 0 2 3).wf = true ∧
    wstate.ctx.rs 2 = wstate.ctx.rs 2 ∧ wstate.ctx.rs 2 ≠ wstate.ctx.rs 3 ∧ wstate.ctx.rs 1 ≠ wstate.ctx.rs 6 ∧
    wstate.ctx.rs 3 = ⟨(0x1FF : BitVec 9).signExtend 32, 0⟩ ∧ wstate.ctx.rs 2 ≠ ⟨(0x1FF : BitVec 9).signExtend 32, 0⟩ :=
  ⟨wgo, by decide⟩
theorem test_meets_scalar_floats :
    wstate.Go 0 ∧ (Instr.fadd .a 0 63 7 8 6).wf = true ∧ (Instr.fadd .a 0 13 7 8 0).wf = true ∧ (13 : BitVec 6) ≠ 63 ∧
    ((wstate.ctx.rs 7).val.extractLsb' 23 8 = 255 ∧ (wstate.ctx.rs 7).val.extractLsb' 0 23 ≠ 0) ∧
    ¬ ((wstate.ctx.rs 8).val.extractLsb' 23 8 = 255 ∧ (wstate.ctx.rs 8).val.extractLsb' 0 23 ≠ 0) ∧
    fp32.decode (wstate.ctx.rs 8).val.toNat = .inf false ∧ fp32.decode (wstate.ctx.rs 7).val.toNat = .nan ∧
    fp32.decode (wstate.ctx.rs 11).val.toNat = .fin true 0 (-149) :=
  ⟨wgo, by decide⟩

/-- Words inside and outside a region, and a kernel without one. -/
theorem test_meets_governing_region :
    wstate.me.governs 1 0x1FFFFFF = some ⟨0, 0, true, true, true, true, 0x7FFFF, 1⟩ ∧
    wstate.me.governs 1 0x2000000 = none ∧ wstate.me.governs 2 0 = none ∧ wstate.me.governs 1 67108864 = none := by decide
theorem test_meets_scalar_loads : wstate.Go 0 ∧ sDst 13 = true ∧
    (wstate.ctx.rs 1).tag = 0 ∧ wstate.me.readable wstate.me.ctl.kid 0x100 = true ∧ (wstate.ctx.rs 6).tag ≠ 0 ∧
    (wstate.ctx.rs 9).tag = 0 ∧ wstate.me.readable wstate.me.ctl.kid 0x3000000 = false := ⟨wgo, by decide⟩
theorem test_meets_scalar_stores : wstate.Go 0 ∧ wstate.Canonical ∧
    (wstate.ctx.rs 1).tag = 0 ∧ wstate.me.writable wstate.me.ctl.kid 0x100 = true ∧ (wstate.ctx.rs 5).tag = 0 ∧
    (wstate.ctx.rs 6).tag ≠ 0 ∧ wstate.me.writable wstate.me.ctl.kid 0x3000000 = false := ⟨wgo, rfl, by decide⟩
/-- A row of 256 readable words at s1; a row without permission at s9; a poisoned mask m1. -/
theorem test_meets_rows : wstate.Go 0 ∧ wstate.Canonical ∧ vDst 3 = true ∧ (wstate.ctx.rs 1).tag = 0 ∧
    (∀ j, j < 256 → wstate.me.readable wstate.me.ctl.kid (0x100 + j / 16 * 16) = true) ∧
    (∀ j, j < 256 → wstate.me.writable wstate.me.ctl.kid (0x100 + j / 16 * 16) = true) ∧
    (∀ j, j < 256 → ¬ (mtag (wstate.ctx.rm 0).tags j ≠ 0 ∨ actW 1 (wstate.ctx.rm 0) j = true ∧
      elemTag 1 (wstate.ctx.rv 0).tags j ≠ 0)) ∧
    (wstate.ctx.rs 6).tag ≠ 0 ∧
    (actW 1 (wstate.ctx.rm 0) 0 = true ∧ wstate.me.readable wstate.me.ctl.kid 0x3000000 = false ∧
      wstate.me.writable wstate.me.ctl.kid 0x3000000 = false) ∧
    mtag (wstate.ctx.rm 1).tags 0 ≠ 0 := ⟨wgo, rfl, by decide +kernel⟩
theorem test_meets_expanding_loads : wstate.Go 0 ∧ vDst 3 = true ∧ (wstate.ctx.rs 1).tag = 0 ∧
    (∀ e, e < 128 → wstate.me.readable wstate.me.ctl.kid (0x110 + e) = true) ∧
    wstate.me.readable wstate.me.ctl.kid 0x100 = true ∧ (wstate.ctx.rs 6).tag ≠ 0 ∧
    wstate.me.readable wstate.me.ctl.kid 0x3000000 = false ∧
    -- the sheet whose header is the last readable word: its first data word is the lowest refused one
    ((wscalar 13 0x01FFFFF0).Go 0 ∧ (wscalar 13 0x01FFFFF0).ctx.rs 13 = ⟨0x01FFFFF0, 0⟩ ∧
      (wscalar 13 0x01FFFFF0).me.readable 1 0x01FFFFF0 = true ∧ actW 2 ((wscalar 13 0x01FFFFF0).ctx.rm 0) 0 = true ∧
      (wscalar 13 0x01FFFFF0).me.readable 1 0x02000000 = false ∧ (0x01FFFFF0 + 16 + (4 * (0x01FFFFF0 % 4) + 0 / 32) * 16 + 0 % 32 / 2 = 0x02000000)) :=
  ⟨wgo, by decide +kernel, by decide +kernel, by decide +kernel, by decide +kernel, by decide +kernel, by decide +kernel,
    wgo_scalar.1, by decide +kernel⟩
theorem test_meets_indexed_rows : wstate.Go 0 ∧ wstate.Canonical ∧ (2 : BitVec 3).toNat < 3 ∧ vDst 3 = true ∧
    (wstate.ctx.rs 1).tag = 0 ∧
    (∀ e, e < 64 → actW 4 (wstate.ctx.rm 0) e = true ∧ elemTag 4 (wstate.ctx.rv 2).tags e = 0 ∧
      elem 4 (wstate.ctx.rv 2).val e = 0 ∧ wstate.me.readable wstate.me.ctl.kid (0x100 + 4 * e) = true ∧
      wstate.me.writable wstate.me.ctl.kid (0x100 + 4 * e) = true ∧ elemTag 4 (wstate.ctx.rv 3).tags e = 0 ∧
      mtag (wstate.ctx.rm 0).tags (4 * e) = 0) ∧
    (actW 4 (wstate.ctx.rm 0) 0 = true ∧ ¬ (elemTag 4 (wstate.ctx.rv 1).tags 0 = 0)) ∧ (wstate.ctx.rs 6).tag ≠ 0 ∧
    mtag (wstate.ctx.rm 1).tags 0 ≠ 0 ∧
    -- the last readable row and, by index 1 of its element 1, the one after it
    ((wscalar 13 0x01FFFF00 (2 ^ 32)).Go 0 ∧ (wscalar 13 0x01FFFF00 (2 ^ 32)).Canonical ∧
      let x := wscalar 13 0x01FFFF00 (2 ^ 32)
      (x.ctx.rs 13).tag = 0 ∧ elem 4 (x.ctx.rv 3).val 0 = 0 ∧ elem 4 (x.ctx.rv 3).val 1 = 1 ∧
      (∀ e, e < 64 → elemTag 4 (x.ctx.rv 3).tags e = 0) ∧
      x.me.readable 1 0x01FFFF00 = true ∧ x.me.writable 1 0x01FFFF00 = true ∧
      x.me.readable 1 0x02000004 = false ∧ x.me.writable 1 0x02000004 = false) :=
  ⟨wgo, rfl, by decide +kernel, by decide +kernel, by decide +kernel, by decide +kernel, by decide +kernel, by decide +kernel,
    by decide +kernel, wgo_scalar.2, rfl, by decide +kernel⟩
/-- East by 1 and by 15 of the row at s1 into itself; 16; 17 and north. -/
theorem test_meets_systolic_shifts : wstate.Go 0 ∧ wstate.Canonical ∧ (0 : BitVec 3).toNat < 2 ∧ (15 : BitVec 5).toNat < 16 ∧
    vDst 3 = true ∧ (wstate.ctx.rs 1).tag = 0 ∧ (∀ j, j < 256 → mtag (wstate.ctx.rm 0).tags j = 0) ∧
    (∀ j, j < 256 → wstate.me.readable wstate.me.ctl.kid (0x100 + 16 * ((j / 16 + 1) % 16)) = true ∧
      wstate.me.writable wstate.me.ctl.kid (0x100 + j / 16 * 16) = true ∧
      wstate.wordTag wstate.focus wstate.me.ctl.kid (0x100 + 16 * ((j / 16 + 1) % 16)) ≠ 2) ∧
    (16 : BitVec 5).toNat = 16 ∧ ((17 : BitVec 5).toNat ≠ 16 ∧ ¬ ((0 : BitVec 3).toNat < 2 ∧ (17 : BitVec 5).toNat < 16)) ∧
    ¬ ((2 : BitVec 3).toNat < 2 ∧ (0 : BitVec 5).toNat < 16) ∧
    -- s6 is poisoned, s9 lies outside, m1 is poisoned
    (wstate.ctx.rs 6).tag ≠ 0 ∧ (wstate.ctx.rs 9).tag = 0 ∧
    (wstate.me.readable 1 0x3000000 = false ∧ wstate.me.writable 1 0x3000000 = false) ∧ mtag (wstate.ctx.rm 1).tags 0 ≠ 0 ∧
    -- a word of the source is in flight, or uncorrectable
    (wflight.Go 0 ∧ wflight.Canonical ∧ wflight.wordTag 0 1 0x1F0 = 2 ∧
      ({ wflight with flight := [], bad := [towerKey 0 0x1F0 / 16] } : State).wordTag 0 1 0x1F0 = 3) :=
  ⟨wgo, rfl, by decide +kernel, by decide +kernel, by decide +kernel, by decide +kernel, by decide +kernel, by decide +kernel,
    by decide +kernel, by decide +kernel, by decide +kernel, by decide +kernel, by decide +kernel, by decide +kernel, by decide +kernel,
    wgo_flight, rfl, by decide +kernel⟩
/-- The pair of cores 0 and 1, from the row at s1 of each. -/
theorem test_meets_paired_shifts : wpair.Paired 0 0 ∧ wpair.Canonical ∧ (0 : BitVec 3).toNat < 2 ∧ 2 ≤ (2 : BitVec 3).toNat ∧
    vDst 3 = true ∧
    (∀ k, k = 0 ∨ k = 1 → ((wpair.ctxOf k).rs 1).tag = 0 ∧ ((wpair.ctxOf k).rs 1).val = 0x100 ∧
      ∀ j, j < 256 → mtag ((wpair.ctxOf k).rm 0).tags j = 0) ∧
    (∀ k, k = 0 ∨ k = 1 → ∀ j, j < 256 → (wpair.core k).readable 1 (0x100 + j / 16 * 16) = true ∧
      (wpair.core k).writable 1 (0x100 + j / 16 * 16) = true ∧ wpair.wordTag k 1 (0x100 + j / 16 * 16) ≠ 2) := by
  refine ⟨wpaired, rfl, by decide, by decide, by decide, ?_, ?_⟩
  · rintro k (rfl | rfl) <;> decide +kernel
  · rintro k (rfl | rfl) <;> decide +kernel

theorem test_meets_vector_integers : wstate.Go 0 ∧ vDst 27 = true ∧ vDst 31 = true ∧ (0 : BitVec 3).toNat < 3 ∧
    (2 : BitVec 3).toNat < 3 ∧ (27 : BitVec 5) ≠ 31 := ⟨wgo, by decide⟩
theorem test_meets_vector_compares : wstate.Go 0 ∧ (0 : BitVec 3).toNat < 3 ∧ (2 : BitVec 3).toNat < 3 := ⟨wgo, by decide⟩
/-- m2 selects element 0 alone. -/
theorem test_meets_vector_scalar_operands : wstate.Go 0 ∧ vDst 27 = true ∧ (1 : BitVec 3).toNat < 3 ∧
    actS 2 (wstate.ctx.rm 2) 0 = true ∧ ∀ i, i < 128 → 0 < i → actS 2 (wstate.ctx.rm 2) i = false :=
  ⟨wgo, by decide +kernel⟩
theorem test_meets_vector_masks : wstate.Go 0 ∧ vDst 27 = true := ⟨wgo, by decide⟩
theorem test_meets_vector_permutes : wstate.Go 0 ∧ vDst 27 = true ∧ (2 : BitVec 3).toNat < 3 ∧
    actS 4 (wstate.ctx.rm 2) 0 = true := ⟨wgo, by decide +kernel⟩
theorem test_meets_vector_reductions : wstate.Go 0 ∧ vDst 27 = true ∧ (2 : BitVec 3).toNat < 3 ∧
    actW 4 (wstate.ctx.rm 2) 0 = true := ⟨wgo, by decide +kernel⟩
theorem test_meets_vector_float_arithmetic : wstate.Go 0 ∧ vDst 27 = true ∧ vDst 31 = true ∧ (27 : BitVec 5) ≠ 31 ∧
    wstate.ctx.mode 6 = 6 ∧ wstate.ctx.mode 7 = 0 := ⟨wgo, by decide⟩
theorem test_meets_vector_conversions : wstate.Go 0 ∧ vDst 27 = true ∧ wstate.ctx.mode 6 = 6 ∧ wstate.ctx.mode 7 = 0 :=
  ⟨wgo, by decide⟩
/-- R146 to R150: a tie, the directed modes, RTO, the random mode at its bound, a tiny result, and overflow. -/
theorem test_rounding :
    roundFin fp32 false 0 0 false 0x1000001 0 = ⟨0x4B800000, 1⟩ ∧ roundFin fp32 false 4 0 false 0x1000001 0 = ⟨0x4B800001, 1⟩ ∧
    roundFin fp32 false 2 0 true 0x1000001 0 = ⟨0xCB800001, 1⟩ ∧ roundFin fp32 false 3 0 true 0x1000001 0 = ⟨0xCB800000, 1⟩ ∧
    roundFin fp32 false 5 0 false 0x1000001 0 = ⟨0x4B800001, 1⟩ ∧ roundFin fp32 false 6 0x8000 false 0x1000001 0 = ⟨0x4B800001, 1⟩ ∧
    roundFin fp32 false 6 0x7FFF false 0x1000001 0 = ⟨0x4B800000, 1⟩ ∧ roundFin fp32 false 0 0 false 3 (-150) = ⟨2, 3⟩ ∧
    roundFin fp32 false 0 0 false 1 0 = ⟨0x3F800000, 0⟩ ∧ roundFin fp32 false 0 0 true 0 0 = ⟨0x80000000, 0⟩ ∧
    roundFin e4m3 false 0 0 false 1 9 = ⟨0x7F, 5⟩ ∧ roundFin e4m3 true 0 0 false 1 9 = ⟨0x7E, 5⟩ ∧
    roundFin e2m1 false 0 0 true 1 9 = ⟨0xF, 5⟩ ∧ roundFin bf16 false 3 0 true 1 200 = ⟨0xFF7F, 5⟩ := by decide +kernel
/-- The conditions on a value to be rounded, each met: exact and inexact, above and below the middle. -/
theorem test_meets_rounding : fp32 ∈ [fp32, fp16, bf16, e4m3, e5m2, e2m1] ∧ (6 : Nat) < 7 ∧ e4m3.maxBits ≤ e4m3.maxBits ∧
    fp32 ≠ e4m3 ∧ fp32 ≠ e2m1 ∧ (0x1000001 : Nat) ≠ 0 ∧
    -- 2 ^ 24 + 1 is 2 ^ 23 units of 2 ^ 1 and 1 of 2 parts of one more
    (1 < 2 ∧ 2 = 2 ^ ((1 : Int) - min 0 1).toNat ∧ 0x1000001 * 2 ^ ((0 : Int) - min 0 1).toNat = 2 ^ 23 * 2 + 1) := by decide +kernel
theorem test_meets_vector_packing_and_scaling : wstate.Go 0 ∧ vDst 27 = true ∧ (0 : BitVec 5).toNat < 3 ∧
    (2 : BitVec 5).toNat < 3 ∧ actW 4 (wstate.ctx.rm 2) 0 = true := ⟨wgo, by decide +kernel⟩

/-! ### The hypotheses of each statement are met: slots 6, 7 and 0 -/

/-- wstate with the matrix unit owned by its cairn, tile 1 of four by four FP32 elements, mp2 poisoned where asked. -/
def wmat : MatUnit := { MatUnit.reset with
  owner := some (1, 0)
  tiles := ((Vector.replicate 8 ⟨.uncfg, 0⟩).set 1 ⟨.zero, 0x80000303⟩).set 2 ⟨.dirty, 0x80010F0F⟩ }
/-- MMA of one row and column into tile 1 (R317). -/
def wmp (p1 : Dword) (t : Tag) : Vector MpReg 8 := ((Vector.replicate 8 ⟨0, 0⟩).set 1 ⟨p1, 0⟩).set 2 ⟨0, t⟩
def wmats (q : List Cmd) (p1 : Dword) (t : Tag) : State := wcoreWith (fun k => { k with
  mat := { wmat with queue := q }
  regs := { k.regs with mp := wmp p1 t } })
/-- One row and column (M = N = K = 1) in E4M3 into tile 1; into the unconfigured tile 0; with a format of 6. -/
def wone : Dword := 1 <<< 16 ||| 1 <<< 25 ||| 1 <<< 34 ||| 1 <<< 9
def wonto0 : Dword := 1 <<< 16 ||| 1 <<< 25 ||| 1 <<< 34
def wbad : Dword := wone ||| 6
def wcmd : Cmd := ⟨false, 0, 0, 1, 0, 0, false, (wmp wone 0).map (·.val), 1, 0⟩
theorem wgo_mats (q : List Cmd) (p1 : Dword) (t : Tag) : (wmats q p1 t).Go 0 where
  left := by constructor <;> first | rfl | exact (by decide : (0 : Nat) < 256)
  right := by constructor <;> rfl

theorem test_meets_matrix_parameters : wstate.Go 0 ∧ ¬ wstate.Owns ∧ (wmats [] wone 0).Go 0 ∧ (wmats [] wone 0).Owns :=
  ⟨wgo, by unfold State.Owns; decide, wgo_mats .., rfl⟩
theorem test_meets_matrix_commands :
    (∀ q p1 t, (wmats q p1 t).Go 0 ∧ (wmats q p1 t).me.run = some (1, 0) ∧ (wmats q p1 t).Owns) ∧
    (Instr.mcall 0 0 5 0).wf = true ∧
    ((wmats [] wone 0).Fresh agMatrix ∧ (wmats [] wone 0).me.mat.queue.length < 3) ∧
    ((wmats [wcmd, wcmd, wcmd] wone 0).Fresh agMatrix ∧ 3 ≤ (wmats [wcmd, wcmd, wcmd] wone 0).me.mat.queue.length) ∧
    ((0 : BitVec 8).toNat < 5 ∧ ¬ (wcmd.M = 0 ∨ wcmd.N = 0) ∧ (wmat.tile wcmd.tile).st ≠ .uncfg ∧
      formatCode wcmd (wmat.tile wcmd.tile) = 0) ∧
    (32 ≤ (40 : BitVec 8).toNat ∧ (∃ k, (wmats [] wone 0).running 0 = some k ∧ (40 : BitVec 8).toNat ∈ k.1.images)) ∧
    (¬ (50 : BitVec 8).toNat < 5 ∧ (50 : BitVec 8).toNat ∉ wkern.images) ∧
    ((∃ x, (wmats [] wone 1).me.regs.mp[2]? = some x ∧ x.tag ≠ 0) ∧
      ∀ l, l < 2 → ¬ ∃ x, (wmats [] wone 1).me.regs.mp[l]? = some x ∧ x.tag ≠ 0) ∧
    (wmat.tile ({ wcmd with mp := (wmp wonto0 0).map (·.val) } : Cmd).tile).st = .uncfg ∧
    formatCode { wcmd with mp := (wmp wbad 0).map (·.val) } (wmat.tile 1) ≠ 0 := by
  refine ⟨fun q p1 t => ⟨wgo_mats .., rfl, rfl⟩, by decide, ⟨⟨.inr (by decide), by decide⟩, by decide⟩,
    ⟨⟨.inr (by decide), by decide⟩, by decide⟩, by decide +kernel, ⟨by decide, (wkern, wcairn), rfl, by decide⟩, by decide,
    ⟨⟨_, rfl, by decide⟩, fun l hl => ?_⟩, by decide +kernel, by decide +kernel⟩
  rintro ⟨x, hx, ht⟩
  match l, hl with
  | 0, _ => exact ht (by injection hx with hx; rw [← hx]; rfl)
  | 1, _ => exact ht (by injection hx with hx; rw [← hx]; rfl)
/-- s2 = 0x80000000 is a deckle of one FP32 element, s4 = 0 unconfigures, s6 is poisoned, s5 = 7 is ill-formed. -/
theorem test_meets_tile_configuration : (wmats [] wone 0).Go 0 ∧ (wmats [] wone 0).Canonical ∧ (wmats [] wone 0).Owns ∧
    (wmats [] wone 0).me.mat.queue.any (fun q => q.names 1) = false ∧
    ((wmats [] wone 0).me.mat.tile 1).st ≠ .lazy ∧ ((wmats [] wone 0).me.mat.tile 1).st ≠ .uncfg ∧
    ((wmats [] wone 0).me.mat.tile 0).st = .uncfg ∧
    ((wmats [] wone 0).ctx.rs 4 = ⟨0, 0⟩ ∧ (wmats [] wone 0).ctx.rs 2 = ⟨0x80000000, 0⟩ ∧
      (wmats [] wone 0).ctx.rs 6 = ⟨0x100, 1⟩ ∧ (wmats [] wone 0).ctx.rs 5 = ⟨7, 0⟩) ∧
    ((0x80000000 : Word).getLsbD 31 = true ∧ (0x80000000 : Word).extractLsb' 19 12 = 0 ∧
      ((0x80000000 : Word).extractLsb' 16 3).toNat < 2) ∧ (7 : Word).getLsbD 31 = false :=
  ⟨wgo_mats .., rfl, rfl, by decide⟩
/-- Row 3 of tile 1, its last; row 4, outside; v1 is poisoned in lane 0. -/
theorem test_meets_tile_slices : (wmats [] wone 0).Go 0 ∧ (wmats [] wone 0).Canonical ∧ vDst 27 = true ∧
    (wmats [] wone 0).Owns ∧ (wmats [] wone 0).me.mat.queue.any (fun q => q.names 1) = false ∧
    ((wmats [] wone 0).me.mat.tile 1).st = .zero ∧ ((wmats [] wone 0).me.mat.tile 0).st = .uncfg ∧
    ((3 : BitVec 8).toNat < ((wmats [] wone 0).me.mat.tile 1).rows ∧ 64 * (0 : BitVec 2).toNat < ((wmats [] wone 0).me.mat.tile 1).cols ∧
      ¬ (4 : BitVec 8).toNat < ((wmats [] wone 0).me.mat.tile 1).rows) ∧
    (∀ l, l < 4 → ltag ((wmats [] wone 0).ctx.rv 2).tags l = 0) ∧ ltag ((wmats [] wone 0).ctx.rv 1).tags 0 ≠ 0 :=
  ⟨wgo_mats .., rfl, by decide, rfl, by decide⟩

/-- Endpoint q16 open, full, with a route; q17 with a routed skid buffer that is full. -/
def welem : Elem := ⟨1, .word 9, 0, 0⟩
def wroute : Route := ⟨1, .endpoint 1 4, some 1⟩
def wfull : State := wcoreWith (fun k => { k with fifos := k.fifos.set 16 ⟨List.replicate 64 welem, 0⟩ })
def wrouted : State := wcoreWith (fun k => { k with routes := k.routes.set 0 (some wroute) })
/-- The limit of q16's route has been used up while an element for its own inbound side stands in the skid (R349). -/
def wbehind : State := wcoreWith (fun k => { k with skids := k.skids.set 0 [(.endpoint 0 0, welem)] })
theorem wgo_behind : wbehind.Go 0 where
  left := by constructor <;> decide
  right := by constructor <;> decide
theorem wgo_full : wfull.Go 0 where
  left := by constructor <;> decide
  right := by constructor <;> decide
theorem wgo_routed : wrouted.Go 0 where
  left := by constructor <;> decide
  right := by constructor <;> decide
theorem wfresh {s : State} {a : Nat} (h : s.idx = 0) (h2 : s.suppressed s.focus a 0 = false) : s.Fresh a :=
  ⟨.inr (by omega), by rw [h]; exact h2⟩
theorem test_meets_stream_pushes : wstate.Go 0 ∧ wstate.Fresh agSwitch ∧ qIn 16 = true ∧
    (wstate.me.routeOf 16 1 = none ∧ (∀ x ∈ wstate.me.skid 16, x.1 ≠ .endpoint 0 0) ∧ 0 < wstate.me.outRoom 0 16 1) ∧
    (wbehind.Go 0 ∧ wbehind.Fresh agSwitch ∧ wbehind.me.routeOf 16 1 = none ∧
      (∃ x ∈ wbehind.me.skid 16, x.1 = .endpoint 0 0) ∧ 0 < wbehind.me.outRoom 0 16 1) ∧
    (wrouted.Go 0 ∧ wrouted.Fresh agSwitch ∧ wrouted.me.routeOf 16 1 = some wroute ∧ 0 < wrouted.me.outRoom 0 16 1) ∧
    (wfull.Go 0 ∧ wfull.Fresh agSwitch ∧ wfull.me.outRoom 0 16 1 = 0) ∧
    (wstate.ctx.rs 5).tag = 0 ∧ (wstate.ctx.rs 6).tag ≠ 0 ∧ (qIn 10 = true ∧ (10 : BitVec 5).toNat < 16) ∧
    (wstate.ctx.rm 1).tags ≠ 0 ∧ (wstate.ctx.rm 2).tags = 0 ∧ (∀ b, b < 256 → (wstate.ctx.rm 2).bits.getLsbD b = true →
      ltag (wstate.ctx.rv 2).tags (b / 4) = 0) :=
  ⟨wgo, wfresh rfl rfl, by decide, by decide, ⟨wgo_behind, wfresh rfl rfl, by decide⟩, ⟨wgo_routed, wfresh rfl rfl, by decide⟩, ⟨wgo_full, wfresh rfl rfl, by decide⟩,
    by decide, by decide, by decide, by decide +kernel⟩
/-- The route word 0x224, 0, and an ill-formed 0x180. -/
theorem test_meets_cards_and_routes : wstate.Go 0 ∧ qIn 6 = true ∧ (6 : BitVec 5).toNat = 6 ∧
    wstate.Fresh (agCard 6) ∧ wstate.Fresh agSwitch ∧ (wstate.ctx.rs 1).tag = 0 ∧ 0 < wstate.me.room 6 ∧
    (wcoreWith (fun k => { k with fifos := k.fifos.set 6 ⟨List.replicate 16 ⟨1, .card 0, 0, 0⟩, 0⟩ })).me.room 6 = 0 ∧
    (wstate.ctx.rs 6).tag ≠ 0 ∧ ¬ ((1 : BitVec 5).toNat = 0 ∨ (1 : BitVec 5).toNat = 2) ∧
    (let w : BitVec 10 := 0x224
     w.getLsbD 9 = true ∧ (w.extractLsb' 7 2).toNat = 0 ∧ w.getLsbD 4 = false) ∧
    (let w : BitVec 10 := 0x180
     w.getLsbD 9 = false ∧ w ≠ 0) := ⟨wgo, by decide, by decide, wfresh rfl rfl, wfresh rfl rfl, by decide⟩
/-- Status elements in q1, a vector element in q8; records that answer; FIFO numbers without pops. -/
def wpops : State := wcoreWith (fun k => { k with
  fifos := ((k.fifos.set 1 ⟨[welem], 0⟩).set 9 ⟨[welem], 0⟩).set 8 ⟨[⟨1, .vec 0 0, 0, 256⟩], 0⟩ })
def wagain : State := wcoreWith (fun k => { k with seq := { k.seq with
  recs := [⟨0, 0, 0, ⟨9, 0⟩, ⟨0, 0⟩, ⟨0, 0⟩⟩] } })
theorem wgo_pops : wpops.Go 0 where
  left := by constructor <;> decide
  right := by constructor <;> decide
theorem wgo_again : wagain.Go 0 where
  left := by constructor <;> decide
  right := by constructor <;> decide
theorem test_meets_stream_pops : wpops.Go 0 ∧ qIn 1 = true ∧ qIn 16 = true ∧ sDst 13 = true ∧ vDst 27 = true ∧
    (wpops.Taking ∧ wpops.me.headOf 1 1 = some welem ∧ wpops.me.headOf 9 1 = some welem ∧
      wpops.me.headOf 8 1 = some ⟨1, .vec 0 0, 0, 256⟩ ∧ wpops.me.headOf 3 1 = none ∧ wpops.me.headOf 16 1 = none) ∧
    (wagain.Go 0 ∧ wagain.me.popRecord = some ⟨0, 0, 0, ⟨9, 0⟩, ⟨0, 0⟩, ⟨0, 0⟩⟩) ∧
    wpops.Pinned ∧ ({ wstate with kernels := [{ wkern with cairns := [{ wcairn with pin := 1 }] }] } : State).ctx.unpinned = true ∧
    ¬ ((0 : BitVec 5).toNat = 1 ∨ 16 ≤ (0 : BitVec 5).toNat) :=
  ⟨wgo_pops, by decide, by decide, by decide, by decide, ⟨rfl, by decide +kernel⟩, ⟨wgo_again, rfl⟩, rfl, by decide, by decide⟩
theorem test_meets_accumulations : wstate.Go 0 ∧ wstate.Fresh agAcc ∧ (6 : BitVec 4).toNat < 7 ∧
    (((wstate.me.regs.s[52]?).getD SReg.zero).tag = 0 ∧ ((wstate.me.regs.s[53]?).getD SReg.zero).tag = 0 ∧
      ∀ l, l < 64 → ltag (wstate.ctx.rv 2).tags l = 0) ∧
    (∀ l, l < 64 → mtag (wstate.ctx.rm 2).tags (4 * l) = 0) ∧ actW 4 (wstate.ctx.rm 2) 0 = true ∧
    (∀ l, l < 64 → actW 4 (wstate.ctx.rm 4) l = false) ∧ ltag (wstate.ctx.rv 1).tags 0 ≠ 0 ∧
    0 < wstate.me.room accQueue ∧
    (wcoreWith (fun k => { k with fifos := k.fifos.set 32 ⟨List.replicate 16 ⟨1, .flush, 0, 0⟩, 0⟩ })).me.room accQueue = 0 :=
  ⟨wgo, wfresh rfl rfl, by decide +kernel⟩
/-- A merged result in q10; a pool without room. -/
def wmerged : State := wcoreWith (fun k => { k with fifos := k.fifos.set 10 ⟨[⟨1, .merged 0 0 0 0 5, 0, 256⟩], 0⟩ })
def wnopool : State := wcoreWith (fun k => { k with slots := k.slots.set 0 (some
  ⟨1, 0, 5, [0], 0, 2048, none, 0, [], [], none, [], false, false, false⟩) })
theorem wgo_merged : wmerged.Go 0 where
  left := by constructor <;> decide
  right := by constructor <;> decide
theorem wgo_nopool : wnopool.Go 0 where
  left := by constructor <;> decide
  right := by constructor <;> decide
theorem test_meets_sweep_and_merge : wmerged.Go 0 ∧ qIn 9 = true ∧ vDst 27 = true ∧ wmerged.Pinned ∧
    (wmerged.Fresh agSweep ∧ (wmerged.ctx.rs 1).tag = 0 ∧ (wmerged.ctx.rs 6).tag ≠ 0 ∧ (8 : BitVec 5) ≠ 9) ∧
    (wmerged.Fresh agMerge ∧ (wmerged.ctx.rs 54).tag = 0 ∧ (wmerged.ctx.rs 50).tag = 0 ∧ (wmerged.ctx.rs 51).tag = 0 ∧
      (∀ l, l < 64 → ltag (wmerged.ctx.rv 2).tags l = 0 ∧ mtag (wmerged.ctx.rm 2).tags (4 * l) = 0) ∧
      0 < wmerged.poolFree (wmerged.focus / 4)) ∧
    (wnopool.Go 0 ∧ wnopool.Fresh agMerge ∧ wnopool.poolFree (wnopool.focus / 4) = 0) ∧
    (actW 4 (wmerged.ctx.rm 2) 0 = true ∧ ltag (wmerged.ctx.rv 1).tags 0 ≠ 0) ∧
    (wmerged.Taking ∧ wmerged.me.headOf 10 1 = some ⟨1, .merged 0 0 0 0 5, 0, 256⟩) ∧
    (wmerged.me.slot 0).any (fun q => q.no == 5) = false ∧ (wnopool.me.slot 0).any (fun q => q.no == 5) = true ∧
    (wstate.Taking ∧ wstate.me.headOf 10 1 = none) :=
  ⟨wgo_merged, by decide, by decide, rfl, ⟨wfresh rfl rfl, by decide⟩, ⟨wfresh rfl rfl, by decide +kernel⟩,
    ⟨wgo_nopool, wfresh rfl rfl, by decide +kernel⟩, by decide +kernel, ⟨rfl, by decide +kernel⟩, by decide +kernel, by decide +kernel, rfl, by decide +kernel⟩

/-- The running cairn can be written back: its save area and record lie under the cached leaf. -/
theorem wopens : wstate.openSaves [0] = .ready wstate := rfl
theorem wleaving : wstate.Leaving wstate wkern wcairn where
  refreshed := by decide
  unmoved := by decide
  opened := wopens
  cores := rfl
  cairn := rfl

/-- wstate with core 0 changed is ready where nothing that holds issue changes. -/
theorem test_meets_branches : wstate.Go 0 ∧ (wstate.ctx.rs 1).tag = 0 ∧ (wstate.ctx.rs 6).tag ≠ 0 ∧
    (wcoreWith (fun k => { k with regs := { k.regs with s := k.regs.s.set 47 ⟨0, 1⟩ } })).Go 0 ∧
    ltag (wstate.ctx.rv 1).tags 0 ≠ 0 ∧ (∀ l, l < 64 → ltag (wstate.ctx.rv 2).tags l = 0) ∧
    ((wstate.ctx.rm 0).tags = 0 ∧ ∀ j, j < 256 → (wstate.ctx.rm 0).bits.getLsbD j = true) ∧
    ((wstate.ctx.rm 4).tags = 0 ∧ ∀ j, j < 256 → (wstate.ctx.rm 4).bits.getLsbD j = false) ∧
    ((wstate.ctx.rm 2).tags = 0 ∧ (wstate.ctx.rm 2).bits.getLsbD 0 = true ∧ (wstate.ctx.rm 2).bits.getLsbD 255 = false) ∧
    (wstate.ctx.rm 1).tags ≠ 0 := by
  refine ⟨wgo, by decide, by decide, ?_, by decide +kernel⟩
  exact ⟨by constructor <;> decide, by constructor <;> decide⟩
/-- The header of the segment after the resident one, at 512 MiB, waits for fault service. -/
def wfar : State := { wcoreWith (fun k => { k with seq := { k.seq with half0 := some ⟨0, 0x20000000, List.replicate 4 ⟨0, false⟩⟩ } }) with
  kernels := [{ wkern with clen := 0x40000000 }]
  parts := (Vector.replicate 8 Part.reset).set 0 { wpart with frEn := true } }
theorem wgo_far : wfar.Go 0 where
  left := by constructor <;> decide
  right := by constructor <;> decide
/-- The link of a `call`, and the END of a loop of 4 bundles, lie in it; that of a `call` in wresident is known. -/
theorem test_meets_chain_waits : wfar.Go 0 ∧ (wfar.ctx.rs 4).tag = 0 ∧ (wfar.ctx.rs 5).tag = 0 ∧ (4 : BitVec 13) ≠ 0 ∧
    wfar.chainWaits 0 wfar.me.seq.fetch.pos 4 = some 0x20000000 ∧ wfar.chainWaits 0 wfar.me.seq.fetch.pos 5 = some 0x20000000 ∧
    wfar.chainWaits 0 wfar.me.seq.fetch.pos 3 = none ∧ wstate.chainWaits 0 wstate.me.seq.fetch.pos 4 = none :=
  ⟨wgo_far, by decide, by decide, by decide, by decide +kernel, by decide +kernel, by decide +kernel, by decide +kernel⟩
/-- A resident segment of four bundles. -/
def wresident : State := wcoreWith (fun k => { k with seq := { k.seq with half0 := some ⟨0, 0, List.replicate 4 ⟨0, false⟩⟩ } })
/-- Counts 0 (s4), 7 (s5) and poisoned (s6); a counter whose END is the present place, with 2, 1 and a poisoned count
left. -/
theorem test_meets_loops_and_delay_slots : wresident.Ready ∧ (1 : BitVec 13) ≠ 0 ∧ (1 : BitVec 3) ≠ 0 ∧
    wresident.me.Guarded 0 ∧ (wresident.ctx.rs 6).tag ≠ 0 ∧ (wresident.ctx.rs 4).tag = 0 ∧ (wresident.ctx.rs 4).val = 0 ∧
    (wresident.ctx.rs 5).val ≠ 0 ∧ wresident.forward wresident.focus wresident.me.seq.fetch.pos 2 = .ok ⟨0, 2⟩ ∧
    wresident.forward wresident.focus wresident.me.seq.fetch.pos 6 = .error ⟨0, 3⟩ ∧
    (∀ n t, let L : LoopCtr := ⟨n, t, ⟨0, 0⟩, some ⟨0, 0⟩, true⟩
      L.armed = true ∧ L.stop = some wresident.me.seq.fetch.pos) ∧
    1 < (2 : Word).toNat ∧ (1 : Word).toNat ≤ 1 ∧ (1 : Tag) ≠ 0 := by
  refine ⟨?_, by decide, by decide, ⟨by decide, by decide⟩, by decide, by decide, by decide, by decide, rfl, rfl,
    fun _ _ => ⟨rfl, rfl⟩, by decide⟩
  constructor <;> decide
/-- p3 is poisoned, p1 false; s5 has been written in the group; index 65536; an effect that a rewind repeats. -/
theorem test_meets_guards_and_indices : wstate.Ready ∧
    (encode (.drain true false 0 5) = some (0, 0x813A0000) ∧ (Instr.drain true false 0 5).wf = false) ∧
    (wstate.me.pred 3).tag ≠ 0 ∧ (Instr.addR .a 3 13 5 5).wf = true ∧ wstate.me.GuardFalse 1 ∧ wstate.me.Guarded 0 ∧
    RegId.s 5 ∈ idS 5 ∧
    ((wcoreWith (fun k => { k with seq := { k.seq with pushIdx := 65536 } })).Ready ∧
      (wcoreWith (fun k => { k with seq := { k.seq with pushIdx := 65536 } })).me.ctl.hm = false ∧
      65536 ≤ (wcoreWith (fun k => { k with seq := { k.seq with pushIdx := 65536 } })).idx) ∧
    ((wcoreWith (fun k => { k with seq := { k.seq with pix := 1 } })).Ready ∧
      (wcoreWith (fun k => { k with seq := { k.seq with pix := 1 } })).suppressed 0 (barAgent 5) 0 = true) := by
  refine ⟨wgo.1, ⟨rfl, by decide⟩, by decide, by decide, ⟨by decide, by decide⟩, wgo.2, by decide, ⟨?_, rfl, by decide⟩, ?_, rfl⟩
  · constructor <;> decide
  · constructor <;> decide
theorem test_meets_pitch_ends : wstate.Ready ∧ wstate.me.seq.preempt = none ∧ wstate.me.oldestPending = none ∧
    wstate.me.moveDue = none ∧ wstate.me.ctl.hm = false ∧
    (wcoreWith (fun k => { k with ctl := { k.ctl with hm := true } })).Ready := by
  refine ⟨wgo.1, rfl, by decide, by decide, rfl, ?_⟩
  constructor <;> decide
/-- A write of the running cairn's module to the first 512 MiB goes to stack 0, whatever memory holds. -/
theorem wlocate (m : List (Nat × Byte)) (b : List Nat) (va kid core : Nat) (h : va < 2 ^ 29) (hc : core = 0 ∨ core = noCore 0) :
    ({ wstate with
      mem := m
      bad := b } : State).locate ⟨va, 1, 2, kid, core⟩ = .at (.hbm 0 va false) := by
  have e1 : nbits va 54 10 = 0 := by unfold nbits; omega
  have e2 : nbits va 50 4 = 0 := by unfold nbits; omega
  have e3 : nbits va 0 50 = va := by unfold nbits; omega
  have p : wstate.stackPart 0 = some 0 ∧ wstate.clusterPart 0 = some 0 := by decide +kernel
  have q : (0 : Nat) = (wstate.modNum).toNat := by decide
  have a : (wstate.part 0).asidBase = 1 ∧ (wstate.part 0).asidCount = 15 := by decide +kernel
  have c : ({ wstate with
      mem := m
      bad := b } : State).requesterPart ⟨va, 1, 2, kid, core⟩ = some 0 := by
    have r : ({ wstate with
      mem := m
      bad := b } : State).clusterPart 0 = some 0 := p.2
    rcases hc with rfl | rfl <;> simp [State.requesterPart, noCore, r]
  have f : (wleaf.home == homeOf 0 va && wleaf.asid == 1 && wleaf.page == pageOf va wleaf.big) = true := by
    simp only [wleaf, homeOf, pageOf]; simp; omega
  have t : ({ wstate with
      mem := m
      bad := b } : State).tlbHit (homeOf 0 va) 1 va = some wleaf := by
    unfold State.tlbHit
    show List.find? _ [wleaf] = _
    simp only [List.find?_cons, f]
  have g : va % 2 ^ 29 = va := Nat.mod_eq_of_lt h
  unfold State.locate
  simp only [e1, e2, e3]
  rw [if_neg (by simpa using q), if_pos (by decide)]
  unfold State.locateUnit
  rw [if_neg (by simp [noCoreAt])]
  have o : ({ wstate with
      mem := m
      bad := b } : State).ownerOf ⟨va, 1, 2, kid, core⟩ 0 va = some 0 := p.1
  simp only [o, c, t]
  rw [if_neg (by
    show ¬ ¬ ((wstate.part 0).asidBase ≤ 1 ∧ 1 < (wstate.part 0).asidBase + (wstate.part 0).asidCount)
    rw [a.1, a.2]; omega)]
  show (if permits wleaf.leaf 2 then Tr.at (State.leafPlace _ 0 va wleaf.leaf wleaf.big 0) else _) = _
  rw [if_pos (by decide)]
  simp only [State.leafPlace, wleaf, g]
  simp [nbit, nbits]
/-- The save area stands at 0x10000 of stack 0 and the record at 0x300000, whatever else memory holds; a pop record. -/
theorem test_meets_save_areas :
    wstate.Canonical ∧ (wstate.cluster 0).runq = [] ∧ wcairn.save = 0x10000 ∧ wkern.recVa wcairn.ix = 0x300000 ∧
    0x10000 + 0x3550 ≤ 2 ^ 36 ∧ 0x300000 + 64 ≤ 2 ^ 36 ∧ hbmKey 0 0x10000 + 0x3550 ≤ hbmKey 0 0x300000 ∧
    (∀ (y : State) m b, y = { wstate with
        mem := m
        bad := b } →
      (∀ i, i < 0x3550 → y.locate (wkern.req (0x10000 + i) 2 0) = .at (.hbm 0 (0x10000 + i) false)) ∧
      ∀ i, i < 64 → y.locate (wkern.req (0x300000 + i) 2 (noCore 0)) = .at (.hbm 0 (0x300000 + i) false)) ∧
    (wagain.core 0).seq.recs.length = 1 := by
  refine ⟨rfl, by decide +kernel, rfl, rfl, by decide, by decide, by decide, fun y m b e => ?_, rfl⟩
  subst e
  exact ⟨fun i hi => wlocate m b _ _ _ (by omega) (.inl rfl), fun i hi => wlocate m b _ _ _ (by omega) (.inr rfl)⟩
/-- The word at 0x100 is 0: s4 matches it, s5 does not, s6 is poisoned; s9 lies outside. -/
theorem test_meets_suspensions : wstate.Go 0 ∧ wstate.Leaving wstate wkern wcairn ∧ wkern.home wcairn.vcl < 64 ∧
    wstate.me.ctl.hm = false ∧ wstate.me.seq.preempt = none ∧ wstate.openRecords [0] = .ready wstate ∧
    ((wstate.ctx.rs 1).tag = 0 ∧ (wstate.ctx.rs 1).val.toNat / 4 * 4 = 0x100 ∧ wstate.ctx.canRead 0x100 = true ∧
      wstate.wordTag 0 1 0x100 = 0 ∧ wstate.padRead 0 1 0x100 4 = (wstate.ctx.rs 4).val.toNat ∧
      wstate.padRead 0 1 0x100 4 ≠ (wstate.ctx.rs 5).val.toNat) ∧
    ((wstate.ctx.rs 6).tag ≠ 0 ∧ wstate.ctx.canRead 0x3000000 = false) ∧
    (wstate.running 0 = some (wkern, wcairn) ∧ 4 ≤ wcairn.pin) ∧
    (let x := wcoreWith (fun k => { k with seq := { k.seq with preempt := some 0 } })
     x.Go 0 ∧ x.me.seq.preempt.isSome = true ∧ x.Leaving x wkern wcairn) ∧
    (let q : Cairn := { wcairn with pin := 1 }
     let x : State := { wstate with kernels := [{ wkern with cairns := [q] }] }
     x.Go 0 ∧ x.Leaving x { wkern with cairns := [q] } q ∧ q.pin < 4) ∧
    (let x := wcoreWith (fun k => { k with ctl := { k.ctl with hm := true } })
     x.Go 0 ∧ x.me.ctl.hm = true ∧ x.Leaving x wkern wcairn) := by
  refine ⟨wgo, wleaving, by decide, rfl, rfl, rfl, by decide, by decide, ⟨rfl, by decide⟩, ⟨?_, rfl, ?_⟩, ⟨?_, ?_, by decide⟩, ?_, rfl, ?_⟩
  · exact ⟨by constructor <;> decide, by constructor <;> decide⟩
  · exact ⟨by decide, by decide, rfl, rfl, rfl⟩
  · exact ⟨by constructor <;> decide, by constructor <;> decide⟩
  · exact ⟨by decide, by decide, rfl, rfl, rfl⟩
  · exact ⟨by constructor <;> decide, by constructor <;> decide⟩
  · exact ⟨by decide, by decide, rfl, rfl, rfl⟩
/-- A barrier of the kernel with a count, one at 0; the service ring off, open and full. -/
def wring (on : Bool) (prod : Word) : State :=
  let p : Part := { wpart with
    srEn := on
    srprod := prod }
  { wstate with parts := (Vector.replicate 8 Part.reset).set 0 p }
def wbars : State := wcoreWith (fun k => { k with bars := (k.bars.set 5 ⟨2, 1⟩).set 6 ⟨0, 1⟩ })
theorem wgo_ring : (wring false 0).Go 0 ∧ (wring true 0).Go 0 ∧ (wring true 16).Go 0 := by
  refine ⟨⟨?_, ?_⟩, ⟨?_, ?_⟩, ?_, ?_⟩ <;> constructor <;> decide
/-- A flush of core 0 that its engine has not taken. -/
def wpushed : State := wcoreWith (fun k => { k with fifos := k.fifos.set 32 ⟨[⟨1, .flush, 0, 0⟩], 0⟩ })
theorem wgo_pushed : wpushed.Go 0 where
  left := by constructor <;> decide
  right := by constructor <;> decide
theorem wgo_bars : wbars.Go 0 where
  left := by constructor <;> decide
  right := by constructor <;> decide
theorem test_meets_barriers_and_requests : wstate.Go 0 ∧ (4 : BitVec 3).toNat < 5 ∧ wstate.focus < 256 ∧
    (wstate.ctx.rs 5).tag = 0 ∧ (wstate.ctx.rs 6).tag ≠ 0 ∧ wstate.Fresh (barAgent 5) ∧
    wstate.drainHolds wstate.focus (0 : BitVec 3).toNat = false ∧ (wpushed.Go 0 ∧ wpushed.drainHolds 0 (0 : BitVec 3).toNat = true) ∧
    (wbars.Go 0 ∧ wbars.Fresh (barAgent 5) ∧ wbars.bar 0 5 = ⟨2, 1⟩ ∧ wbars.bar 0 6 = ⟨0, 1⟩ ∧ wbars.bar 0 7 = ⟨0, 0⟩ ∧
      wbars.me.ctl.kid = 1) ∧
    ((wring false 0).Go 0 ∧ (wring true 0).Go 0 ∧ (wring true 16).Go 0) ∧ ((wring false 0).Fresh agRing ∧ (wring false 0).corePart 0 = 0) ∧
    ((wring true 0).Fresh agRing ∧ ¬ 2 ^ 4 ≤ ((0 : Word) - 0).toNat ∧
      (wring true 0).ringPlace 0 0 4 16 0 = some (.hbm 0 0 false)) ∧
    ((wring true 16).Fresh agRing ∧ 2 ^ 4 ≤ ((16 : Word) - 0).toNat) :=
  ⟨wgo, by decide, by decide, by decide, by decide, wfresh rfl rfl, by decide +kernel, ⟨wgo_pushed, by decide +kernel⟩, ⟨wgo_bars, wfresh rfl rfl, by decide⟩, wgo_ring,
    ⟨wfresh rfl rfl, by decide +kernel⟩, ⟨wfresh rfl rfl, by decide +kernel⟩, wfresh rfl rfl, by decide⟩
theorem test_meets_control_register_reads : wstate.Go 0 ∧ sDst 13 = true ∧ wstate.me.regions[0]? =
      some ⟨0, 0, true, true, true, true, 0x7FFFF, 1⟩ ∧ (wmats [] wone 0).Go 0 ∧ (wmats [] wone 0).Owns ∧ ¬ wstate.Owns ∧
    (0xCB ≤ (0xCB : BitVec 12).toNat ∧ (0xFF : BitVec 12).toNat ≤ 0xFF) ∧ cregAssigned 7 = false ∧ cregAssigned 0x100 = false :=
  ⟨wgo, by decide, by decide, wgo_mats .., rfl, by unfold State.Owns; decide, by decide⟩
theorem test_meets_control_register_writes : wstate.Go 0 ∧ (wstate.ctx.rs 5).tag = 0 ∧ (wstate.ctx.rs 6).tag ≠ 0 ∧
    wstate.me.regions[7]? = some Region.zero ∧ wstate.me.margin.sub = true ∧
    (wcoreWith (fun k => { k with margin := { k.margin with sub := false } })).Go 0 ∧
    (wmats [] wone 0).Owns ∧ ¬ wstate.Owns ∧ cregAssigned 0x23 = true ∧ cregAssigned 0x2B = false ∧
    (0x66 : BitVec 12) ∈ ([0, 1, 2, 3, 4, 5, 6, 8, 9, 0x22, 0x50, 0x51, 0x52, 0x65, 0x66, 0xA0] : List (BitVec 12)) := by
  refine ⟨wgo, by decide, by decide, by decide, rfl, ?_, rfl, by unfold State.Owns; decide, by decide, by decide, by decide⟩
  exact ⟨by constructor <;> decide, by constructor <;> decide⟩
/-- With and without a handler, in handler mode, after reads that a rewind would not repeat. -/
theorem test_meets_traps_and_returns : wstate.Go 0 ∧ wstate.openSaves [0] = .ready wstate ∧
    wstate.running 0 = some (wkern, wcairn) ∧ wkern.outcome = none ∧ wstate.me.ctl.hm = false ∧
    wstate.me.seq.dirty = false ∧ wstate.me.seq.popsOver = false ∧ wstate.me.ctl.hndl = 0xFFFFFFFF ∧
    (let x := wcoreWith (fun k => { k with
      ctl := { k.ctl with hndl := 0 }
      seq := { k.seq with dirty := true } })
     x.Go 0 ∧ x.openSaves [0] = .ready x ∧ x.me.ctl.hndl ≠ 0xFFFFFFFF ∧ x.me.seq.dirty = true) ∧
    (let x := wcoreWith (fun k => { k with seq := { k.seq with popsOver := true } })
     x.Go 0 ∧ x.openSaves [0] = .ready x ∧ x.me.seq.popsOver = true) ∧
    (let x := wcoreWith (fun k => { k with ctl := { k.ctl with hm := true } })
     x.Go 0 ∧ x.openRecords [0] = .ready x ∧ x.running 0 = some (wkern, wcairn) ∧ x.me.ctl.hm = true ∧
     x.me.seq.preempt = none ∧ x.me.refusal = none ∧
     (x.ctx.rs 1).tag = 0 ∧ (x.ctx.rs 6).tag ≠ 0) ∧
    (let x := wcoreWith (fun k => { k with
      ctl := { k.ctl with hm := true }
      seq := { k.seq with dirty := true } })
     x.Go 0 ∧ x.me.seq.preempt = none ∧ x.me.refusal ≠ none) := by
  refine ⟨wgo, rfl, rfl, rfl, rfl, rfl, rfl, rfl, ⟨?_, rfl, by decide, rfl⟩, ⟨?_, rfl, rfl⟩,
    ⟨?_, rfl, rfl, rfl, rfl, by decide, by decide, by decide⟩, ⟨?_, rfl, by decide⟩⟩
  all_goals exact ⟨by constructor <;> decide, by constructor <;> decide⟩

/-! ### The hypotheses of each statement are met: steps beside the instructions of a bundle -/

/-- Core 0 faces word w in slot k, perhaps held. -/
def wface (h : Option Hold) (k w : Nat) (f : Core → Core) : State := wcoreWith (fun x => f { x with seq := { x.seq with
  half0 := some ⟨0, 0, [fetchBundle k w]⟩
  hold := h } })
def wpopState : State := wface (some .pop) 7 0x00703400 (fun k => { k with fifos := k.fifos.set 16 ⟨[welem], 0⟩ })
def wbarState : State := wface (some .barwait) 0 0x80F0C000 (fun k => { k with bars := k.bars.set 6 ⟨0, 1⟩ })
def wdrainState : State := wface (some (.drain 4 false)) 1 0x00268418 id
def wswapState : State := wface (some .matrixQueue) 6 0x00600000 (fun k => { k with mat := wmat })
def wtileState : State := wface (some (.tile 1)) 6 0x00A40000 (fun k => { k with mat := wmat })
def wpoolState : State := wface (some .push) 7 0x01C01200 (fun k => { k with regs := { k.regs with
  s := k.regs.s.set 54 ⟨0x20000000, 0⟩ } })
/-- A segment of one empty bundle (R116, R117), for which issue waits. -/
def wseg : List (Nat × Byte) := [(hbmKey 0 6, 1), (hbmKey 0 14, 0x4F), (hbmKey 0 15, 5)]
def wcoreSeq (f : Seq → Seq) (m : List (Nat × Byte)) : State :=
  { wcoreWith (fun k => { k with seq := f k.seq }) with mem := m }
def wwaits : State := wcoreSeq (fun q => { q with hold := some .expand }) wseg
/-- A loop ripe for a bivouac; a request to leave, granted at a Q bundle that drained; two waiting `rope`s. -/
def wripe : State := wcoreWith (fun k => { k with
  ctl := { k.ctl with bvn := 8 }
  seq := { k.seq with watch := { k.seq.watch with
    iters := 8
    load := some (4, 77) } } })
def wasked : State := wcoreWith (fun k => { k with seq := { k.seq with
  preempt := some 0
  hold := some (.drain 0 true) } })
def wlate : State := { wcoreWith (fun k => { k with
  ctl := { k.ctl with maxp := 1 }
  seq := { k.seq with preempt := some 0 } }) with cycle := 4 }
def wcairnA : Cairn := ⟨0, .running, 1, 4, 0, 0, 0, false, none, 0, 0, some 0, 0x10000, 0⟩
def wcairnB : Cairn := ⟨1, .running, 1, 5, 0, 0, 0, false, none, 0, 0, some 0, 0x20000, 0⟩
def wkernAB : Kernel := { wkern with cairns := [wcairnA, wcairnB] }
def wrope : State :=
  let at_ (ix : Nat) : Core := { wcore with
    run := some (1, ix)
    seq := { wcore.seq with hold := some (.rope 0) } }
  { wstate with
    cores := ((Vector.replicate 256 (Core.reset)).set 0 (at_ 0)).set 1 (at_ 1)
    kernels := [wkernAB] }

/-- p0 reads as a clean 1, so no guard of 0 is false. -/
theorem wguard {s : State} : s.me.Guarded 0 := ⟨rfl, rfl⟩
theorem test_meets_waiting_bundles_issue :
    (∀ s : State, s.me.Guarded 0) ∧
    ((wface none 1 0x00268418 id).Facing none 1 0x00268418 (.addR .a 0 13 2 3) ∧
     (wface none 1 0x80268418 id).Facing none 1 0x80268418 (.addR .a 8 13 2 3)) ∧
    (let x := wface none 1 0x90268418 (fun k => { k with regs := { k.regs with p := k.regs.p.set 1 ⟨true, 0⟩ } })
     x.me.Guarded 1 ∧ x.Facing none 1 0x90268418 (.addR .a (1 ^^^ 8) 13 2 3) ∧ (x.me.seq.predVis[1]?).getD 0 = 0) ∧
    (wface none 1 0 id).Facing none 1 0 (.nopK 1 0) ∧
    (wpopState.Facing (some .pop) 7 0x00703400 (.spop 0 16 13) ∧ wpopState.Taking ∧
      (wpopState.me.headOf 16 wpopState.me.ctl.kid).isSome = true) ∧
    (let x := wface (some .push) 7 0x00301400 id
     x.Facing (some .push) 7 0x00301400 (.spush 0 16 5) ∧ x.Fresh agSwitch ∧ (x.ctx.rs 5).tag = 0 ∧
      0 < x.me.outRoom x.focus 16 x.me.ctl.kid) := by
  refine ⟨fun _ => wguard, ⟨?_, ?_⟩, ⟨⟨rfl, rfl⟩, ?_, rfl⟩, ?_, ⟨?_, rfl, by decide +kernel⟩, ?_, ⟨.inr (by decide), rfl⟩,
    by decide +kernel, by decide +kernel⟩
  all_goals constructor <;> first | rfl | decide +kernel | (constructor <;> decide +kernel)
theorem test_meets_waiting_bundles_issue_2 :
    (wbarState.Facing (some .barwait) 0 0x80F0C000 (.barwait true false 0 6) ∧ wbarState.bar 0 6 = ⟨0, 1⟩) ∧
    (wdrainState.me.seq.hold = some (.drain 4 false) ∧ wdrainState.me.run.isSome = true ∧ wdrainState.me.seq.preempt = none ∧
      wdrainState.drainHolds 0 4 = false) ∧
    (let x := wface (some .sys) 0 0x81500007 id
     x.Facing (some .sys) 0 0x81500007 (.sys true false 0 7) ∧ x.Fresh agRing ∧ x.sysFull 0 = false) ∧
    (wswapState.Facing (some .matrixQueue) 6 0x00600000 (.mswap 0 0 0) ∧ wswapState.Fresh agMatrix ∧ wswapState.Owns ∧
      wswapState.me.mat.queue = []) ∧
    (wtileState.Facing (some (.tile 1)) 6 0x00A40000 (.tzero 0 1) ∧ wtileState.Owns ∧ wtileState.me.mat.queue = [] ∧
      (wtileState.me.mat.tile 1).st = .zero) ∧
    (let x := wface (some .tsh) 3 0x04210808 id
     x.Facing (some .tsh) 3 0x04210808 (.tsh 0 1 1 0 1 0) ∧ (x.ctx.rs 1).tag = 0 ∧
      (∀ j, j < 256 → mtag (x.ctx.rm 0).tags j = 0) ∧
      ∀ j, j < 256 → x.me.readable 1 (0x100 + 16 * ((j / 16 + 15) % 16)) = true ∧
        x.me.writable 1 (0x100 + j / 16 * 16) = true ∧ x.wordTag 0 1 (0x100 + 16 * ((j / 16 + 15) % 16)) ≠ 2) ∧
    (wpoolState.Facing (some .push) 7 0x01C01200 (.mgpush 0 2 2) ∧ wpoolState.Fresh agMerge ∧ wpoolState.Pinned ∧
      wpoolState.ctx.rs 54 = ⟨0x20000000, 0⟩ ∧ 0 < wpoolState.poolFree 0) := by
  refine ⟨⟨?_, rfl⟩, ⟨rfl, rfl, rfl, by decide +kernel⟩, ⟨?_, ⟨.inr (by decide), rfl⟩, by decide +kernel⟩,
    ⟨?_, ⟨.inr (by decide), rfl⟩, rfl, rfl⟩, ⟨?_, rfl, rfl, rfl⟩, ⟨?_, rfl, by decide +kernel, by decide +kernel⟩,
    ?_, ⟨.inr (by decide), rfl⟩, rfl, rfl, by decide +kernel⟩
  all_goals constructor <;> first | rfl | decide +kernel | (constructor <;> decide +kernel)
set_option maxRecDepth 20000 in
theorem test_meets_sequencer_events :
    ((0 : Nat) < 256 ∧ (wwaits.core 0).ctl.ropeW = 0 ∧ wwaits.running 0 = some (wkern, wcairn) ∧ wwaits.wantedSeg 0 = some 0 ∧
      wwaits.expand wkern 0 0 = .ok wwaits ⟨0, 0, [⟨0, false⟩]⟩ ∧ (wwaits.core 0).seq.hold = some .expand) ∧
    (let x : State := { wwaits with tlb := [] }
     (x.core 0).ctl.ropeW = 0 ∧ x.running 0 = some (wkern, wcairn) ∧ x.wantedSeg 0 = some 0 ∧ x.expand wkern 0 0 = .fail x ∧
      x.kernel 1 = some wkern ∧ wkern.outcome = none) ∧
    (wripe.mayIssue [0] = true ∧ (wripe.core 0).seq.hold = none ∧ (wripe.core 0).ripe = true ∧ (wripe.core 0).seq.watch.load = some (4, 77) ∧
      wripe.openSaves [0] = .ready wripe ∧ wripe.running 0 = some (wkern, wcairn)) ∧
    (wasked.grantable 0 = true ∧ wasked.openSaves [0] = .ready wasked ∧ wasked.running 0 = some (wkern, wcairn)) ∧
    ((wlate.core 0).run.isSome = true ∧ (wlate.core 0).seq.preempt = some 0 ∧ (wlate.core 0).ctl.maxp = 1 ∧
      (wlate.core 0).seq.overrun = false ∧ (wlate.core 0).seq.owes = none ∧ (wlate.core 0).owesClaim = false ∧
      (wlate.core 0).seq.hold = none ∧ wlate.grantable 0 = false ∧
      0 + 4 * 1 ≤ wlate.cycle ∧ (wlate.core 0).ctl.hm = false) ∧
    (wrope.running 0 = some (wkernAB, wcairnA) ∧ wrope.running 1 = some (wkernAB, wcairnB) ∧
      wkernAB.cairns.find? (fun x => x.vcl == 0 && x.pin == 4) = some wcairnA ∧
      wkernAB.cairns.find? (fun x => x.vcl == 0 && x.pin == 5) = some wcairnB ∧
      (∀ d, d < 4 → (wrope.core d).seq.owes = none) ∧ (wrope.core 0).moveDue = none ∧ (wrope.core 1).moveDue = none ∧
      (wrope.core 0).seq.hold = some (.rope 0) ∧ (wrope.core 1).seq.hold = some (.rope 0)) := by
  refine ⟨⟨by decide, rfl, rfl, rfl, ?_, rfl⟩, ⟨rfl, rfl, rfl, ?_, rfl, rfl⟩, ⟨rfl, rfl, rfl, rfl, rfl, rfl⟩, ⟨rfl, rfl, rfl⟩,
    ⟨rfl, rfl, rfl, rfl, rfl, rfl, rfl, rfl, by decide, rfl⟩, rfl, rfl, by decide, by decide, by decide +kernel, by decide +kernel,
    by decide +kernel, rfl, rfl⟩
  all_goals rfl

/-- A pair whose members read the same at s1 and s2, differ at s5 in core 1 alone; a tag in s6 of both, and in one alone. -/
theorem test_meets_pairs : wpair.Paired 0 0 ∧ (Instr.addR .a 0 13 2 3).wf = true ∧
    (∀ k, k = 0 ∨ k = 1 → (wpair.ctxOf k).rs 1 = (wpair.ctxOf k).rs 1) ∧
    ((wpair.ctxOf 1).rs 5 ≠ (wpair.ctxOf 1).rs 13 ∧ (wpair.ctxOf 0).rs 5 ≠ (wpair.ctxOf 0).rs 13) ∧
    (wtorn.Paired 0 0 ∧ (wtorn.ctxOf 0).rs 5 ≠ (wtorn.ctxOf 0).rs 13 ∧ (wtorn.ctxOf 1).rs 5 = (wtorn.ctxOf 1).rs 13) ∧
    (wtagged.Paired 0 0 ∧ ((wtagged.ctxOf 0).rs 5).tag ≠ 0 ∧ ((wtagged.ctxOf 1).rs 5).tag = 0) ∧
    (((wpair.ctxOf 0).rs 5).tag = 0 ∧ ((wpair.ctxOf 1).rs 5).tag = 0) := by
  exact ⟨wpaired, by decide, fun _ _ => rfl, by decide, ⟨wpaired_torn, by decide⟩, ⟨wpaired_tagged, by decide⟩, by decide⟩
/-- wstate with the margin state, the bundle's replays and the time changed. -/
def wmargin (f : Margin → Margin) (replays now : Nat) (h : Option Hold) (r : Option (Word × Nat)) : State :=
  { wcoreWith (fun k => { k with
      run := r
      margin := f k.margin
      seq := { k.seq with
        replays := replays
        hold := h } }) with cycle := now }
/-- Below the guard voltage with no window. -/
def wlow (m : Margin) : Margin := { m with
  rpw := 0
  cur := m.gua - 1 }
/-- At the end of a window with too many replays for the fourth time. -/
def wworst (m : Margin) : Margin := { m with
  win := 65
  strk := 3 }
def wpend (m : Margin) : Margin := { m with pend := true }
theorem test_meets_margin_events :
    (let x := wmargin id 2 5 none (some (1, 0))
     (x.core 0).ctl.ropeW = 0 ∧ (x.core 0).run.isSome = true ∧ x.blocked 0 = false ∧ (x.core 0).seq.replays = 2 ∧
      (x.core 0).margin.lim = 3 ∧ ¬ (x.core 0).margin.thr < 1) ∧
    (let x := wmargin wlow 3 5 none (some (1, 0))
     x.blocked 0 = false ∧ (x.core 0).seq.hold = none ∧ (x.core 0).seq.replays = 3 ∧
      (x.core 0).margin.cur < (x.core 0).margin.gua ∧ (x.core 0).margin.rpw = 0) ∧
    (let x := wmargin id 3 5 none (some (1, 0))
     x.blocked 0 = false ∧ ¬ (x.core 0).margin.cur < (x.core 0).margin.gua ∧ (x.core 0).ctl.hm = false ∧
      (x.core 0).refusal = none ∧ (x.noteFirst 0).openSaves [0] = .ready x ∧ x.running 0 = some (wkern, wcairn)) ∧
    (let x := wface none 1 0x00268418 id
     let b := (fetchBundle 1 0x00268418).decode
     x.due 0 = some b ∧ (x.core 0).seq.first = none ∧ holdsOf true (State.judge { x with lit := b.lit } 0 b) = []) ∧
    ((wmargin id 3 5 (some .supply) (some (1, 0))).core 0).seq.hold = some .supply ∧
    (let x := wmargin id 3 1048576 none (some (1, 0))
     (x.core 0).margin.rpw ≠ 0 ∧ (x.core 0).margin.winStart + max 1024 (x.core 0).margin.rpw.toNat ≤ x.cycle ∧
      (x.core 0).margin.win = 0) ∧
    (let x := wmargin wworst 3 1048576 none (some (1, 0))
     (x.core 0).margin.rpw ≠ 0 ∧ (x.core 0).margin.winStart + max 1024 (x.core 0).margin.rpw.toNat ≤ x.cycle ∧
      (x.core 0).margin.thr < (x.core 0).margin.win ∧ (x.core 0).margin.strk = 3 ∧ (x.core 0).margin.quar = false ∧
      (x.core 0).margin.pend = false ∧ (x.core 0).run.isSome = true) ∧
    (let x := wmargin wpend 3 5 none none
     (x.core 0).margin.pend = true ∧ (x.core 0).run = none ∧ ∀ n ∈ x.kernels, n.inPhase = true →
      (x.quarantineNow 0).stuckKernel n.kid = false) ∧
    ((wstate.core 0).run.isSome = true ∧ (wstate.core 0).seq.upset = none ∧ (wstate.core 0).refusal = none ∧
      (wstate.core 0).seq.hold = none) := by
  refine ⟨⟨rfl, rfl, rfl, rfl, rfl, by decide⟩, ⟨rfl, rfl, rfl, by decide, rfl⟩, ⟨rfl, by decide, rfl, rfl, rfl, rfl⟩,
    ⟨rfl, rfl, rfl⟩, rfl, ⟨by decide, by decide, rfl⟩, ⟨by decide, by decide, by decide, rfl, rfl, rfl, rfl⟩, ⟨rfl, rfl, by decide +kernel⟩,
    rfl, rfl, rfl, rfl⟩

/-- wstate idle or not, at a time, with tower 3, tower 4, the spare towers, the columns of physical tower 3 and the
deferral time as given. -/
def wtower (r : Option (Word × Nat)) (now : Nat) (t : Tower) (sp : List Nat) (l : Option (Nat × Nat))
    (cols : List ColRemap := []) (t4 : Tower := ⟨0, none, none, some 4, [], []⟩) : State :=
  { wcoreWith (fun k => { k with
      run := r
      towers := (k.towers.set 4 t4).set 3 t
      cols := (Vector.replicate 18 []).set 3 cols
      spareTowers := sp
      leftSince := l }) with cycle := now }
/-- Tower 3 without a place of its own, with a column to be served, with a pass pending and running. -/
def wtPlain : Tower := ⟨0, none, none, some 3, [], []⟩
def wtNone : Tower := { wtPlain with phys := none }
def wtMoving : Tower := { wtPlain with moving := [(0, 5)] }
def wtPending : Tower := { wtPlain with pendSince := some 5 }
def wtRunning : Tower := { wtPlain with running := some 5 }
/-- The four spare columns of a read bus, all in use. -/
def wfour : List ColRemap := [⟨0, 1, 0⟩, ⟨0, 2, 1⟩, ⟨0, 3, 2⟩, ⟨0, 4, 3⟩]
/-- No tower of core 0 but tower 3 has a pass pending or running, or waits for a spare. -/
theorem wrest_all : ∀ j : Fin 16, let t := (wcore.towers.set 4 ⟨0, none, none, some 4, [], []⟩)[j]
    t.running = none ∧ t.pendSince = none ∧ t.moving = [] := by decide +kernel
theorem wrest (r : Option (Word × Nat)) (now : Nat) (x : Tower) (sp : List Nat) (l : Option (Nat × Nat)) (i : Nat) (t : Tower)
    (h0 : i ≠ 3) (h : ((wtower r now x sp l).core 0).towers[i]? = some t) :
    t.running = none ∧ t.pendSince = none ∧ t.moving = [] := by
  have hi : i < 16 := (Vector.getElem?_eq_some_iff.mp h).1
  have e : ((wcore.towers.set 4 ⟨0, none, none, some 4, [], []⟩).set 3 x)[i]? = some t := h
  rw [Vector.getElem?_eq_getElem hi, Vector.getElem_set_ne _ _ (Ne.symm h0)] at e
  injection e with e
  exact e ▸ wrest_all ⟨i, hi⟩
set_option maxRecDepth 4000 in
/-- A column is left; none is left with a spare tower, and without one; a tower without a place; a move to a spare that
is not and is the last while tower 4 waits; passes of refresh. -/
theorem test_meets_tower_events :
    (let x := wtower (some (1, 0)) 5 wtPlain [16] none
     (x.core 0).towers[3]? = some wtPlain ∧ wtPlain.phys = some 3 ∧ columnsLeft ((x.core 0).colsOf 3) 0 ≠ 0) ∧
    (let x := wtower (some (1, 0)) 5 wtPlain [16] none wfour
     (x.core 0).towers[3]? = some wtPlain ∧ columnsLeft ((x.core 0).colsOf 3) 0 = 0 ∧ (x.core 0).spareTowers ≠ []) ∧
    (let x := wtower none 5 wtPlain [] none wfour
     columnsLeft ((x.core 0).colsOf 3) 0 = 0 ∧ (x.core 0).spareTowers = [] ∧ (x.core 0).run = none ∧
      (x.core 0).margin.quar = false ∧ (x.core 0).margin.pend = false) ∧
    ((wtower none 5 wtNone [16] none).core 0).towers[3]? = some wtNone ∧ wtNone.phys = none ∧
    (let x := wtower none 5 wtMoving [16] none
     (x.core 0).towers[3]? = some wtMoving ∧ (x.core 0).spareTowers = [16] ∧ wtMoving.moving ≠ [] ∧
      (x.core 0).run = none ∧ (x.core 0).seq.hold = none ∧
      ¬ ∃ (i : Nat) (t : Tower), i ≠ 3 ∧ (x.core 0).towers[i]? = some t ∧ t.moving ≠ []) ∧
    (let x := wtower none 5 wtMoving [16] none [] wtMoving
     (x.core 0).towers[3]? = some wtMoving ∧ (x.core 0).towers[4]? = some wtMoving ∧ (x.core 0).spareTowers = [16] ∧
      (x.core 0).run = none ∧ (x.core 0).seq.hold = none ∧ (x.core 0).margin.pend = false) ∧
    (let x := wtower none 16000000000 wtPlain [16] none
     (x.core 0).towers[3]? = some wtPlain ∧ wtPlain.pendSince = none ∧ wtPlain.running = none ∧
      wtPlain.lastPass + x.refreshInterval ≤ x.cycle) ∧
    (let x := wtower none 16000000000 wtPending [16] (some (5, 0))
     (x.core 0).towers[3]? = some wtPending ∧ wtPending.pendSince.isSome = true ∧ x.deferNow (x.core 0) = 0 ∧
      x.deferLeft (x.core 0) = 0 ∧ (x.core 0).leftSince = some (5, 0) ∧ (x.core 0).run = none ∧
      (¬ ∃ (i : Nat) (t : Tower), (x.core 0).towers[i]? = some t ∧ t.running.isSome = true) ∧
      ¬ ∃ (i : Nat) (t : Tower), i ≠ 3 ∧ (x.core 0).towers[i]? = some t ∧ t.pendSince.isSome = true) ∧
    (let x := wtower none 2000005 wtRunning [16] none
     (x.core 0).towers[3]? = some wtRunning ∧ wtRunning.running = some 5 ∧ 5 + 2000000 ≤ x.cycle ∧ wtRunning.pendSince = none ∧
      ¬ ∃ (i : Nat) (t : Tower), i ≠ 3 ∧ (x.core 0).towers[i]? = some t ∧ (t.pendSince.isSome = true ∨ t.running.isSome = true)) ∧
    (let x := wtower none 2000005 wtRunning [16] none [] wtPending
     (x.core 0).towers[3]? = some wtRunning ∧ (x.core 0).towers[4]? = some wtPending ∧ wtPending.pendSince.isSome = true) := by
  refine ⟨⟨rfl, rfl, by decide⟩, ⟨rfl, by decide, by decide⟩, ⟨by decide, rfl, rfl, rfl, rfl⟩, rfl, rfl,
    ⟨rfl, rfl, by decide, rfl, rfl, ?_⟩, ⟨rfl, rfl, rfl, rfl, rfl, rfl⟩, ⟨rfl, rfl, rfl, by decide⟩,
    ⟨rfl, rfl, by decide +kernel, by decide +kernel, rfl, rfl, ?_, ?_⟩, ⟨rfl, rfl, by decide, rfl, ?_⟩, rfl, rfl, rfl⟩
  · rintro ⟨i, t, h0, h1, h2⟩; exact h2 (wrest _ _ _ _ _ i t h0 h1).2.2
  · rintro ⟨i, t, h1, h2⟩
    by_cases h0 : i = 3
    · subst h0; cases h1; cases h2
    · rw [(wrest _ _ _ _ _ i t h0 h1).1] at h2; cases h2
  · rintro ⟨i, t, h0, h1, h2⟩; rw [(wrest _ _ _ _ _ i t h0 h1).2.1] at h2; cases h2
  · rintro ⟨i, t, h0, h1, h2⟩; rw [(wrest _ _ _ _ _ i t h0 h1).1, (wrest _ _ _ _ _ i t h0 h1).2.1] at h2; rcases h2 with h | h <;> cases h

/-- Core 0 without a cairn; cairn 0 of kernel 1 in the state x, in the run queue l of cluster 0, watched by m. -/
def wwait (x : Cairn) (l : List (Word × Nat)) (m : List Monitor) (now : Nat) : State :=
  { wcoreWith (fun k => { k with run := none }) with
    kernels := [{ wkern with cairns := [x] }]
    clusters := wstate.clusters.set 0 { wstate.cluster 0 with runq := l }
    monitors := m
    cycle := now }
def wparked : Cairn := { wcairn with st := .parked }
def wready : Cairn := { wcairn with st := .ready }
/-- A monitor that saw a store, and one whose time is over after 8 cycles (R71). -/
def wmon (hit : Bool) : Monitor := ⟨1, 0, 2, 7, 0, if hit then 0 else 1, hit⟩
/-- The record of cairn 0, pinned to position 0, as memory holds it (R47, R53). -/
def wrec : BitVec 512 := recSeal (recPut (recPut (recPut 0 128 64 0x10000) 288 13 1) 317 3 4)
def wrecBytes : List Byte := bytesLE 64 wrec.toNat
/-- Kernel 1 before its phase, the phase's size being n, its schedule of one cairn at a template. -/
def wnext : Kernel := { wkern with
  started := false
  cairns := [] }
def wphase (n : Nat) (template : List Byte) : State :=
  { wcoreWith (fun k => { k with run := none }) with
    kernels := [wnext]
    mem := [(hbmKey 0 0x200004, 1), (hbmKey 0 0x200006, 1), (hbmKey 0 0x200012, (0x50 : Byte))] ++
      (if n = 0 then [] else [(hbmKey 0 0x400000, BitVec.ofNat 8 n)]) }.write (hbmKey 0 0x500000) template

/-- Cairn 0 is READY and its record stands in memory; its save area is empty. -/
def wpick : State := (wwait wready [(1, 0)] [] 8).write (hbmKey 0 0x300000) wrecBytes
set_option maxRecDepth 100000 in
set_option exponentiation.threshold 2048 in
theorem test_meets_cairn_events :
    (∀ b, (wwait wparked [] [wmon b] 9).kernel 1 = some { wkern with cairns := [wparked] }) ∧ wkern.outcome = none ∧
    ({ wkern with cairns := [wparked] } : Kernel).cairn 0 = some wparked ∧ wkern.home 0 < 64 ∧
    (∀ b, (wwait wparked [] [wmon b] 9).monitors.find? (fun m => m.kid == 1 && m.cix == 0) = some (wmon b)) ∧
    (∀ b, (wwait wparked [] [wmon b] 9).openAll 1 1 4096 (.kernel 1) [(0x300000, 2, 64)] =
      .ready (wwait wparked [] [wmon b] 9)) ∧ wparked.ropew = 0 ∧
    (∀ b, let x := wwait wparked [] [wmon b] 9
     let k : Kernel := { wkern with cairns := [wparked] }
     State.openCairns k (((k.ropeOf wparked).filter (fun y => x.monitors.any (fun m => m.kid == k.kid && m.cix == y.ix))).map (·.ix)) x =
      .ready x) ∧
    (wmon true).hit = true ∧ (wmon false).tmo ≠ 0 ∧ (wmon false).since + (8 + 1 % 8) * 2 ^ (1 / 8) ≤ 9 ∧
    (let x := wwait wready [(1, 0)] [] 65536
     x.kernel 1 = some { wkern with cairns := [wready] } ∧ wready.st = .ready ∧ (x.cluster 0).age.toNat = 65536 ∧
      wready.pri + wready.level < 3 ∧ wready.since + 65536 * (wready.level + 1) ≤ x.cycle) ∧
    (wpick.choice 0 = some ({ wkern with cairns := [wready] }, wready) ∧ wready.ropew = 0 ∧
      wpick.readCairn 0 { wkern with cairns := [wready] } 0 = .ok wpick wrec none) := by
  refine ⟨fun b => rfl, rfl, rfl, by decide, fun b => ?_, fun b => ?_, rfl, fun b => ?_, rfl, by decide, by decide,
    ⟨rfl, rfl, by decide, by decide, by decide⟩, by decide +kernel, rfl, rfl⟩
  all_goals cases b <;> rfl
set_option maxRecDepth 100000 in
set_option exponentiation.threshold 2048 in
/-- No schedule for the size, no sound record, and a phase that starts. -/
theorem test_meets_phase_starts :
    (∀ x ∈ [wphase 1 [], wphase 0 [], wphase 0 wrecBytes], x.kernel 1 = some wnext) ∧ wnext.outcome = none ∧ wnext.started = false ∧
    (∃ a b, (wphase 1 []).fetchObj (.kernel 1) wnext 0x400000 4 = .ok (wphase 1 []) a ∧
      (wphase 1 []).fetchObj (.kernel 1) wnext 0x200000 32 = .ok (wphase 1 []) b ∧
      pickSched (ofBytesLE a) (schedTable 1 4 b) = none) ∧
    (∀ l, l = [] ∨ l = wrecBytes → ∃ a b d, (wphase 0 l).fetchObj (.kernel 1) wnext 0x400000 4 = .ok (wphase 0 l) a ∧
      (wphase 0 l).fetchObj (.kernel 1) wnext 0x200000 32 = .ok (wphase 0 l) b ∧
      pickSched (ofBytesLE a) (schedTable 1 4 b) = some ⟨0, 1, 1, 0, 0x500000, true⟩ ∧
      (wphase 0 l).bindable wnext = some (List.range 64) ∧ (wphase 0 l).bindsNext wnext = true ∧
      (wphase 0 l).fetchObj (.kernel 1) wnext 0x500000 64 = .ok (wphase 0 l) d ∧
      recordOk 1 (.ofNat 512 (ofBytesLE d)) = decide (l ≠ [])) ∧
    wnext.again = [] ∧ pinClash [wrec] = false ∧
    (∀ l, l = [] ∨ l = wrecBytes → (wphase 0 l).openAll 1 1 4096 (.kernel 1) [(0x300000, 2, 64)] = .ready (wphase 0 l)) ∧
    (let copied := (wphase 0 wrecBytes).vwrite (wnext.req 0x300000 2 (noCore 0)) wrecBytes
     (match copied.openAll 1 1 4096 (.kernel 1) [(recField wrec 128 64, 2, 4)] with
      | .ready _ => true
      | _ => false) = true) := by
  refine ⟨by decide +kernel, rfl, rfl, ⟨_, _, rfl, rfl, by decide +kernel⟩, ?_, rfl, by decide +kernel, ?_, by decide +kernel⟩
  rotate_left
  · rintro l (rfl | rfl) <;> rfl
  rintro l (rfl | rfl)
  all_goals exact ⟨_, _, _, rfl, rfl, by decide +kernel, by decide +kernel, by decide +kernel, rfl, by decide +kernel⟩

/-- Kernel 1 with the cairns l, its SIG and STS; core 0 idle. -/
def wends (l : List Cairn) (sig sts : Nat) : Kernel := { wkern with
  cairns := l
  sig := sig
  sts := sts }
def wover (k : Kernel) (r : Option (Word × Nat)) : State := { wcoreWith (fun c => { c with run := r }) with kernels := [k] }
def wsummit : Cairn := { wcairn with
  st := .parked
  sum := true }
def wdone : Cairn := { wcairn with st := .done }
theorem wparts : ∀ x : Fin 8, (wstate.parts[x]).queues = Vector.replicate 64 Queue.reset := by decide +kernel
theorem wqueues (p i : Nat) : (wstate.queue p i).en = false := by
  have e : (wstate.part p).queues = Vector.replicate 64 Queue.reset := by
    unfold State.part
    by_cases hp : p < 8
    · rw [Vector.getElem?_eq_getElem hp]; exact wparts ⟨p, hp⟩
    · rw [Vector.getElem?_eq_none (by omega)]; rfl
  unfold State.queue Part.queue
  rw [e]
  by_cases hi : i < 64
  · rw [Vector.getElem?_eq_getElem hi]; simp; rfl
  · rw [Vector.getElem?_eq_none (by omega)]; rfl
theorem wknown (l : Cairn) (a b : Nat) (h : l.ix = 0) : (wends [l] a b).cairn 0 = some l ∧ (wends [l] a b).outcome = none := by
  refine ⟨?_, rfl⟩
  simp [wends, Kernel.cairn, h]
set_option maxRecDepth 100000 in
theorem test_meets_kernel_events :
    (∀ l a b r, (wover (wends l a b) r).kernel 1 = some (wends l a b)) ∧ wkern.home 0 < 64 ∧ wkern.cairn 0 = some wcairn ∧
    (∀ l : Cairn, l.ix = 0 → ∀ a b, (wends [l] a b).cairn 0 = some l ∧ (wends [l] a b).outcome = none) ∧
    (wcairn.st ≠ .done ∧ wcairn.sum = false) ∧
    (let x := wover (wends [wsummit] 0 0) none
     (wends [wsummit] 0 0).cairns.filter (fun x => x.st == .parked && x.sum) = [wsummit] ∧ wsummit.st = .parked ∧
      wsummit.sum = true ∧ x.remoteDone 1 = true ∧ x.staged = [] ∧ x.settleKernel (wends [wsummit] 0 0) = .ok x ∧
      x.openAll 1 1 4096 (.kernel 1) [(0x300000, 2, 64)] = .ready x) ∧
    (∀ a b, (a = 0 ∨ a = 0x600000) ∧ (b = 0 ∨ b = 0x600000) →
     let k := wends [wdone] a b
     let x := wover k none
     k.started = true ∧ k.nphase ≤ k.phase + 1 ∧ x.commandsDone 1 = true ∧ x.settleKernel k = .ok x ∧
      x.openAll 1 0 4096 (.kernel 1) ((if b = 0 then [] else [(b, 2, 8)]) ++
        (if a = 0 then [] else [(a, 1, 8), (a, 2, 8)])) = .ready x ∧
      x.locate ⟨0x600000, 1, 1, 0, 4096⟩ = .at (.hbm 0 0x600000 false) ∧
      x.locate ⟨0x600000, 1, 2, 0, 4096⟩ = .at (.hbm 0 0x600000 false)) ∧
    ((∀ p i, (wstate.queue p i).en = false) ∧ wstate.clusterPart 0 = some 0 ∧ (wstate.core 0).run = some (1, 0) ∧
      wstate.recordsBelayed wkern = false) ∧
    (State.reset.stackPart 1 = none) ∧ (wstate.part 0).groups ≠ 0 ∧ ({ wstate with kernels := [] } : State).kernels = [] := by
  refine ⟨fun _ _ _ _ => rfl, by decide, rfl, fun l h a b => wknown l a b h, by decide,
    ⟨rfl, rfl, rfl, by decide +kernel, rfl, rfl, rfl⟩, ?_, ⟨wqueues, by decide +kernel, rfl, by decide +kernel⟩,
    by decide +kernel, by decide +kernel, rfl⟩
  rintro a b ⟨rfl | rfl, rfl | rfl⟩
  all_goals exact ⟨rfl, by decide, by decide +kernel, rfl, rfl, by decide +kernel, by decide +kernel⟩

/-- A checked card of kernel 1 of core 0 with these 64 bytes, prepared with l. -/
def wjob (bytes : BitVec 512) (l : Option (List Nat)) : Job :=
  ⟨5, bytes, 1, 1, 0, true, none, 0, 0, false, false, l, 0, [], .checked⟩
def wjobs (f : Nat) (j : Job) (m : List (Nat × Byte)) : State :=
  { wcoreWith (fun k => { k with jobs := k.jobs.setIfInBounds (f / 2) [j] }) with mem := m }
/-- A card of type t from 0x700000 to 0x700100 with further fields x (R351). -/
def wcard (t : Nat) (x : Nat) : BitVec 512 := .ofNat 512 (t + 0x700000 * 2 ^ 64 + 0x700100 * 2 ^ 128 + x)
/-- Runs of 16 bytes, one in each dimension (R353). -/
def wcopyJob : Job := wjob (wcard 1 (16 * 2 ^ 192 + 2 ^ 224 + 2 ^ 240 + 2 ^ 256)) none
/-- One element of 16 bytes, number 3 (R354). -/
def wgatherJob : Job := wjob (wcard 2 (2 ^ 256 + 16 * 2 ^ 288 + 16 * 2 ^ 320)) (some [3])
/-- A matrix of one byte (R355). -/
def wtransJob : Job := wjob (wcard 3 (2 ^ 192 + 2 ^ 208)) none
/-- One line to core 0 (R357). -/
def wmultiJob : Job := wjob (.ofNat 512 (4 + 0x700000 * 2 ^ 64 + 2 ^ 128 + 2 ^ 192 + 2 ^ 224)) none
/-- One row of bank 0 (R358). -/
def wbankJob : Job := wjob (.ofNat 512 (5 + 0x700000 * 2 ^ 64 + 2 ^ 160)) none
/-- One row into image 0 of the set at 0x700100: one slot of 256 bytes, no chunk (R359 to R361). -/
def woffJob : Job := wjob (wcard 6 (2 ^ 224)) none
def wset : List (Nat × Byte) := [(hbmKey 0 0x700102, 0x72), (hbmKey 0 0x700109, 1), (hbmKey 0 0x70010C, 1),
  (hbmKey 0 0x700112, 0x71), (hbmKey 0 0x70011A, 0x73), (hbmKey 0 0x700124, 0xFF), (hbmKey 0 0x700125, 0xFF),
  (hbmKey 0 0x700126, 0xFF), (hbmKey 0 0x700127, 0xFF)]
/-- One row of zeros (R361); three decoded bytes (R362). -/
def wreloadJob : Job := wjob (wcard 7 (2 ^ 224)) (some (List.replicate 257 0))
def wdecompJob : Job := wjob (wcard 8 0) (some [1, 2, 3])
/-- Card queue 0 holds the card at address a; memory holds m, with the word of key w unsound. -/
def wtake (a : Nat) (m : List (Nat × Byte)) (w : List Nat) : State :=
  { wcoreWith (fun k => { k with fifos := k.fifos.set 0 ⟨[⟨1, .card (.ofNat 32 a), 0, 0⟩], 0⟩ }) with
    mem := m
    bad := w }
/-- A COPY card of no bytes at 0x100. -/
def wnoCopy : List (Nat × Byte) := [(towerKey 0 0x100, 1)]
theorem check_bytes (s : State) (c f : Nat) (x y : Job) (h : x.bytes = y.bytes) : s.checkCard c f x = s.checkCard c f y := by
  have e : Job.f x = Job.f y := by funext b n; simp only [Job.f, h]
  unfold State.checkCard Job.type Job.sp Job.dp Job.copyS Job.copyD Job.copyTotal Job.sf
  rw [e]
theorem wsound (j : Job) (h : j ∈ [wcopyJob, wgatherJob, wtransJob, wmultiJob, wbankJob, woffJob, wreloadJob, wdecompJob]) :
    j.stage = .checked ∧ j.refused = false ∧ j.ue = false ∧ j.verdict = 0 ∧ j.done = 0 := by
  revert h; revert j; decide +kernel
/-- A card outside the region, an unsound one, one of type 0 with a reserved flag, and one that checks. -/
theorem test_meets_card_reads :
    (∀ a m w, ((wtake a m w).core 0).jobsOf 0 = [] ∧ ((wtake a m w).core 0).fifo 0 = ⟨[⟨1, .card (.ofNat 32 a), 0, 0⟩], 0⟩) ∧
    ((wtake 0x3000000 [] []).core 0).readable 1 0x3000000 = false ∧
    (∀ m w i, i < 4 → ((wtake 0x100 m w).core 0).readable 1 (0x100 + 16 * i) = true) ∧
    (wtake 0x100 [] [towerKey 0 0x110 / 16]).wordTag 0 1 0x110 = 3 ∧
    (∀ m, m = [(towerKey 0 0x101, 16)] ∨ m = wnoCopy → ∀ i, i < 4 → (wtake 0x100 m []).wordTag 0 1 (0x100 + 16 * i) ≠ 3) ∧
    15 < (wtake 0x100 [(towerKey 0 0x101, 16)] []).padRead 0 1 0x101 1 ∧
    (∀ x : Job, x.bytes = .ofNat 512 (ofBytesLE ((List.range 4).flatMap (fun i => bytesLE 16
      ((wtake 0x100 wnoCopy []).padRead 0 1 (0x100 + 16 * i) 16)))) → (wtake 0x100 wnoCopy []).checkCard 0 0 x = 0) := by
  refine ⟨fun _ _ _ => ⟨rfl, rfl⟩, by decide +kernel, fun m w i hi => ?_, by decide +kernel, ?_, by decide +kernel, ?_⟩
  · have e : ∀ i : Fin 4, (wcore.readable 1 (0x100 + 16 * i.val)) = true := by decide +kernel
    exact e ⟨i, hi⟩
  · rintro m (rfl | rfl) <;> decide +kernel
  · intro x hx
    rw [check_bytes _ _ _ x (wjob _ none) hx]
    decide +kernel
/-- The page of the source is pinned. -/
def wpin (j : Job) : State := { wjobs 0 j [] with pins := [⟨0, 1, 0x70, .card 0 0 5⟩] }
/-- Both sides of a piece are open, with the page of its source pinned (R431). -/
def wmoves (s : State) (j : Job) (src dst n : Nat) : Prop := s.openSpan (j.req src 1) n (.card 0 0 5) = .ready s ∧
  s.flight = [] ∧ s.vbad (j.req src 1) n = false ∧ s.pinSpan (j.req src 1) n (.card 0 0 5) = wpin j ∧
  (wpin j).openSpan (j.req dst 2) n (.card 0 0 5) = .ready (wpin j) ∧ (wpin j).Canonical ∧ (wpin j).cores = s.cores ∧
  (wpin j).flight = [] ∧ (wpin j).locate (j.req dst 2) = .at (.hbm 0 dst false)
set_option maxRecDepth 100000 in
set_option exponentiation.threshold 2048 in
theorem wmoves_all : wmoves (wjobs 0 wcopyJob []) wcopyJob 0x700000 0x700100 16 ∧
    wmoves (wjobs 0 wgatherJob []) wgatherJob 0x700030 0x700100 16 ∧ wmoves (wjobs 0 wtransJob []) wtransJob 0x700000 0x700100 1 :=
  ⟨⟨rfl, rfl, rfl, rfl, rfl, rfl, rfl, rfl, by decide +kernel⟩, ⟨rfl, rfl, rfl, rfl, rfl, rfl, rfl, rfl, by decide +kernel⟩,
    ⟨rfl, rfl, rfl, rfl, rfl, rfl, rfl, rfl, by decide +kernel⟩⟩
/-- A piece inside one word of its destination is moved whole (R232). -/
theorem wpiece (s : State) (dst n : Nat) (h : dst % 16 + n ≤ 16) : n = s.pieceLen dst n := by
  unfold State.pieceLen Config.grain
  exact (Nat.min_eq_left (by omega)).symm
/-- The set as OFFLOAD reads it, its pages pinned; the image of the row and what is written (R359 to R361). -/
def woff : OffSet := ⟨0x720000, 256, 1, 0x710000, 0x730000, 0, noChunk, 0⟩
def woffOpen : State := { wjobs 4 woffJob wset with pins := [⟨0, 1, 0x71, .card 0 4 5⟩, ⟨0, 1, 0x70, .card 0 4 5⟩] }
def woffImage : List Byte := (match State.rowImages woffJob (.card 0 4 5) 1 0 [] woffOpen with
  | .ok (_, im, _) => im
  | _ => [])
def woffWrites : List (Nat × List Byte) := imageWrites woff 0 woffImage [] ++ linkWrites woff [] noChunk ++ [] ++
  [(0x700124, wordsLE [noChunk, 0]), (0x710000, wordsLE [woffImage.length, 1, noChunk, (crc32c woffImage).toNat])]
set_option maxRecDepth 100000 in
set_option exponentiation.threshold 2048 in
theorem test_meets_offload :
    (wjobs 4 woffJob wset).openSet (.card 0 4 5) woffJob = .ok (woffOpen, woff, zeros 16) ∧ woffJob.f 24 4 < woff.nimg ∧
    woff.entryIn (woffJob.f 24 4) = true ∧ woffOpen.vbad (woffJob.req (woffJob.f 16 8) 1) 64 = false ∧
    woffOpen.vbad (woffJob.req woff.table 1) 16 = false ∧ ofBytesLE ((zeros 16).take 4) = 0 ∧
    State.chain woffJob (.card 0 4 5) woff 0 noChunk [] woffOpen = .ok (woffOpen, []) ∧
    State.rowImages woffJob (.card 0 4 5) 1 0 [] woffOpen = .ok (woffOpen, woffImage, false) ∧
    (woffImage.length - 256 + 4091) / 4092 = 0 ∧ woff.inside (woffJob.f 24 4) woffImage.length [] = true ∧
    State.openPuts woffJob (.card 0 4 5) woffWrites woffOpen = .ready woffOpen ∧
    (State.putAll woffJob (.card 0 4 5) woffWrites woffOpen).2 = false ∧
    (State.putAll woffJob (.card 0 4 5) woffWrites woffOpen).1.cores = (wjobs 4 woffJob wset).cores := by
  refine ⟨rfl, by decide +kernel, by decide +kernel, rfl, rfl, by decide, rfl, rfl, by decide +kernel, by decide +kernel, rfl,
    by decide +kernel, by decide +kernel⟩
set_option maxRecDepth 100000 in
set_option exponentiation.threshold 2048 in
/-- The last pieces of the eight cards. -/
theorem test_meets_card_work :
    (∀ f j m, f / 2 < 4 → ((wjobs f j m).core 0).jobsOf f = [j]) ∧
    (∀ j ∈ [wcopyJob, wgatherJob, wtransJob, wmultiJob, wbankJob, woffJob, wreloadJob, wdecompJob], j.ahead = []) ∧
    (∀ f j m, (wjobs f j m).flight = []) ∧
    (let x := wjobs 0 wcopyJob []
     wcopyJob.copyTotal = 16 ∧ wcopyJob.f 24 4 = 16 ∧ 16 = x.pieceLen 0x700100 16 ∧ 16 = x.copyFree wcopyJob 0x700000 0x700100 16 ∧
      runAddr (wcopyJob.f 8 8) wcopyJob.copyS 0 = 0x700000 ∧ runAddr (wcopyJob.f 16 8) wcopyJob.copyD 0 = 0x700100 ∧
      wmoves x wcopyJob 0x700000 0x700100 16) ∧
    (let x := wjobs 0 wgatherJob []
     wgatherJob.f 32 4 * wgatherJob.f 36 4 = 16 ∧ wgatherJob.f 36 4 = 16 ∧ 16 = x.pieceLen 0x700100 16 ∧ wgatherJob.f 16 8 = 0x700100 ∧ wgatherJob.f 8 8 + 3 * wgatherJob.f 40 4 = 0x700030 ∧
      wmoves x wgatherJob 0x700030 0x700100 16) ∧
    (let x := wjobs 0 wtransJob []
     wtransJob.sp = false ∧ wtransJob.f 24 2 = 1 ∧ wtransJob.f 26 2 = 1 ∧ wtransJob.f 28 1 = 0 ∧
      wmoves x wtransJob 0x700000 0x700100 1) ∧
    (let x := wjobs 0 wmultiJob []
     wmultiJob.f 28 4 = 1 ∧ wmultiJob.f 32 4 = 0 ∧
      (∀ y, y < 256 → (nbit (wmultiJob.f 16 8) (y / 4) && nbit (wmultiJob.f 24 1) (y % 4)) = decide (y = 0)) ∧
      (∀ g, g < 16 → (x.core 0).engineWritable 1 (16 * g) = true) ∧
      x.openSpan (wmultiJob.req 0x700000 1) 256 (.card 0 0 5) = .ready x) ∧
    (let x := wjobs 0 wbankJob []
     wbankJob.f 20 2 = 1 ∧ x.openSpan (wbankJob.req 0x700000 1) 192 (.card 0 0 5) = .ready x) ∧
    (wreloadJob.f 28 4 = 1 ∧ wreloadJob.prep = some (List.replicate 257 0) ∧ (wjobs 4 wreloadJob []).openSpan
      (wreloadJob.req 0x700000 2) 256 (.card 0 4 5) = .ready (wjobs 4 wreloadJob [])) ∧
    (wdecompJob.prep = some [1, 2, 3] ∧ 3 = (wjobs 2 wdecompJob []).pieceLen 0x700100 3 ∧ (wjobs 2 wdecompJob []).openSpan (wdecompJob.req 0x700100 2) 3 (.card 0 2 5) =
      .ready (wjobs 2 wdecompJob [])) := by
  refine ⟨fun f j m h => ?_, by decide +kernel, fun _ _ _ => rfl,
    ⟨by decide +kernel, by decide +kernel, wpiece _ _ _ (by decide), by decide +kernel, by decide +kernel, by decide +kernel, wmoves_all.1⟩,
    ⟨by decide +kernel, by decide +kernel, wpiece _ _ _ (by decide), by decide +kernel, by decide +kernel, wmoves_all.2.1⟩,
    ⟨rfl, by decide +kernel, by decide +kernel, by decide +kernel, wmoves_all.2.2⟩,
    ⟨by decide +kernel, by decide +kernel, by decide +kernel, by decide +kernel, rfl⟩, ⟨by decide +kernel, rfl⟩,
    ⟨by decide +kernel, rfl, rfl⟩, rfl, wpiece _ _ _ (by decide), rfl⟩
  have e : ∀ i : Fin 4, ((wcore.jobs.setIfInBounds i.val [j])[i.val]?).getD [] = [j] := by
    intro i; simp
  exact e ⟨f / 2, h⟩

/-- A COPY and a MULTICAST that move nothing; a finished card that reports by element or by barrier 5. -/
def wemptyJob (t : Nat) : Job := wjob (.ofNat 512 t) none
def wreport (sts : Bool) (b : Option Nat) : State :=
  { wcoreWith (fun k => { k with
      jobs := k.jobs.setIfInBounds 0 [{ wcopyJob with
        stage := .finished 2 7
        sts := sts
        bar := b }]
      bars := k.bars.set 5 ⟨2, 1⟩ }) with mem := [] }
/-- An element in the skid of FIFO 16 on its way to d. -/
def whop (d : Dest) : State := wcoreWith (fun k => { k with skids := k.skids.setIfInBounds 0 [(d, welem)] })
/-- Port p of cluster 0 holds n bytes of zero (R350). -/
noncomputable def wport (p n : Nat) (d : Dest) : State := (whop d).setRuns 0 p [(1, zeros n)]
/-- Core 0 waits to push into its full FIFO 16 while the other cores of cluster 0 are idle. -/
def wstall : State := { wcoreWith (fun k => { k with
    fifos := k.fifos.set 16 ⟨List.replicate 4 welem, 0⟩
    seq := { k.seq with hold := some .push } }) with cycle := 1024 }
set_option exponentiation.threshold 2048 in
theorem test_meets_card_reports_and_hops :
    (∀ t, t = 1 ∨ t = 4 → ((wjobs 0 (wemptyJob t) []).core 0).jobsOf 0 = [wemptyJob t] ∧ (wemptyJob t).type = t) ∧
    (wemptyJob 1).copyTotal = 0 ∧ (wemptyJob 4).f 28 4 = 0 ∧
    (wreport true none).live 1 = true ∧ 0 < ((wreport true none).core 0).room 1 ∧ (wreport false (some 5)).bar 0 5 = ⟨2, 1⟩ ∧
    (∀ d, ((whop d).core 0).skid 16 = [(d, welem)] ∧ 0 < ((whop d).core 1).room 20) ∧
    (∀ p, p < 5 → ∀ n d, let x := wport p n d
      (x.core 0).skid 16 = [(d, welem)] ∧ (((x.cluster 0).runs p).flatMap (·.2)).length + welem.streamBytes.length = n + 4) ∧
    (0 + 4 ≤ Config.portBytes ∧ Config.portBytes < Config.portBytes + 4) ∧
    (∀ i, i < 4 → wstall.stuck (0 / 4 * 4 + i) = true) ∧ (wstall.cluster 0).moved + 1024 ≤ wstall.cycle ∧
    wstall.smallestFull 0 = some (4, 0, 16) ∧ 16 ≤ wstall.vatFree 0 := by
  refine ⟨?_, by decide +kernel, by decide +kernel, rfl, by decide +kernel, rfl, fun d => ⟨rfl, (by decide : 0 < 4)⟩, ?_,
    (by unfold Config.portBytes; omega), by decide +kernel, by decide +kernel, by decide +kernel, by decide +kernel⟩
  · rintro t (rfl | rfl) <;> decide +kernel
  · intro p hp n d
    have e : ((wport p n d).cluster 0).runs p = [(1, zeros n)] := by
      obtain rfl | rfl | rfl | rfl | rfl : p = 0 ∨ p = 1 ∨ p = 2 ∨ p = 3 ∨ p = 4 := by omega
      all_goals rfl
    refine ⟨rfl, ?_⟩
    show (((wport p n d).cluster 0).runs p |>.flatMap (·.2)).length + 4 = n + 4
    rw [e]; simp [zeros]

/-- A command of routine r on tile 1 with M = N = K = 1, A at 0x100 in format f, its bank in the same format. -/
def wcmdOf (r f : Nat) (swap : Bool) (step : Nat) : Cmd := ⟨swap, r, 5, 0, 0, step, false,
  ((((Vector.replicate 8 (0 : Dword)).set 0 0x100).set 1 (.ofNat 64 (f + 8 * f + 2 ^ 9 + 2 ^ 16 + 2 ^ 25 + 2 ^ 34))).set 2
    0x200).set 4 (.ofNat 64 (0x300 + 0x400 * 2 ^ 32)), 1, 0⟩
/-- It is the oldest of core 0; tile 1 has 4 by 4 elements of FP32 or INT32, the scale bytes are 127. -/
def wunit (int : Bool) (q : Cmd) : State :=
  { wcoreWith (fun k => { k with
      bars := k.bars.set 5 ⟨2, 1⟩
      mat := { wmat with
        queue := [q]
        tiles := (Vector.replicate 8 ⟨.uncfg, 0⟩).set 1 ⟨.zero, if int then 0x80010303 else 0x80000303⟩ } }) with
    mem := [(towerKey 0 0x100, 0x38), (towerKey 0 0x200, 5), (towerKey 0 0x300, 127), (towerKey 0 0x400, 127),
      (tileKey 0 1 0, 7), (bankKey 0 0 0, 0x40)] }
/-- A matrix control state of 320 bytes with its slot table: tile 1 zero, tile 2 to be loaded (R337). -/
def wblock : List Byte := bytesLE 4 0x40000000 ++ zeros 260 ++ bytesLE 4 0x80000303 ++ zeros 4 ++ bytesLE 4 0xC0010303 ++ zeros 44
def wclaim (b : List Byte) : State := wcoreWith (fun k => { k with
  matBlk := b
  seq := { k.seq with hold := some .claim } })
/-- Tile 1, of one element, is still in slot 1 of the save area; its entry stands in core 0's block. -/
def wlazyEntry : List Byte := bytesLE 4 0xC0000000 ++ bytesLE 4 (crc32c (bytesLE 4 0xC0000000 ++ zeros 4)).toNat
def wlazy : State := wcoreWith (fun k => { k with
  matBlk := zeros 264 ++ wlazyEntry ++ zeros 48
  mat := { wmat with tiles := (Vector.replicate 8 ⟨.uncfg, 0⟩).set 1 ⟨.lazy, 0x80000000⟩ }
  seq := { k.seq with hold := some (.tile 1) } })
set_option maxRecDepth 100000 in
theorem test_meets_matrix_products :
    (∀ b q, ((wunit b q).core 0).mat.queue = [q] ∧ ((wunit b q).core 0).mat.badRows = [] ∧ ((wunit b q).core 0).mat.badEls = []) ∧
    (∀ b q, (wunit b q).Canonical) ∧
    (∀ r f b, (r, f, b) ∈ [(0, 3, true), (1, 4, true), (0, 0, false), (1, 1, false), (2, 1, false)] →
     let q := wcmdOf r f false 0
     let x := wunit b q
     q.swap = false ∧ q.stopped = false ∧ q.step = 0 ∧ q.M = 1 ∧ q.N = 1 ∧ q.K = 1 ∧ q.tile = 1 ∧
      ((x.core 0).mat.tile 1).cols = 4 ∧ ((x.core 0).mat.tile 1).st ≠ .lazy ∧ q.p 1 0 3 = f ∧ q.p 1 3 3 = f ∧
      (x.core 0).readable 1 (q.aAddr 0 0) = true ∧ x.wordTag 0 1 (q.aAddr 0 0) ≠ 3) ∧
    (let q := wcmdOf 2 1 false 0
     let x := wunit false q
     q.p 4 0 26 = 0x300 ∧ q.p 4 32 26 = 0x400 ∧ (x.core 0).readable 1 0x300 = true ∧ x.wordTag 0 1 0x300 ≠ 3 ∧
      (x.core 0).readable 1 0x400 = true ∧ x.wordTag 0 1 0x400 ≠ 3) := by
  refine ⟨fun _ _ => ⟨rfl, rfl, rfl⟩, fun _ _ => rfl, ?_, by decide +kernel⟩
  intro r f b h
  simp only [List.mem_cons, Prod.mk.injEq, List.mem_nil_iff, or_false] at h
  rcases h with ⟨rfl, rfl, rfl⟩ | ⟨rfl, rfl, rfl⟩ | ⟨rfl, rfl, rfl⟩ | ⟨rfl, rfl, rfl⟩ | ⟨rfl, rfl, rfl⟩ <;> decide +kernel
set_option maxRecDepth 100000 in
theorem test_meets_matrix_events :
    (let q := wcmdOf 3 0 false 0
     let x := wunit false q
     q.M = 1 ∧ q.N = 1 ∧ q.p 2 58 3 = 0 ∧ ((x.core 0).mat.tile 1).isInt = false ∧ q.p 2 0 26 = 0x200 ∧
      (x.core 0).engineWritable 1 0x200 = true) ∧
    (let q := wcmdOf 4 0 false 0
     let x := wunit false q
     q.p 2 58 3 = 0 ∧ (x.core 0).readable 1 0x200 = true ∧ x.wordTag 0 1 0x200 ≠ 3) ∧
    (∀ b q, (wunit b q).flight = []) ∧ 0x200 % 4 = 0 ∧
    (wstate.cycle < wstate.house.alarmSince + 10000000 ∧ wstate.house.alarmSince + 10000000 ≤ 10000000) ∧
    (∀ t, t < 8 → (((wunit false (wcmdOf 40 0 false 0)).core 0).mat.tile t).st ≠ .lazy) ∧ 32 ≤ (wcmdOf 40 0 false 0).routine ∧
    (wcmdOf 1 0 false 1).ended = true ∧ ((wunit false (wcmdOf 1 0 true 0)).core 0).filling = false ∧
    (wunit false (wcmdOf 1 0 true 0)).bar 0 5 = ⟨2, 1⟩ ∧
    (∀ b, b = [] ∨ b = wblock → ((wclaim b).core 0).run = some (1, 0) ∧ ((wclaim b).core 0).mat.owner = none ∧
      ((wclaim b).core 0).seq.hold = some .claim ∧ ((wclaim b).core 0).matBlk = b ∧ (b = wblock → b.length = 320) ∧
      ofBytesLE (b.take 4) < 2 ^ 31) ∧
    ((wlazy.core 0).mat.owner = some (1, 0) ∧ (wlazy.core 0).mat.tile 1 = ⟨.lazy, 0x80000000⟩ ∧
      (wlazy.core 0).seq.hold = some (.tile 1) ∧ wlazy.areaOf (1, 0) = some (wkern, wcairn) ∧
      4 * ((wlazy.core 0).mat.tile 1).rows * ((wlazy.core 0).mat.tile 1).cols = 4 ∧
      wlazy.openSpan ⟨0x24000, 1, 1, 1, 0⟩ 4 (.matrix 0) = .ready wlazy ∧ wlazy.primaryBad ⟨0x24000, 1, 1, 1, 0⟩ 4 = false ∧
      wlazy.vbad ⟨0x24000, 1, 1, 1, 0⟩ 4 = false ∧ wlazy.slotTableEntry (1, 0) wkern wcairn 1 = wlazyEntry ∧
      (crc32c (wlazyEntry.take 4 ++ wlazy.vread ⟨0x24000, 1, 1, 1, 0⟩ 4)).toNat = ofBytesLE (wlazyEntry.drop 4)) := by
  refine ⟨by decide +kernel, by decide +kernel, fun _ _ => rfl, by decide, by decide, by decide +kernel, by decide, rfl, rfl, rfl, ?_,
    rfl, rfl, rfl, rfl, by decide +kernel, rfl, by decide +kernel, by decide +kernel, by decide +kernel, by decide +kernel⟩
  rintro b (rfl | rfl) <;> exact ⟨rfl, rfl, rfl, rfl, by decide +kernel, by decide +kernel⟩

/-- A command on its way to the scatter-accumulate engine of cluster 0, and staged updates. -/
def wacc (p : Payload) (l : List Staged) : State := { wcoreWith (fun k => { k with fifos := k.fifos.set 32 ⟨[⟨1, p, 0, 0⟩], 0⟩ }) with
  staged := l
  mem := [(hbmKey 0 0x700000, 9)] }
def wadd (ord : Bool) : Payload := .acc 0x700000 0 5 1 0 ord
def wstaged : Staged := ⟨1, 0x700000, hbmKey 0 0x700000, 1, 0, 0, 0, 0, 5, 0, []⟩
/-- The same while the flush waits: the update is marked (R375). -/
def wmarked : State := { ((wacc .flush [wstaged]).updCore 0 (fun k => k.setFifo 32 [⟨1, .flushing, 0, 0⟩])) with
  staged := [{ wstaged with due := insertSorted 0 wstaged.due }] }
/-- A first subscription with its card at 0x100: sweep 3 of one page and two queries (R381). -/
def wsubs (a : Nat) : State := { wcoreWith (fun k => { k with subs := [⟨1, .sub (.ofNat 32 a) 4 false, 0, 0⟩] }) with
  mem := [(towerKey 0 0x100, 9), (towerKey 0 0x103, 3), (towerKey 0 0x106, 1), (towerKey 0 0x108, 1),
    (towerKey 0 0x10C, 2), (towerKey 0 0x112, 0x71), (towerKey 0 0x11A, 0x72), (towerKey 0 0x120, 1)] }
/-- Query 4 of core 0 with these pages, next one, partials and accumulator. -/
def wquery (order : List Nat) (next : Nat) (l : List (Nat × Option Partial)) (acc : Option Partial) : QSlot :=
  ⟨1, 3, 5, order, 0, 2, none, next, l, [], acc, [], false, false, false⟩
def wsweep (issued : List Nat) (fl : List Flying) : Sweep :=
  ⟨1, 3, 0, 1, .main, 0, 1, 1, 1, 0x710000, 1, [⟨0, 4, 5, [0], 0, false⟩], [(0, 0)], [0x700000], issued, [], fl⟩
def wflying (l : List Landing) : Flying := ⟨0, false, List.replicate 256 7, [], [0], l⟩
def wlanding : Landing := ⟨0, 0, false, false⟩
def wsweeps (q : QSlot) (w : Sweep) : State := { wcoreWith (fun k => { k with
    slots := k.slots.set 4 (some q)
    lands := .replicate 8 ⟨0, 0, 0⟩ }) with sweeps := [w] }
def wpartial : Partial := ⟨0x3F800000, 0x40000000, 0⟩
theorem wslots (q : QSlot) (w : Sweep) (x : Nat) (y : QSlot) (h : ((wsweeps q w).core 0).slot x = some y) : x = 4 ∧ y = q := by
  have e : ∀ i : Fin 16, i.val ≠ 4 → (wcore.slots)[i] = none := by decide +kernel
  have hs : ((wsweeps q w).core 0).slots = wcore.slots.set 4 (some q) := rfl
  rw [Core.slot, hs] at h
  by_cases hx : x = 4
  · subst hx; exact ⟨rfl, by simpa using h.symm⟩
  · by_cases hl : x < 16
    · rw [Vector.getElem?_eq_getElem hl, Vector.getElem_set_ne _ _ (Ne.symm hx)] at h
      rw [show wcore.slots[x] = none from e ⟨x, hl⟩ hx] at h
      cases h
    · rw [Vector.getElem?_eq_none (by omega)] at h; cases h
set_option maxRecDepth 100000 in
set_option exponentiation.threshold 4096 in
theorem test_meets_accumulate_and_sweep_events :
    (∀ p l, (wacc p l).kernel 1 = some wkern ∧ ((wacc p l).core 0).fifo 32 = ⟨[⟨1, p, 0, 0⟩], 0⟩ ∧ (wacc p l).staged = l) ∧
    (∀ p l, (wacc p l).Canonical) ∧ (∀ i, i < 64 → (1 : Mask).getLsbD (4 * i) = decide (i = 0)) ∧
    ((wacc (wadd true) []).openSpan ⟨0x700000, 1, 3, 1, 0⟩ 4 (.acc 0) = .ready (wacc (wadd true) []) ∧
      (wacc (wadd false) []).openSpan ⟨0x700000, 1, 3, 1, 0⟩ 4 (.acc 0) = .ready (wacc (wadd false) []) ∧
      wmarked.openSpan ⟨0x700000, 1, 3, 1, 0⟩ 4 (.acc 0) = .ready wmarked ∧ wmarked.Canonical ∧
      wstaged.srcMod = (wacc .flush [wstaged]).modNum.toNat) ∧
    (∀ x ∈ [wacc (wadd false) [], wmarked], x.vbad ⟨0x700000, 1, 3, 1, 0⟩ 4 = false ∧
      x.locate ⟨0x700000, 1, 3, 1, 0⟩ = .at (.hbm 0 0x700000 false)) ∧
    ((wsubs 0x3000000).kernel 1 = some wkern ∧ ((wsubs 0x3000000).core 0).readable 1 0x3000000 = false ∧
      0 < ((wsubs 0x3000000).core 0).room 9) ∧
    (let x := wsubs 0x100
     let card := ofBytesLE ((List.range 4).flatMap (fun i => bytesLE 16 (x.padRead 0 1 (0x100 + 16 * i) 16)))
     let f (b n : Nat) : Nat := nbits card (8 * b) (8 * n)
     let s1 := x.updCore 0 (fun k => { k with subCard := some (some (.ofNat 512 card)) })
     (∀ i, i < 4 → (x.core 0).readable 1 (0x100 + 16 * i) = true ∧ x.wordTag 0 1 (0x100 + 16 * i) ≠ 3) ∧
     (x.core 0).subCard = none ∧ s1.vbad ⟨0x720000, 1, 1, 1, 0⟩ 4 = false ∧ s1.vread ⟨0x720000, 1, 1, 1, 0⟩ 4 = zeros 4 ∧
     f 0 1 = 9 ∧ f 1 1 = 0 ∧ f 2 1 = 0 ∧ f 3 1 = 3 ∧ f 4 1 = 0 ∧ f 5 1 = 0 ∧ f 6 2 = 1 ∧ f 8 4 = 1 ∧ f 12 2 = 2 ∧ f 14 2 = 0 ∧
      f 16 8 = 0x710000 ∧ f 24 8 = 0x720000 ∧ f 32 4 = 1 ∧ f 36 4 = 0 ∧ f 40 24 = 0 ∧ (x.core 0).slot 4 = none ∧
      x.findSweep 1 3 = none ∧
      2 ≤ x.poolFree 0) ∧
    (∀ card, let s1 := (wsubs 0x100).updCore 0 (fun k => { k with subCard := some (some card) })
      s1.openSpan ⟨0x720000, 1, 1, 1, 0⟩ 4 (.sweepCard 0) = .ready s1) := by
  refine ⟨fun _ _ => ⟨rfl, rfl, rfl⟩, fun _ _ => rfl, by decide +kernel, ⟨rfl, rfl, rfl, rfl, rfl⟩, by decide +kernel,
    ⟨rfl, by decide +kernel, by decide +kernel⟩, by decide +kernel, fun _ => by intro s1; with_unfolding_all rfl⟩
set_option maxRecDepth 100000 in
set_option exponentiation.threshold 4096 in
theorem test_meets_pages_and_partials :
    (∀ q w x y, ((wsweeps q w).core 0).slot x = some y → x = 4 ∧ y = q) ∧
    (∀ q w, (wsweeps q w).kernel 1 = some wkern ∧ (wsweeps q w).Canonical ∧ 0 < ((wsweeps q w).core 0).room 9 ∧
      0 < ((wsweeps q w).core 0).room 10 ∧ ((wsweeps q w).core 0).slot 4 = some q) ∧
    (let x := wsweeps (wquery [0] 0 [] none) (wsweep [] [])
     x.findSweep 1 3 = some (wsweep [] []) ∧ (wsweep [] []).remaining false = [0] ∧
      x.openSpan ⟨0x700000, 1, 1, 1, 4096⟩ 256 (.sweep 1 3 0) = .ready x) ∧
    (∀ l, l = [] ∨ l = [wlanding] →
     let w := wsweep [0] [wflying l]
     let x := wsweeps (wquery [0] 0 [] none) w
     x.findSweep 1 3 = some w ∧ w.nextPage 0 = some (0, false) ∧
      w.flying.find? (fun g => g.page == 0 && g.catchup == false && g.targets.contains 0) = some (wflying l) ∧
      (wflying l).badWords = [] ∧ (wflying l).bytes.length = 256 ∧ ((x.core 0).lands[0]?).map (·.refs) = some 0 ∧
      w.takers 0 false = [⟨0, 4, 5, [0], 0, false⟩]) ∧
    ((wflying []).landing = [] ∧ (wflying [wlanding]).landing.find? (fun x => x.core == 0) = some wlanding ∧
      ∀ g, g < 16 → (((wsweeps (wquery [0] 0 [] none) (wsweep [0] [wflying []]))).core 0).engineWritable 1 (16 * g) = true) ∧
    (let q := wquery [0] 0 [(0, some wpartial)] none
     q.order = [0] ∧ q.boundary = 0 ∧ q.next = 0 ∧ q.waiting = [(0, some wpartial)] ∧ q.acc = none ∧ q.runs = []) ∧
    (let q := wquery [0, 1] 0 [(0, some wpartial)] none
     q.order[q.next]? = some 0 ∧ q.order[q.next + 1]? = some 1 ∧ 0 / 64 = 1 / 64) := by
  refine ⟨wslots, fun _ _ => ⟨rfl, rfl, (by decide : 0 < 128), (by decide : 0 < 16), rfl⟩, ⟨by decide +kernel, by decide +kernel, rfl⟩,
    ?_, by decide +kernel, by decide, by decide⟩
  rintro l (rfl | rfl) <;> decide +kernel

/-- Queue 0 of partition 0, enabled at 0x800000 with its shadow at 0x810000, and its work. -/
def wqueueOf (l : List Work) : Queue := { Queue.reset with
  qbase := 0x800000
  en := true
  asid := 1
  qshd := 0x810000
  work := l }
def wring0 (q : Queue) (m : List (Nat × Byte)) (now : Nat) : State :=
  let p : Part := { wpart with queues := wpart.queues.set 0 q }
  { wstate with
    parts := (Vector.replicate 8 Part.reset).set 0 p
    mem := m
    cycle := now }
/-- A packet of type t with these further bits, object at 0x900000 (R405, R408). -/
def wpacket (t x : Nat) : BitVec 512 := .ofNat 512 (t + 0x900000 * 2 ^ 64 + x)
def wwork (p : BitVec 512) : Work := ⟨0, p, 1, 1, .accepted, 0, 0⟩
/-- A NOP in slot 0 with V = 1; the same with a wrong count. -/
def wnopSlot : List (Nat × Byte) := [(hbmKey 0 0x800000, 5), (hbmKey 0 0x800001, 1)]
def wbadSlot : List (Nat × Byte) := [(hbmKey 0 0x800000, 5), (hbmKey 0 0x800001, 1), (hbmKey 0 0x800004, 9)]
/-- A packet of the ring's last turn in slot 0: its count is 16 behind (R404). -/
def woldSlot : List (Nat × Byte) :=
  [(hbmKey 0 0x800004, 0xF0), (hbmKey 0 0x800005, 0xFF), (hbmKey 0 0x800006, 0xFF), (hbmKey 0 0x800007, 0xFF)]
/-- A LAUNCH without and with the counts of R406; SIGNAL and WAIT with operation n and value 9; MARKER; NOP. -/
def wlaunch (n : Nat) : Work := wwork (wpacket 1 (n * (2 ^ 448 + 2 ^ 464 + 2 ^ 472 + 2 ^ 480)))
def wsignal (n : Nat) : Work := wwork (wpacket 2 (9 * 2 ^ 128 + n * 2 ^ 192))
def wwaitP (n : Nat) : Work := wwork (wpacket 3 (9 * 2 ^ 128 + n * 2 ^ 192 + 2 ^ 224))
def wobject : List (Nat × Byte) := [(hbmKey 0 4, 1), (hbmKey 0 6, 1), (hbmKey 0 0x900000, 9)]
def wstarts (w : Work) : State := wring0 (wqueueOf [w]) wobject 1000000
theorem wothers (q : Queue) (m : List (Nat × Byte)) (n i : Nat) (h : i < 64) (h0 : i ≠ 0) :
    ((wring0 q m n).queue 0 i).en = false ∧ ((wring0 q m n).queue 0 i).unreleased = [] := by
  have e : ((wring0 q m n).part 0).queues = (Vector.replicate 64 Queue.reset).set 0 q := rfl
  unfold State.queue Part.queue
  rw [e, Vector.getElem?_eq_getElem h, Vector.getElem_set_ne _ _ (Ne.symm h0)]
  simp
  exact ⟨rfl, rfl⟩
set_option maxRecDepth 100000 in
set_option exponentiation.threshold 4096 in
/-- An empty slot, a wrong count, a NOP that is taken; the shadow; the ring's last turn; a halt to clear. -/
theorem test_meets_queue_scans :
    (∀ m, let x := wring0 (wqueueOf []) m 5
     (x.queue 0 0).en = true ∧ (x.queue 0 0).halt = false ∧ (x.queue 0 0).unreleased = [] ∧ x.functionOn 0 = true ∧
      (x.part 0).arrivals = [] ∧ x.flight = [] ∧ (x.part 0).pulls = [] ∧
      (∀ i, i < 64 → i ≠ 0 → (x.queue 0 i).en = false ∧ (x.queue 0 i).unreleased = []) ∧ (x.queue 0 0).ridx = 0 ∧ (x.queue 0 0).qshd % 16 = 0) ∧
    (∀ m, m = [] ∨ m = wbadSlot ∨ m = wnopSlot ∨ m = woldSlot → let x := wring0 (wqueueOf []) m 5
     x.openSpan ⟨0x800000, 1, 1, 0, 4096⟩ 16 (.queue 0 0) = .ready x ∧ x.vbad ⟨0x800000, 1, 1, 0, 4096⟩ 16 = false ∧
      x.openSpan ⟨0x800010, 1, 1, 0, 4096⟩ 48 (.queue 0 0) = .ready x ∧ x.openSpan ⟨0x810000, 1, 2, 0, 4096⟩ 16 (.queue 0 0) = .ready x) ∧
    (let head (m : List (Nat × Byte)) : BitVec 512 :=
       .ofNat 512 (ofBytesLE ((wring0 (wqueueOf []) m 5).vread ⟨0x800000, 1, 1, 0, 4096⟩ 16))
     (head []).getLsbD 8 = false ∧ (head wbadSlot).getLsbD 8 = true ∧ (head wbadSlot).extractLsb' 32 32 ≠ 0 ∧
      (head wnopSlot).getLsbD 8 = true ∧ (head wnopSlot).extractLsb' 32 32 = 0 ∧ pkHeadOk (head wnopSlot) = true ∧
      pkBodyOk (.ofNat 512 ((head wnopSlot).toNat + 2 ^ 128 * ofBytesLE (zeros 48))) = true ∧
      (head woldSlot).extractLsb' 32 32 = 0 - .ofNat 32 (2 ^ 4)) := by
  refine ⟨fun m => ⟨rfl, rfl, rfl, rfl, rfl, rfl, rfl, fun i h h0 => wothers _ _ _ i h h0, rfl, (by decide : 0x810000 % 16 = 0)⟩, ?_, by decide +kernel⟩
  rintro m (rfl | rfl | rfl | rfl) <;> exact ⟨rfl, by decide +kernel, rfl, rfl⟩
set_option maxRecDepth 100000 in
set_option exponentiation.threshold 4096 in
theorem test_meets_packets :
    (∀ w, (wstarts w).parts = (wring0 (wqueueOf [w]) wobject 1000000).parts ∧ ((wstarts w).queue 0 0).work = [w]) ∧
    ((wstarts (wlaunch 0)).elects 0 0 1 = some (wlaunch 0) ∧ launchOk (wlaunch 0).pkt = false) ∧
    (let x := wstarts (wlaunch 1)
     let k := x.newKernel 0 0 (wlaunch 1) x.freshKid
     x.elects 0 0 1 = some (wlaunch 1) ∧ launchOk (wlaunch 1).pkt = true ∧ k.sig = 0 ∧ k.sts = 0 ∧
      x.fetchObj (.queue 0 0) k k.stab (32 * k.nsched) = .ok x ([0, 0, 0, 0, 1, 0, 1, 0] ++ zeros 24) ∧
      x.fetchObj (.queue 0 0) k k.plst (4 * k.nphase) = .ok x [0, 0, 0, 0] ∧
      (schedTable k.nsched k.nmax ([0, 0, 0, 0, 1, 0, 1, 0] ++ zeros 24)).all (·.ok) = true) ∧
    (∀ n, n < 3 → let x := wstarts (wsignal n)
     x.elects 0 0 2 = some (wsignal n) ∧ pkField (wsignal n).pkt 8 8 = 0x900000 ∧ pkField (wsignal n).pkt 24 1 = n ∧
      x.locate ⟨0x900000, 1, 1, 0, 4096⟩ = .at (.hbm 0 0x900000 false) ∧
      x.locate ⟨0x900000, 1, 2, 0, 4096⟩ = .at (.hbm 0 0x900000 false) ∧ x.vbad ⟨0x900000, 1, 1, 0, 4096⟩ 8 = false) ∧
    (wstarts (wsignal 1)).openAll 1 0 4096 (.queue 0 0) [(0x900000, 1, 8), (0x900000, 2, 8)] = .ready (wstarts (wsignal 1)) ∧
    (∀ n, n < 4 → let x := wstarts (wwaitP n)
     x.elects 0 0 3 = some (wwaitP n) ∧ pkField (wwaitP n).pkt 24 1 = n ∧ pkField (wwaitP n).pkt 16 8 = 9 ∧
      x.vbad ⟨0x900000, 1, 1, 0, 4096⟩ 8 = false ∧ ofBytesLE (x.vread ⟨0x900000, 1, 1, 0, 4096⟩ 8) = 9) ∧
    (let q : Queue := { wqueueOf [wwaitP 2] with
       wait := true
       waitSince := some 5 }
     q.next = some (wwaitP 2) ∧ pkType (wwaitP 2).pkt = 3 ∧ pkField (wwaitP 2).pkt 28 4 = 1 ∧ 5 + 1000 * 1 ≤ 1000000) ∧
    (let x := wstarts (wwork (wpacket 4 0))
     x.elects 0 0 4 = some (wwork (wpacket 4 0)) ∧ pkField (wpacket 4 0) 8 8 = 0x900000) ∧
    ((wqueueOf [wwork (wpacket 5 0)]).next = some (wwork (wpacket 5 0)) ∧ 1 + 0 < 3 ∧ 0 + 1000000 * (0 + 1) ≤ 1000000) := by
  refine ⟨fun w => ⟨rfl, rfl⟩, by decide +kernel, ⟨by decide +kernel, by decide +kernel, by decide +kernel, by decide +kernel,
    rfl, rfl, by decide +kernel⟩, ?_, rfl, ?_, by decide +kernel, by decide +kernel, by decide +kernel⟩
  · decide +kernel
  · decide +kernel

/-- Partition 0 as f leaves it, memory m, time now. -/
def wtrans (f : Part → Part) (m : List (Nat × Byte)) (now : Nat) : State :=
  { wstate with
    parts := (Vector.replicate 8 Part.reset).set 0 (f wpart)
    mem := m
    cycle := now }
/-- Tables for ASID 2 in stack 0: directory 0x100, tables 0x10000 and 0x20000, with a big leaf or a table at 0x30000. -/
def wtables (big : Bool) : List (Nat × Byte) :=
  [(hbmKey 0 0x100, 1), (hbmKey 0 0x102, 1), (hbmKey 0 0x10000, 1), (hbmKey 0 0x10002, 2)] ++
    (if big then [(hbmKey 0 0x20000, 0x3B)]
     else [(hbmKey 0 0x20000, 1), (hbmKey 0 0x20002, 3), (hbmKey 0 0x30000, 0x3B)])
def wserved (p : Part) : Part := { p with
  frEn := true
  frbase := 0xA00000 }
/-- An entry of the fault ring that is not answered. -/
def wfault : FaultEnt := ⟨0, 0, 2, 1, 0, [.queue 0 0]⟩
def wasks (p : Part) : Part := { wserved p with
  faults := [wfault]
  frprod := 1 }
/-- A migrating page at address 0 of ASID 3: its record at 0xB00000, new frame 0xC00000, old address 0xD00000. -/
def wmigrates : State := { wtrans id ([(hbmKey 0 0xB00002, 0xD0), (hbmKey 0 0xB0000A, 0xC0), (hbmKey 0 0xD00005, 9)]) 5 with
  tlb := [⟨0, 3, 0, false, 0x4000000000B0003B⟩, ⟨0, 3, 0xD0, false, 0xD0003B⟩] }
/-- The same with its old page in module 5, which is cut off. -/
def wparted : State := { wtrans id ([(hbmKey 0 0xB00006, 0x40), (hbmKey 0 0xB00007, 1), (hbmKey 0 0xB0000A, 0xC0)]) 5 with
  tlb := [⟨0, 3, 0, false, 0x4000000000B0003B⟩]
  ridge := { Ridge.reset with cut := [(5, 0, false)] } }
/-- The big leaf of wtables with BLY, whose first word is uncorrectable while its mirror is sound (R434). -/
def wbelayed : State := { wtrans id (wtables true ++ [(hbmKey 0 0x20007, 0x80)]) 5 with
  bad := [hbmKey 0 0 / 16]
  mirrorUp := true }
/-- The word at address 0 is rewritten from its mirror. -/
def wmended : State := wbelayed.write (hbmKey 0 0) (wbelayed.peek (mirrorKey 0 0) 16)
/-- Fault rings at the host and on a belayed page. -/
def wbusRing : State := { wtrans (fun p => { wserved p with frbase := 10 * 2 ^ 50 }) [] 5 with tlb := [⟨512, 1, 0, true, 0x3B⟩] }
def wtwinRing : State := { wtrans wserved [] 5 with
  tlb := [⟨0, 1, 0, true, 0x800000000000003B⟩]
  mirrorUp := true }
set_option exponentiation.threshold 4096 in
theorem test_meets_walks :
    (∀ b, let x := wtrans id (wtables b) 5
     x.Canonical ∧ x.stackPart 0 = some 0 ∧ (x.part 0).stackSet.getLsbD (x.part 0).trdbStk = true ∧ (x.part 0).asidBase = 1 ∧
      (x.part 0).asidCount = 15 ∧ x.tlb = [wleaf] ∧ x.peekN (hbmKey 0 0x100) 8 = 0x10001 ∧
      x.peekN (hbmKey 0 0x10000) 8 = 0x20001 ∧ 0x10001 % 4 = 1 ∧ (x.part 0).goodTable 0x10001 2048 = true ∧
      0x20001 % 4 = 1 ∧ (x.part 0).goodTable 0x20001 65536 = true) ∧
    ((wtrans id (wtables true) 5).peekN (hbmKey 0 0x20000) 8 = 0x3B ∧ 0x3B % 4 = 3 ∧ goodLeaf 0 true 0x3B = true ∧
      nbit 0x3B 62 = false ∧ nbit 0x3B 63 = false ∧ ∀ a, 1 ≤ a → a ≤ 4 → permits 0x3B a = true) ∧
    ((wtrans id (wtables false) 5).peekN (hbmKey 0 0x20000) 8 = 0x30001 ∧ wpart.goodTable 0x30001 65536 = true ∧
      (wtrans id (wtables false) 5).peekN (hbmKey 0 0x30000) 8 = 0x3B ∧ goodLeaf 0 false 0x3B = true) ∧
    (let x := wtrans wserved [] 5
     x.Canonical ∧ x.stackPart 0 = some 0 ∧ x.peekN (hbmKey 0 0x100) 8 % 2 = 0 ∧ (x.part 0).frEn = true ∧ (x.part 0).faults = [] ∧
      (x.part 0).waiting = [] ∧ x.failed = [] ∧ ((x.part 0).frprod - (x.part 0).frcons).toNat < 2 ^ (x.part 0).frLog ∧
      x.ringPlace 0 0xA00000 4 32 0 = some (.hbm 0 0xA00000 false)) := by
  refine ⟨fun b => by cases b <;> exact ⟨rfl, by decide +kernel⟩, ⟨by decide +kernel, by decide, by decide +kernel, by decide, by decide, ?_⟩,
    by decide +kernel, rfl, by decide +kernel⟩
  intro a h1 h2
  obtain rfl | rfl | rfl | rfl : a = 1 ∨ a = 2 ∨ a = 3 ∨ a = 4 := by omega
  all_goals decide
set_option exponentiation.threshold 4096 in
theorem test_meets_translation_events :
    (let x := wtrans wasks [] 100000000
     (x.part 0).faults = wfault :: [] ∧ wfault.ent.toNat % 2 ^ 31 = 0 % 2 ^ 31 ∧ (x.part 0).frTmo ≠ 0 ∧ (x.part 0).waiting = [] ∧
      wfault.since + (x.part 0).frTmo * 1000000 ≤ x.cycle) ∧
    ((wstate.part 0).tiBusy = false ∧ nbits (wstate.part 0).tiva 54 10 = wstate.modNum.toNat ∧ nbits (wstate.part 0).tiva 50 4 ≤ 10) ∧
    (wstate.functionOn 0 = true ∧ (wstate.part 0).arrivals = [] ∧ wstate.ridge.held = [] ∧ wstate.flight = []) ∧
    -- the whole unit 0 of ASID 1, free and pinned
    (((wstate.part 0).tiva, (wstate.part 0).tilen, 1 % 8192) = (0, 0, 1) ∧ wstate.rangePinned (0, 0, 1) = false ∧
      ({ wstate with pins := [⟨0, 1, 0, .queue 0 0⟩] } : State).rangePinned (0, 0, 1) = true) ∧
    (let x := wtrans (fun p => { p with
       tiBusy := true
       tiRange := (0, 0, 1) }) [] 5
     (x.part 0).tiBusy = true ∧ x.rangePinned (x.part 0).tiRange = false ∧ x.flight = [] ∧
      ({ x with pins := [⟨0, 1, 0, .queue 0 0⟩] } : State).rangePinned (x.part 0).tiRange = true) ∧
    -- an old page of module 5, which has no path since cycle 0
    (wparted.locate ⟨0, 3, 1, 0, 4096⟩ = .at (.moving 0 (hbmKey 0 0xB00000) 0xC00000 0 0x140000000000000 0 false) ∧
      wparted.lineValid (hbmKey 0 0xB00000) 0 = false ∧
      (Config.inDomain 5 = true → wparted.locate ⟨0x140000000000000, 3, 1, 0, 4096⟩ = .blocked)) ∧
    (wmigrates.Canonical ∧
      wmigrates.locate ⟨0, 3, 1, 0, 4096⟩ = .at (.moving 0 (hbmKey 0 0xB00000) 0xC00000 0 0xD00000 0 false) ∧
      wmigrates.lineValid (hbmKey 0 0xB00000) 0 = false ∧ wmigrates.lineValid (hbmKey 0 0xB00000) 1 = false ∧
      wmigrates.locate ⟨0xD00000, 3, 1, 0, 4096⟩ = .at (.hbm 0 0xD00000 false) ∧
      hbmKey 0 0xB00000 + 48 ≤ hbmKey 0 0xC00000) := by
  refine ⟨by decide +kernel, by decide +kernel, by decide +kernel, by decide +kernel, by decide +kernel, ⟨by decide +kernel, by decide +kernel, fun h => ?_⟩,
    rfl, by decide +kernel⟩
  have r : wparted.route (nbits 0x140000000000000 54 10) = some false := by
    rw [show nbits 0x140000000000000 54 10 = 5 from by decide]
    unfold State.route
    simp only [h]
    rfl
  unfold State.locate
  rw [if_pos (by decide), if_neg (by decide), r]
set_option exponentiation.threshold 4096 in
/-- A leaf with BLY, and fault rings at the host and on a belayed page. -/
theorem test_meets_belayed_walks :
    (wbelayed.Canonical ∧ wbelayed.failed = [] ∧ wbelayed.stackPart 0 = some 0 ∧ wbelayed.peekN (hbmKey 0 0x100) 8 = 0x10001 ∧
      wbelayed.peekN (hbmKey 0 0x10000) 8 = 0x20001 ∧ wbelayed.peekN (hbmKey 0 0x20000) 8 = 0x800000000000003B ∧
      goodLeaf 0 true 0x800000000000003B = true ∧ nbit 0x800000000000003B 62 = false ∧ nbit 0x800000000000003B 63 = true ∧
      permits 0x800000000000003B 1 = true ∧ wbelayed.isBad (hbmKey 0 0) = true ∧ wbelayed.isBad (mirrorKey 0 0) = false ∧
      wmended.peekN (hbmKey 0 0x100) 8 = 0x10001 ∧ wmended.peekN (hbmKey 0 0x10000) 8 = 0x20001 ∧
      wmended.peekN (hbmKey 0 0x20000) 8 = 0x800000000000003B) ∧
    (∀ x ∈ [wbusRing, wtwinRing], x.Canonical ∧ x.failed = [] ∧ x.stackPart 0 = some 0 ∧ x.peekN (hbmKey 0 0x100) 8 % 2 = 0 ∧
      (x.part 0).frEn = true ∧ (x.part 0).faults = [] ∧ (x.part 0).waiting = [] ∧
      ((x.part 0).frprod - (x.part 0).frcons).toNat < 2 ^ (x.part 0).frLog) ∧
    wbusRing.ringPlace 0 (10 * 2 ^ 50) 4 32 0 = some (.bus 0) ∧
    wtwinRing.ringPlace 0 0xA00000 4 32 0 = some (.hbm 0 0xA00000 true) := by
  refine ⟨⟨rfl, by decide +kernel⟩, ?_, by decide +kernel, by decide +kernel⟩
  unfold State.Canonical; decide +kernel

/-- Port 0 up with n failed tries; a path through it; module 5 cut off since cycle 0. -/
def wridge (retries now : Nat) : State := { wstate with
  cycle := now
  ridge := { wstate.ridge with
    ports := wstate.ridge.ports.set 0 ⟨true, 3, retries⟩
    paths := [(7, [0])]
    cut := [(5, 0, false)] } }
/-- A packet of module 9 that has just come, for address 0x700004 of ASID 1. -/
def wcome (op : RidgeOp) : State := { wstate with ridge := { wstate.ridge with
  next := assocSet wstate.ridge.next 9 1
  held := [⟨9, 0, 0, 1, 0x700004, op⟩] } }
/-- An ordered update of module 9 (R373). -/
def wordered : State := wcome (.accumulate 1 0 0 true 5)
theorem wordered_opens : wordered.pieceKid ⟨0x700004, 1, 3, 0, 4096⟩ = 0 ∧
    wordered.openSpan ⟨0x700004, 1, 3, 0, 4096⟩ 4 (.ridge 9) = .ready wordered := ⟨by decide +kernel, rfl⟩
theorem test_meets_ridge_events :
    (∀ n now, let x := wridge n now
     x.ridge.ports[0]? = some ⟨true, 3, n⟩ ∧ x.Canonical ∧ assocGet x.ridge.cut 5 = some (0, false) ∧ x.cycle = now) ∧
    ((⟨3, true⟩ : Flit).crcOk = true ∧ (⟨3, true⟩ : Flit).seq = 3 ∧ (⟨4, true⟩ : Flit).seq ≠ 3 ∧
      (⟨3, false⟩ : Flit).crcOk = false ∧ 0 + 10000000 ≤ 10000000) ∧
    (let x : State := { wridge 0 10000000 with kernels := [] }
     x.kernels = [] ∧ ∀ p i, (x.queue p i).en = false) ∧
    (2 < 3 ∧ 3 ≤ 3) ∧ (wstate.stackPart 0 = some 0 ∧ (wstate.part 0).resetting = false ∧ wstate.ridge.held = [] ∧ (1 : Nat) ≠ 0) ∧
    (wstate.house.stage = 6 ∧ wstate.ridge.early = [] ∧ wstate.ridge.due 9 = 0 ∧ wstate.modNum.toNat = 0 ∧
      0x700004 % 16 + ([1, 2, 3] : List Byte).length ≤ 16) ∧
    (let x := wcome (.write [1, 2, 3])
     x.openLine ⟨0x700004, 1, 2, 0, 4096⟩ 3 (.ridge 9) = .ready x ∧
      x.locate ⟨0x700004, 1, 2, 0, 4096⟩ = .at (.hbm 0 0x700004 false)) ∧
    (let x := wcome (.read 3)
     x.openLine ⟨0x700004, 1, 1, 0, 4096⟩ 3 (.ridge 9) = .ready x ∧
      x.locate ⟨0x700004, 1, 1, 0, 4096⟩ = .at (.hbm 0 0x700004 false) ∧ x.vbad ⟨0x700004, 1, 1, 0, 4096⟩ 3 = false) ∧
    (let r : WalkRequest := ⟨0x700004, 1, 3, 0, 4096⟩
     wordered.staged = [] ∧ 9 ≠ wordered.modNum.toNat ∧
      wordered.openSpan { r with kid := wordered.pieceKid r } 4 (.ridge 9) = .ready wordered) ∧
    (1 : Nat) = (wstate.modNum ^^^ 1).toNat := by
  exact ⟨fun _ _ => ⟨rfl, rfl, rfl, rfl⟩, by decide, ⟨rfl, wqueues⟩, by decide, by decide +kernel, by decide, ⟨rfl, by decide +kernel⟩,
    ⟨rfl, by decide +kernel, by decide +kernel⟩, ⟨rfl, (by decide : 9 ≠ wstate.modNum.toNat), by rw [wordered_opens.1]; exact wordered_opens.2⟩, by decide⟩

/-- Window 0 at 0x700000 for core 0, open or not, with a held descriptor or none. -/
def wwinOf (en : Bool) (held : List Vec) : Window := { Window.reset with
  en := en
  asid := 1
  kid := 1
  tgt := 0x700000
  size := 0x1000
  held := held }
def wwin (en : Bool) (held : List Vec) : State := { wstate with wins := wstate.wins.set 0 (wwinOf en held) }
set_option maxRecDepth 100000 in
theorem test_meets_host_port_events :
    (∀ en l, let x := wwin en l
     x.winPart 0 = some 0 ∧ x.functionOn 0 = true ∧ x.Canonical ∧ x.win 0 = wwinOf en l ∧ (x.part 0).arrivals = [] ∧ x.flight = [] ∧ x.ridge.held = [] ∧
      (x.win 0).lost = false ∧ (x.win 0).core < 256 ∧ 0 < (x.core 0).room 8) ∧
    (let x := wwin true []
     (x.win 0).en = true ∧ 0x10 + 3 ≤ (x.win 0).size ∧ nbits 0x700010 54 10 = x.modNum.toNat ∧ nbits 0x700010 50 4 < 10 ∧
      0x700010 % 256 + 3 ≤ 256 ∧ x.locate ⟨0x700010, 1, 2, 1, 4096⟩ = .at (.hbm 0 0x700010 false) ∧
      (x.win 0).size < 0xFFF + 3) ∧
    (wwin true []).openSpan ⟨0x700010, 1, 2, 1, 4096⟩ 3 (.ingest 0) = .ready (wwin true []) ∧
    ((wwin true [7]).win 0).held = 7 :: [] ∧ (2 ^ 31 + 5 * 2 ^ 16) / 2 ^ 31 % 2 = 1 ∧
    (wstate.part 0).stackSet.getLsbD (wstate.part 0).aps = true ∧ 5 ≤ wstate.house.stage ∧ wstate.house.stage ≠ 15 ∧ (0x1000 ≤ 0x1FFC ∧ 0x1FFC + 4 ≤ 0x2000) := by
  refine ⟨fun en l => ⟨(by decide +kernel : wstate.winPart 0 = some 0), (by decide +kernel : wstate.functionOn 0 = true), rfl, rfl, rfl, rfl, rfl, rfl, (by decide : 0 < 256), (by decide : 0 < 4)⟩, by decide +kernel, rfl, rfl,
    by decide, by decide +kernel, by decide, by decide, by decide⟩

/-- A CONFIG argument: module 3; partition 0 has every group, stack and window, and ASIDs 1 to 100. -/
def wconfig : List Byte :=
  [3, 0, 0, 0, 0, 0, 0, 0, 0xFF, 0xFF, 1, 0, 100, 0, 0xFF, 0xFF] ++ List.replicate 120 0
/-- The same module in base camp, and one without work. -/
def wcamp : State := { wstate with house := { wstate.house with stage := 15 } }
def widle : State := { wstate with kernels := [] }
/-- The module at stage n, and with an operation that is not complete. -/
def wstage (n : Nat) : State := { State.reset with house := { House.reset with stage := n } }
def wcalled (op : Nat) : State := { wstate with house := { wstate.house with cmd := some (op, []) } }
theorem test_meets_housekeeping_events :
    (wstate.Canonical ∧ wcamp.Canonical ∧ widle.Canonical ∧ State.reset.Canonical) ∧
    (5 ≤ wstate.house.stage ∧ wstate.house.stage ≠ 15 ∧ 5 ≤ wcamp.house.stage ∧ wcamp.house.stage = 15) ∧
    -- each stage of the boot; a command that waits
    (∀ n, (wstage n).house.stage = n ∧ (wstage n).Canonical) ∧
    (wstate.house.cmd = none ∧ (wcalled 1).house.cmd = some (1, []) ∧ ((1, []) : Nat × List Byte) ≠ (1, wconfig)) ∧
    (wconfig.length = 136 ∧ configOk wconfig = true) ∧ wstate.anyQueueOn = false ∧
    (widle.kernels = [] ∧ 5 ≤ widle.house.stage ∧ widle.house.stage ≠ 15 ∧ (bytesLE 4 40 ++ bytesLE 4 64 ++ bytesLE 8 0).length = 16 ∧
      ofBytesLE (((bytesLE 4 40 ++ bytesLE 4 64 ++ bytesLE 8 0).drop 0).take 4) = 40 ∧
      (bytesLE 4 255).length = 4 ∧ ofBytesLE (((bytesLE 4 255).drop 0).take 4) = 255) ∧
    (List.replicate 32 (1 : Byte)).length = 32 ∧ ((0 : Nat) = 0 ∨ 4 < 0) ∧ ((5 : Nat) = 0 ∨ 4 < 5) ∧
    (wstate.house.stage = 6 ∧ (wstate.part 0).groups ≠ 0) ∧
    wstate.mirrorUp = false ∧ wstate.lostStacks = [] ∧
    ∀ i ∈ [0], ∃ y, (wridge 0 0).ridge.ports[i]? = some y ∧ y.up = true := by
  refine ⟨⟨rfl, rfl, rfl, rfl⟩, by decide, fun _ => ⟨rfl, rfl⟩, by decide, by decide +kernel, by decide +kernel, by decide +kernel, by decide, by decide, by decide,
    by decide, rfl, rfl, fun i h => ?_⟩
  cases List.mem_singleton.1 h
  exact ⟨_, rfl, rfl⟩

/-- Core 0 stands before a bundle with ADD s13, s2, s3 in slot 1, and the agenda names its issue. -/
noncomputable def wabout : State := { wface none 1 0x00268418 id with agenda := [.bundleIssue 0] }
set_option maxRecDepth 100000 in
theorem test_meets_step_runs_decoded :
    decodeSlot 1 0x00268418 = .ok (.addR .a 0 13 2 3) ∧ wabout.agenda = .bundleIssue 0 :: [] ∧
    (let x : State := { wabout.later with agenda := [] };
      (∀ d ∈ x.ropeCores 0, (x.core d).run.isSome = true ∧ x.grantable d = false ∧ (x.core d).seq.upset = none ∧
        (x.core d).seq.owes = none) ∧
      (∃ d ∈ x.ropeCores 0, (x.core d).ripe = false) ∧ x.mayIssue (x.ropeCores 0) = true ∧
      x.reached (x.leader 0) = .bundle (fetchBundle 1 0x00268418)) := by
  refine ⟨rfl, rfl, ?_⟩
  intro x
  have e : x.ropeCores 0 = [0] := rfl
  rw [e]
  refine ⟨fun d h => ?_, ⟨0, by decide, rfl⟩, ?_, rfl⟩
  · cases List.mem_singleton.1 h
    exact ⟨rfl, rfl, rfl, rfl⟩
  · have h : x.core 0 = wabout.core 0 := rfl
    have b : (wabout.core 0).run.isSome = true ∧ (wabout.core 0).seq.hold = none ∧ (wabout.core 0).owesClaim = false := ⟨rfl, rfl, rfl⟩
    simp only [State.mayIssue, State.blocked, List.all_cons, List.all_nil, h, b.1, b.2.1, b.2.2]; rfl

theorem test_meets_encode_then_decode :
    (Instr.addR .a 0 13 2 3).wf = true ∧ encode (.addR .a 0 13 2 3) = some (1, 0x00268418) := by decide

set_option maxRecDepth 100000 in
theorem test_meets_step_keeps_canonical : ∃ t, wabout.Canonical ∧ step wabout = .next t := ⟨_, rfl, rfl⟩

end Sys2Proof.Tests
end

section
/-!
PROOF. The scalar integer instructions of slots 1 and 2: what each shape of slot operation gives, what each of
the model's value functions computes, and from both the obligations O1, O2 and O4 (R186 to R195).
-/
namespace Sys2Proof.Machine

/-! ### What each shape of scalar slot operation gives (R185, R192 to R194) -/

theorem scalar2_gives {s : State} {i : Instr} {u : SUnit} {lat : Nat} {legal : Bool} {g : BitVec 4} {d a b : BitVec 6}
    {f : Word → Word → Word} {v : Word} (h : s.Go g) (hl : legal = true)
    (he : exec i s = issueLone (.plain u.slot legal g (scalar2 u lat d a b f)) true false s)
    (hv : f (s.ctx.rs a).val (s.ctx.rs b).val = v) :
    Gives s i lat (toScalar (unitPort u) d ⟨v, Tag.max (s.ctx.rs a).tag (s.ctx.rs b).tag⟩) :=
  gives_scalar h hl he rfl (by simp [hv])

theorem scalar1_gives {s : State} {i : Instr} {u : SUnit} {lat : Nat} {legal : Bool} {g : BitVec 4} {d a : BitVec 6}
    {f : Word → Word} {v : Word} (h : s.Go g) (hl : legal = true)
    (he : exec i s = issueLone (.plain u.slot legal g (scalar1 u lat d a f)) true false s)
    (hv : f (s.ctx.rs a).val = v) :
    Gives s i lat (toScalar (unitPort u) d ⟨v, (s.ctx.rs a).tag⟩) :=
  gives_scalar h hl he rfl (by simp [hv])

theorem cmp2_gives {s : State} {i : Instr} {slot : Nat} {legal : Bool} {g : BitVec 4} {p : BitVec 3} {a b : BitVec 6}
    {f : Word → Word → Bool} {v : Bool} (h : s.Go g) (hl : legal = true)
    (he : exec i s = issueLone (.plain slot legal g (cmp2 p a b f)) true false s)
    (hv : f (s.ctx.rs a).val (s.ctx.rs b).val = v) :
    Gives s i 1 (toPred p v (Tag.max (s.ctx.rs a).tag (s.ctx.rs b).tag)) :=
  gives_pred h hl he rfl (by simp [hv])

theorem cmp1_gives {s : State} {i : Instr} {slot : Nat} {legal : Bool} {g : BitVec 4} {p : BitVec 3} {a : BitVec 6}
    {f : Word → Bool} {v : Bool} (h : s.Go g) (hl : legal = true)
    (he : exec i s = issueLone (.plain slot legal g (cmp1 p a f)) true false s)
    (hv : f (s.ctx.rs a).val = v) :
    Gives s i 1 (toPred p v (s.ctx.rs a).tag) :=
  gives_pred h hl he rfl (by simp [hv])

theorem pred2_gives {s : State} {i : Instr} {slot : Nat} {legal : Bool} {g : BitVec 4} {p q r : BitVec 3}
    {f : Bool → Bool → Bool} {v : Bool} (h : s.Go g) (hl : legal = true)
    (he : exec i s = issueLone (.plain slot legal g (pred2 p q r f)) true false s)
    (hv : f (s.ctx.rp q).val (s.ctx.rp r).val = v) :
    Gives s i 1 (toPred p v (Tag.max (s.ctx.rp q).tag (s.ctx.rp r).tag)) :=
  gives_pred h hl he rfl (by simp [hv])

theorem checkOut_same {reads : List RegId} {v w : SReg} (h : v = w) : (checkOut reads v w).res = .ok [] id .seq := by
  simp [checkOut, h]

theorem checkOut_differ {reads : List RegId} {v w : SReg} (h : v ≠ w) :
    (checkOut reads v w).res = .trap trCheckMismatch v.val := by
  have hd : ¬ (v.val = w.val ∧ v.tag = w.tag) := fun ⟨hval, htag⟩ => h (by cases v; cases w; simp_all)
  simp [checkOut, hd]

/-- A check of two copies that agree commits and sends nothing (R194). -/
theorem check_gives {s : State} {i : Instr} {slot : Nat} {legal : Bool} {g : BitVec 4} {sem : Ctx → SlotOut}
    {reads : List RegId} {v w : SReg} (h : s.Go g) (hl : legal = true)
    (he : exec i s = issueLone (.plain slot legal g sem) true false s) (hs : sem s.ctx = checkOut reads v w)
    (hvw : v = w) : Gives s i 1 [] :=
  gives_of_issues he (plain_issues (rs := []) h hl (by rw [hs, checkOut_same hvw]) (by rw [hs]; rfl) (by simp) trivial)

/-- A check of two copies that differ traps with the first copy (R194). -/
theorem check_traps {s : State} {i : Instr} {u : SUnit} {legal : Bool} {g : BitVec 4} {sem : Ctx → SlotOut}
    {reads : List RegId} {v w : SReg} (h : s.Go g) (hl : legal = true)
    (he : exec i s = issueLone (.plain u.slot legal g sem) true false s) (hs : sem s.ctx = checkOut reads v w)
    (hvw : v ≠ w) : Traps s i u.slot 0x06 v.val :=
  traps_of h hl (Laws.F.scalar_slot u) he (by rw [hs, checkOut_differ hvw]; rfl)

/-! ### Quotients and remainders (R187) -/

theorem divSigned_zero (a : Word) : divSigned a 0 = (0xFFFFFFFF, a) := if_pos rfl

theorem divSigned_overflow : divSigned 0x80000000 0xFFFFFFFF = (0x80000000, 0) := rfl

theorem divSigned_trunc {a b : Word} (hb : b ≠ 0) (ho : ¬ (a = 0x80000000 ∧ b = 0xFFFFFFFF)) :
    divSigned a b = (.ofInt 32 (a.toInt.tdiv b.toInt), .ofInt 32 (a.toInt - a.toInt.tdiv b.toInt * b.toInt)) := by
  rw [divSigned, if_neg hb, if_neg ho, Int.tmod_def, Int.mul_comm b.toInt]

theorem divUnsigned_zero (a : Word) : divUnsigned a 0 = (0xFFFFFFFF, a) := if_pos rfl

theorem divUnsigned_nonzero {a b : Word} (hb : b ≠ 0) :
    divUnsigned a b = (.ofNat 32 (a.toNat / b.toNat), .ofNat 32 (a.toNat - a.toNat / b.toNat * b.toNat)) := by
  rw [divUnsigned, if_neg hb, Nat.mod_eq_sub_div_mul]

/-! ### Shifts and rotates (R186, R189) -/

theorem shCount_eq_low5 (b : Word) : shCount b = (b.extractLsb' 0 5).toNat := by
  simp [shCount, BitVec.extractLsb'_toNat]

theorem shCount_zeroExtend (k : BitVec 5) : shCount (k.zeroExtend 32) = k.toNat := by
  have := k.isLt
  simp only [shCount, BitVec.truncate_eq_setWidth, BitVec.toNat_setWidth]
  omega

theorem sSar_eq_ofInt_div (a b : Word) : sSar a b = .ofInt 32 (a.toInt / 2 ^ shCount b) := by
  rw [sSar, BitVec.sshiftRight, Int.shiftRight_eq_div_pow]; rfl

theorem sRol_eq_or_shifts (a b : Word) : sRol a b = (a <<< shCount b) ||| (a >>> (32 - shCount b)) := by
  have hlt : shCount b % 32 = shCount b := Nat.mod_mod _ _
  rw [sRol, BitVec.rotateLeft, BitVec.rotateLeftAux, hlt]

end Sys2Proof.Machine

namespace Sys2Proof.Certificates
open Sys2Proof.Machine

/-- Settles O1: each operation is a `scalar2`; the quotients and remainders follow the three cases of R187. -/
theorem scalarArithmetic : Obligations.ScalarArithmetic := by
  unfold Obligations.ScalarArithmetic
  refine ⟨fun s u g d a b n hgo hwf => ?_, fun s u g d a b hgo hwf => ?_⟩
  · exact ⟨scalar2_gives hgo hwf rfl rfl, scalar2_gives hgo hwf rfl rfl, scalar2_gives hgo hwf rfl rfl,
      scalar2_gives hgo hwf rfl rfl, scalar2_gives hgo hwf rfl rfl, scalar2_gives hgo hwf rfl rfl⟩
  · intro x y gives
    have quotient {v : Word} (hv : (divSigned x.val y.val).1 = v) : gives (.divR u g d a b) v :=
      scalar2_gives hgo hwf rfl hv
    have remainder {v : Word} (hv : (divSigned x.val y.val).2 = v) : gives (.remR u g d a b) v :=
      scalar2_gives hgo hwf rfl hv
    have quotientU {v : Word} (hv : (divUnsigned x.val y.val).1 = v) : gives (.divu u g d a b) v :=
      scalar2_gives hgo hwf rfl hv
    have remainderU {v : Word} (hv : (divUnsigned x.val y.val).2 = v) : gives (.remu u g d a b) v :=
      scalar2_gives hgo hwf rfl hv
    refine ⟨fun hzero => ?_, fun hmin hneg => ?_, fun hnz hover => ?_, fun hnz => ?_⟩
    · exact ⟨quotient (by rw [hzero, divSigned_zero]), quotientU (by rw [hzero, divUnsigned_zero]),
        remainder (by rw [hzero, divSigned_zero]), remainderU (by rw [hzero, divUnsigned_zero])⟩
    · exact ⟨quotient (by rw [hmin, hneg, divSigned_overflow]), remainder (by rw [hmin, hneg, divSigned_overflow])⟩
    · exact ⟨quotient (by rw [divSigned_trunc hnz hover]), remainder (by rw [divSigned_trunc hnz hover])⟩
    · exact ⟨quotientU (by rw [divUnsigned_nonzero hnz]), remainderU (by rw [divUnsigned_nonzero hnz])⟩

/-- Settles O2: the register forms are `scalar2`, the immediate forms `scalar1`; the shifts count by `shCount`, which is
the low five bits of a register and the whole of a 5-bit immediate. -/
theorem scalarLogicAndImmediates : Obligations.ScalarLogicAndImmediates := by
  unfold Obligations.ScalarLogicAndImmediates
  refine ⟨fun s u g d a b hgo hwf => ?_, fun s u g d a i k n w hgo hwf => ?_⟩
  · intro x y count gives
    have hcount : shCount y.val = count := shCount_eq_low5 _
    have shl : gives (.shl u g d a b) (x.val <<< count) := scalar2_gives hgo hwf rfl (by rw [sShl, hcount])
    have shr : gives (.shr u g d a b) (x.val >>> count) := scalar2_gives hgo hwf rfl (by rw [sShr, hcount])
    have sar : gives (.sar u g d a b) (.ofInt 32 (x.val.toInt / 2 ^ count)) :=
      scalar2_gives hgo hwf rfl (by rw [sSar_eq_ofInt_div, hcount])
    have rol : gives (.rol u g d a b) ((x.val <<< count) ||| (x.val >>> (32 - count))) :=
      scalar2_gives hgo hwf rfl (by rw [sRol_eq_or_shifts, hcount])
    exact ⟨scalar2_gives hgo hwf rfl rfl, scalar2_gives hgo hwf rfl rfl, scalar2_gives hgo hwf rfl rfl,
      scalar2_gives hgo hwf rfl rfl, shl, shr, sar, rol⟩
  · intro x o y m gives
    obtain ⟨hd, ha⟩ : sDst d = true ∧ notLitInB u a = true := Bool.and_eq_true_iff.mp hwf
    have hcount : shCount (k.zeroExtend 32) = k.toNat := shCount_zeroExtend k
    have shli : gives (.shli u g d a k) 1 (x.val <<< k.toNat) := scalar1_gives hgo hwf rfl (by rw [sShl, hcount])
    have shri : gives (.shri u g d a k) 1 (x.val >>> k.toNat) := scalar1_gives hgo hwf rfl (by rw [sShr, hcount])
    have sari : gives (.sari u g d a k) 1 (.ofInt 32 (x.val.toInt / 2 ^ k.toNat)) :=
      scalar1_gives hgo hwf rfl (by rw [sSar_eq_ofInt_div, hcount])
    have roli : gives (.roli u g d a k) 1 ((x.val <<< k.toNat) ||| (x.val >>> (32 - k.toNat))) :=
      scalar1_gives hgo hwf rfl (by rw [sRol_eq_or_shifts, hcount])
    have bfiLegal (hdst : d ≠ 63) : (Instr.bfi u g d a k n).wf = true := by simpa [Instr.wf, hd, ha] using hdst
    exact ⟨scalar1_gives hgo hwf rfl rfl, scalar1_gives hgo hwf rfl rfl, scalar1_gives hgo hwf rfl rfl,
      scalar1_gives hgo hwf rfl rfl, shli, shri, sari, roli, scalar1_gives hgo hwf rfl rfl, scalar1_gives hgo hwf rfl rfl,
      fun hdst => gives_scalar hgo (bfiLegal hdst) rfl rfl (List.append_nil _),
      gives_scalar hgo hd rfl rfl (List.append_nil _)⟩

/-- Settles O4: the compares are `cmp2` and `cmp1`, the predicate logic `pred2`; a check of two copies turns on whether
they are the same. -/
theorem scalarComparesAndChecks : Obligations.ScalarComparesAndChecks := by
  unfold Obligations.ScalarComparesAndChecks
  refine ⟨fun s u g p q r d a b i hgo hwf => ?_, fun s u g a b i hgo hwf => ?_⟩
  · intro x y z v w two one both
    obtain ⟨hda, hb⟩ : (sDst d && notLitInB u a) = true ∧ notLitInB u b = true := Bool.and_eq_true_iff.mp hwf
    obtain ⟨-, ha⟩ := Bool.and_eq_true_iff.mp hda
    have hab : (notLitInB u a && notLitInB u b) = true := by rw [ha, hb]; rfl
    have ne : two (.cmpNe u g p a b) (decide (x.val ≠ y.val)) := cmp2_gives hgo hab rfl decide_not.symm
    have nei : one (.cmpiNe u g p a i) (decide (x.val ≠ z)) := cmp1_gives hgo ha rfl decide_not.symm
    have tagged : (x.tag != 0) = decide (x.tag ≠ 0) := decide_not.symm
    exact ⟨cmp2_gives hgo hab rfl rfl, ne, cmp2_gives hgo hab rfl rfl, cmp2_gives hgo hab rfl rfl,
      cmp2_gives hgo hab rfl rfl, cmp2_gives hgo hab rfl rfl,
      cmp1_gives hgo ha rfl rfl, nei, cmp1_gives hgo ha rfl rfl, cmp1_gives hgo ha rfl rfl,
      pred2_gives hgo rfl rfl rfl, pred2_gives hgo rfl rfl rfl, pred2_gives hgo rfl rfl rfl, pred2_gives hgo rfl rfl rfl,
      gives_pred hgo ha rfl rfl (by rw [← tagged]; exact List.append_nil _),
      gives_scalar hgo hda rfl rfl (List.append_nil _)⟩
  · intro x y
    obtain ⟨ha, -⟩ : notLitInB u a = true ∧ notLitInB u b = true := Bool.and_eq_true_iff.mp hwf
    exact ⟨fun same => check_gives hgo hwf rfl rfl same, fun differ => check_traps hgo hwf rfl rfl differ,
      fun same => check_gives hgo ha rfl rfl same, fun differ => check_traps hgo ha rfl rfl differ⟩

end Sys2Proof.Certificates
end

section
/-!
PROOF. The scalar loads of slot 3: what the bytes of a word are as a number, what `scalarLoad` answers in each of
its cases, and from both the obligation O7 (R216, R224, R225).
-/
namespace Sys2Proof.Machine

/-! ### Little-endian bytes as a bit vector (R7) -/

theorem toNat_append_eq_add {m n : Nat} (x : BitVec m) (y : BitVec n) :
    (x ++ y).toNat = 2 ^ n * x.toNat + y.toNat := by
  rw [BitVec.toNat_append, ← Nat.shiftLeft_add_eq_or_of_lt y.isLt, Nat.shiftLeft_eq, Nat.mul_comm]

@[simp] theorem ofBytesLE_nil : ofBytesLE [] = 0 := rfl
@[simp] theorem ofBytesLE_cons (b : Byte) (l : List Byte) : ofBytesLE (b :: l) = b.toNat + 256 * ofBytesLE l := rfl

theorem ofBytesLE_one (b : Byte) : ofBytesLE [b] = b.toNat := by simp

theorem ofBytesLE_two (b₀ b₁ : Byte) : ofBytesLE [b₀, b₁] = (b₁ ++ b₀).toNat := by
  simp only [ofBytesLE_cons, ofBytesLE_nil, toNat_append_eq_add]
  omega

theorem ofBytesLE_four (b₀ b₁ b₂ b₃ : Byte) : ofBytesLE [b₀, b₁, b₂, b₃] = (b₃ ++ (b₂ ++ (b₁ ++ b₀))).toNat := by
  simp only [ofBytesLE_cons, ofBytesLE_nil, toNat_append_eq_add]
  omega

theorem sextI_toNat {n : Nat} (x : BitVec n) : sextI x.toNat n = x.toInt := by
  rw [BitVec.toInt_eq_msb_cond, BitVec.msb_eq_decide]
  simp [sextI]

/-- The register value that a load makes of v, the number in the n bits read (R224). -/
def loadExtend (signed : Bool) (n v : Nat) : Word := if signed then .ofInt 32 (sextI v n) else .ofNat 32 v

theorem loadExtend_signed {n : Nat} (x : BitVec n) : loadExtend true n x.toNat = x.signExtend 32 := by
  rw [loadExtend, if_pos rfl, sextI_toNat]; rfl

theorem loadExtend_unsigned {n : Nat} (x : BitVec n) : loadExtend false n x.toNat = x.zeroExtend 32 := by
  simp [loadExtend]

/-! ### What a scalar load answers (R224, R225) -/

/-- The address of a scalar load of z bytes with its low bits cleared (R207, R224). -/
def Ctx.loadAddr (x : Ctx) (z : Nat) (b : BitVec 6) (o : BitVec 9) : Nat := alignDown (scalarEa (x.rs b).val o z) z

/-- The slot q with the note of its load as its one effect (R70). -/
def SlotOut.noting (q : SlotOut) (c : Nat) (n : Option (Nat × Nat)) : SlotOut :=
  { q with res := match q.res with
      | .ok rs _ fl => .ok rs (fun s => s.noteLoad c n) fl
      | r => r }

theorem noting_res {q : SlotOut} {c : Nat} {n : Option (Nat × Nat)} {rs : List Res} {f : State → State} {fl : Flow}
    (h : q.res = .ok rs f fl) : (q.noting c n).res = .ok rs (fun s => s.noteLoad c n) fl := by
  rw [SlotOut.noting, h]

theorem scalarOut_res (n lat : Nat) (d : BitVec 6) (reads : List RegId) (v : SReg) :
    (scalarOut n lat d reads v).res = .ok ((toScalar n d v).map (fun w => ⟨lat, w.1, w.2⟩)) id .seq := by
  simp [scalarOut, toScalar, Function.comp_def]

section
variable {x : Ctx} {z : Nat} {sg spec : Bool} {d b : BitVec 6} {o : BitVec 9}

theorem scalarLoad_read (hbase : (x.rs b).tag = 0) (hread : x.canRead (x.loadAddr z b o) = true) :
    scalarLoad z sg spec d b o x =
      (scalarOut 4 4 d (idS b) ⟨loadExtend sg (8 * z) (x.s.padRead x.c x.kid (x.loadAddr z b o) z),
        x.s.wordTag x.c x.kid (x.loadAddr z b o)⟩).noting x.c
        (some (x.loadAddr z b o / 64, x.s.padRead x.c x.kid (x.loadAddr z b o) z)) := by
  unfold Ctx.loadAddr at *
  cases spec <;> simp only [scalarLoad, hbase, hread] <;> rfl

theorem scalarLoad_speculative_failed (hfail : (x.rs b).tag ≠ 0 ∨ x.canRead (x.loadAddr z b o) = false) :
    scalarLoad z sg true d b o x = (scalarOut 4 4 d (idS b) ⟨0, Tag.max (x.rs b).tag 1⟩).noting x.c none := by
  have fails : (x.rs b).tag ≠ 0 ∨ ¬ x.canRead (x.loadAddr z b o) := hfail.imp_right ne_true_of_eq_false
  unfold Ctx.loadAddr at fails
  rw [scalarLoad, if_pos rfl, if_pos fails]; rfl

theorem scalarLoad_poisoned (hbase : (x.rs b).tag ≠ 0) :
    (scalarLoad z sg false d b o x).res = .trap trPoisonAddress 0 :=
  if_pos hbase

theorem scalarLoad_refused (hbase : (x.rs b).tag = 0) (hread : x.canRead (x.loadAddr z b o) = false) :
    (scalarLoad z sg false d b o x).res = .trap trRegionViolation (.ofNat 32 (x.loadAddr z b o)) :=
  (if_neg (fun poisoned => poisoned hbase)).trans (if_pos (ne_true_of_eq_false hread))
end

/-- A slot 3 operation with a scalar result that notes its load commits and sends that result alone (R70, R85). -/
theorem gives_loaded {s : State} {i : Instr} {legal : Bool} {g : BitVec 4} {sem : Ctx → SlotOut} {n lat : Nat}
    {d : BitVec 6} {reads : List RegId} {v : SReg} {l : Option (Nat × Nat)} (h : s.Go g) (hl : legal = true)
    (he : exec i s = issueLone (.plain 3 legal g sem) true false s)
    (hs : sem s.ctx = (scalarOut n lat d reads v).noting s.focus l) : Gives s i lat (toScalar n d v) := by
  have hres : (sem s.ctx).res = _ := hs ▸ noting_res (scalarOut_res n lat d reads v)
  have hsort : Sorted ((toScalar n d v).map (fun w => ⟨lat, w.1, w.2⟩)) := by
    unfold toScalar dstS; split <;> simp [Sorted, Res.flagged]
  have hlat : ∀ r ∈ (toScalar n d v).map (fun w => (⟨lat, w.1, w.2⟩ : Res)), r.lat = lat :=
    List.forall_mem_map.mpr fun _ _ => rfl
  exact gives_noted h hl he hres (by rw [hs]; rfl) hlat hsort (by rw [List.map_map]; exact List.map_id _)

end Sys2Proof.Machine

namespace Sys2Proof.Certificates
open Sys2Proof.Machine

/-- Settles O7: every load is a `scalarLoad`; the cases are those of a clean base over a readable word, a poisoned base
and an unreadable word, and the value read is the extension of the bytes put together. -/
theorem scalarLoads : Obligations.ScalarLoads := by
  unfold Obligations.ScalarLoads
  intro s g d b o hgo hd base kid ea a tag byte half word loads specs
  have plain {i : Instr} {z : Nat} {sg : Bool} {v : Word}
      (he : exec i s = issueLone (.plain 3 (sDst d) g (scalarLoad z sg false d b o)) true false s)
      (hv : loadExtend sg (8 * z) (s.padRead s.focus kid (a z) z) = v) : loads i z v :=
    ⟨fun clean readable => hv ▸ gives_loaded hgo hd he (scalarLoad_read clean readable),
      fun poisoned => traps_of hgo hd (by decide) he (scalarLoad_poisoned poisoned),
      fun clean refused => traps_of hgo hd (by decide) he (scalarLoad_refused clean refused)⟩
  have speculative {i : Instr} {z : Nat} {sg : Bool} {v : Word}
      (he : exec i s = issueLone (.plain 3 (sDst d) g (scalarLoad z sg true d b o)) true false s)
      (hv : loadExtend sg (8 * z) (s.padRead s.focus kid (a z) z) = v) : specs i z v :=
    ⟨fun clean readable => hv ▸ gives_loaded hgo hd he (scalarLoad_read clean readable),
      fun failed => gives_loaded hgo hd he (scalarLoad_speculative_failed failed)⟩
  have oneByte : s.padRead s.focus kid (a 1) 1 = (byte 1 0).toNat := ofBytesLE_one _
  have twoBytes : s.padRead s.focus kid (a 2) 2 = half.toNat := ofBytesLE_two _ _
  have fourBytes : s.padRead s.focus kid (a 4) 4 = word.toNat := ofBytesLE_four _ _ _ _
  have byteU : loadExtend false (8 * 1) (s.padRead s.focus kid (a 1) 1) = (byte 1 0).zeroExtend 32 := by
    rw [oneByte, loadExtend_unsigned]
  have halfU : loadExtend false (8 * 2) (s.padRead s.focus kid (a 2) 2) = half.zeroExtend 32 := by
    rw [twoBytes, loadExtend_unsigned]
  have wordU : loadExtend false (8 * 4) (s.padRead s.focus kid (a 4) 4) = word := by
    rw [fourBytes, loadExtend_unsigned]; exact BitVec.setWidth_eq word
  exact ⟨plain rfl (by rw [oneByte, loadExtend_signed]), plain rfl byteU, plain rfl (by rw [twoBytes, loadExtend_signed]),
    plain rfl halfU, plain rfl wordU, speculative rfl wordU, speculative rfl byteU, speculative rfl halfU⟩

end Sys2Proof.Certificates
end

section
/-!
PROOF. The integer instructions of slots 4 and 5: what each of the model's element functions computes (R252).
-/
namespace Sys2Proof.Machine

/-! ### Element functions as operations of bit vectors (R12, R13, R252) -/

theorem ofNat_toNat_self {n : Nat} (x : BitVec n) : BitVec.ofNat n x.toNat = x := by
  rw [BitVec.ofNat_toNat, BitVec.setWidth_eq]

theorem ofNat_wrapI (n : Nat) (z : Int) : BitVec.ofNat n (wrapI n z) = .ofInt n z := by
  have reduced : wrapI n z = (BitVec.ofInt n z).toNat := by simp [wrapI, BitVec.toNat_ofInt]
  rw [reduced, ofNat_toNat_self]

section
variable {n : Nat} (x y : BitVec n)

theorem ofNat_eAdd : BitVec.ofNat n (eAdd n x.toNat y.toNat) = x + y :=
  BitVec.eq_of_toNat_eq (by simp [eAdd])

theorem ofNat_eSub : BitVec.ofNat n (eSub n x.toNat y.toNat) = x - y := by
  have := y.isLt
  apply BitVec.eq_of_toNat_eq
  rw [BitVec.toNat_ofNat, BitVec.toNat_sub, eSub, Nat.mod_mod]
  congr 1
  omega

theorem ofNat_eMul : BitVec.ofNat n (eMul n x.toNat y.toNat) = x * y :=
  BitVec.eq_of_toNat_eq (by simp [eMul])

theorem ofNat_mulAdd (z : BitVec n) : BitVec.ofNat n ((x.toNat * y.toNat + z.toNat) % 2 ^ n) = x * y + z :=
  BitVec.eq_of_toNat_eq (by simp)

theorem ofNat_eMulh : BitVec.ofNat n (eMulh n x.toNat y.toNat) = .ofInt n (x.toInt * y.toInt / 2 ^ n) := by
  rw [eMulh, ofNat_wrapI, sextI_toNat, sextI_toNat]

theorem eMin_toNat : eMin n x.toNat y.toNat = (if x.toInt < y.toInt then x else y).toNat := by
  simp only [eMin, sextI_toNat, apply_ite BitVec.toNat]

theorem ofNat_eMin : BitVec.ofNat n (eMin n x.toNat y.toNat) = if x.toInt < y.toInt then x else y := by
  rw [eMin_toNat, ofNat_toNat_self]

theorem eMax_toNat : eMax n x.toNat y.toNat = (if x.toInt > y.toInt then x else y).toNat := by
  simp only [eMax, sextI_toNat, apply_ite BitVec.toNat, gt_iff_lt]

theorem ofNat_eMax : BitVec.ofNat n (eMax n x.toNat y.toNat) = if x.toInt > y.toInt then x else y := by
  rw [eMax_toNat, ofNat_toNat_self]

theorem ofNat_eMinu : BitVec.ofNat n (eMinu n x.toNat y.toNat) = if x.toNat < y.toNat then x else y := by
  simp only [eMinu, apply_ite (BitVec.ofNat n), ofNat_toNat_self]

theorem ofNat_eMaxu : BitVec.ofNat n (eMaxu n x.toNat y.toNat) = if x.toNat > y.toNat then x else y := by
  simp only [eMaxu, apply_ite (BitVec.ofNat n), ofNat_toNat_self, gt_iff_lt]

theorem ofNat_eAbs : BitVec.ofNat n (eAbs n x.toNat) = .ofNat n x.toInt.natAbs := by
  rw [eAbs, ofNat_wrapI, sextI_toNat, BitVec.ofInt_natCast]

theorem ofNat_eAnd : BitVec.ofNat n (eAnd n x.toNat y.toNat) = x &&& y := by
  rw [eAnd, ← BitVec.toNat_and, ofNat_toNat_self]

theorem ofNat_eOr : BitVec.ofNat n (eOr n x.toNat y.toNat) = x ||| y := by
  rw [eOr, ← BitVec.toNat_or, ofNat_toNat_self]

theorem ofNat_eXor : BitVec.ofNat n (eXor n x.toNat y.toNat) = x ^^^ y := by
  rw [eXor, ← BitVec.toNat_xor, ofNat_toNat_self]

theorem ofNat_eShl : BitVec.ofNat n (eShl n x.toNat y.toNat) = x <<< (y.toNat % n) :=
  BitVec.eq_of_toNat_eq (by simp [eShl, BitVec.toNat_shiftLeft, Nat.shiftLeft_eq])

theorem ofNat_eShr : BitVec.ofNat n (eShr n x.toNat y.toNat) = x >>> (y.toNat % n) := by
  rw [eShr, ← Nat.shiftRight_eq_div_pow, ← BitVec.toNat_ushiftRight, ofNat_toNat_self]

theorem ofNat_eSar : BitVec.ofNat n (eSar n x.toNat y.toNat) = .ofInt n (x.toInt / 2 ^ (y.toNat % n)) := by
  rw [eSar, ofNat_wrapI, sextI_toNat]

theorem satS_eq_clamp (z : Int) : satS n z = max (-2 ^ (n - 1)) (min (2 ^ (n - 1) - 1) z) := by
  have : (0 : Int) < 2 ^ (n - 1) := Int.pow_pos (by decide)
  unfold satS
  split
  · omega
  · split <;> omega

theorem ofNat_eAdds : BitVec.ofNat n (eAdds n x.toNat y.toNat) =
    .ofInt n (max (-2 ^ (n - 1)) (min (2 ^ (n - 1) - 1) (x.toInt + y.toInt))) := by
  rw [eAdds, ofNat_wrapI, sextI_toNat, sextI_toNat, satS_eq_clamp]

theorem ofNat_eSubs : BitVec.ofNat n (eSubs n x.toNat y.toNat) =
    .ofInt n (max (-2 ^ (n - 1)) (min (2 ^ (n - 1) - 1) (x.toInt - y.toInt))) := by
  rw [eSubs, ofNat_wrapI, sextI_toNat, sextI_toNat, satS_eq_clamp]

/-! ### Counts of bits (R186, R252, R260) -/

theorem nbit_toNat (i : Nat) : nbit x.toNat i = x.getLsbD i := by
  rw [BitVec.getLsbD, Nat.testBit_eq_decide_div_mod_eq]; rfl

theorem foldl_count_eq_length_filter (p : Nat → Bool) (l : List Nat) (c : Nat) :
    l.foldl (fun c i => if p i then c + 1 else c) c = c + (l.filter p).length := by
  induction l generalizing c with
  | nil => rfl
  | cons i l ih =>
    rw [List.foldl_cons, ih, List.filter_cons]
    split
    · rw [List.length_cons]; omega
    · rfl

theorem popcount_toNat : popcount n x.toNat = ((List.range n).filter (fun i => x.getLsbD i)).length := by
  simp only [popcount, nbit_toNat]
  rw [foldl_count_eq_length_filter, Nat.zero_add]

theorem findIdx_range_eq {p : Nat → Bool} {n i : Nat} (hi : i < n) (hp : p i = true)
    (before : ∀ j, j < i → p j = false) :
    (List.range n).findIdx p = i := by
  rw [List.findIdx_eq (by rwa [List.length_range])]
  exact ⟨by rwa [List.getElem_range], fun j hj => by rw [List.getElem_range, before j hj]⟩

theorem findIdx_range_eq_length {p : Nat → Bool} {n : Nat} (none : ∀ j, j < n → p j = false) :
    (List.range n).findIdx p = n := by
  rw [List.findIdx_eq_length_of_false (fun j hj => none j (List.mem_range.mp hj)), List.length_range]

theorem ctzN_toNat : ctzN n x.toNat = (List.range n).findIdx (fun i => x.getLsbD i) := by
  have hbit : nbit x.toNat = fun i => x.getLsbD i := funext (nbit_toNat x)
  rw [ctzN, hbit]
  symm
  cases h : (List.range n).find? (fun i => x.getLsbD i) with
  | none =>
    exact findIdx_range_eq_length (fun j hj => by simpa using List.find?_eq_none.mp h j (List.mem_range.mpr hj))
  | some i =>
    obtain ⟨hp, hi, before⟩ := List.find?_range_eq_some.mp h
    exact findIdx_range_eq (List.mem_range.mp hi) hp (fun j hj => by simpa using before j hj)

theorem clzN_toNat : clzN n x.toNat = (List.range n).findIdx (fun i => x.getMsbD i) := by
  symm
  by_cases hx : x.toNat = 0
  · have hzero : x = 0#n := BitVec.eq_of_toNat_eq hx
    rw [clzN, if_pos hx]
    exact findIdx_range_eq_length (fun j _ => by rw [hzero, BitVec.getMsbD_zero])
  · have hlog : x.toNat.log2 < n := (Nat.log2_lt hx).mpr x.isLt
    rw [clzN, if_neg hx]
    refine findIdx_range_eq (by omega) ?_ (fun j hj => ?_)
    · rw [BitVec.getMsbD_eq_getLsbD, show n - 1 - (n - 1 - x.toNat.log2) = x.toNat.log2 by omega, BitVec.getLsbD,
        Nat.testBit_log2 hx, Bool.and_true, decide_eq_true_eq]
      omega
    · rw [BitVec.getMsbD_eq_getLsbD, BitVec.getLsbD, Nat.testBit_lt_two_pow, Bool.and_false]
      exact (Nat.log2_lt hx).mp (by omega)
end

end Sys2Proof.Machine
end

section
/-!
PROOF. The element-wise integer instructions of slots 4 and 5: what each shape of vector operation gives, and from it
and the element functions the obligation O14 (R252, R253).
-/
namespace Sys2Proof.Machine

theorem legal_width {w : BitVec 3} (hw : w.toNat < 3) : w.ult 3 = true := decide_eq_true hw

theorem legal_vector {d : BitVec 5} {w : BitVec 3} (hd : vDst d = true) (hw : w.toNat < 3) :
    (vDst d && w.ult 3) = true := by
  rw [hd, Bool.true_and]; exact legal_width hw

/-! ### Element results given as bit vectors (R248 to R250) -/

theorem ofNat_elem (W : Nat) (v : Vec) (e : Nat) : BitVec.ofNat (8 * W) (elem W v e) = lane (8 * W) v e := by
  rw [elem_eq_lane, ofNat_toNat_self]

section
variable {s : State} {i : Instr} {slot lat W : Nat} {u : VUnit} {legal : Bool} {g : BitVec 4} {sem : Ctx → SlotOut}
  {d : BitVec 5} {reads : List RegId} {N : MReg} {gov : Tag} {F : Nat → Nat} {T : Nat → Tag}
  {f : Nat → BitVec (8 * W)} {t : Nat → Tag}

theorem masked_gives (h : s.Go g) (hl : legal = true)
    (he : exec i s = issueLone (.plain slot legal g sem) true false s) (hW : IsWidth W)
    (hs : sem s.ctx = writeMasked u lat d reads W N F T)
    (hf : ∀ e, e < 256 / W → actW W N e = true → BitVec.ofNat (8 * W) (F e) = f e)
    (ht : ∀ e, e < 256 / W → actW W N e = true → Tag.max (T e) (mtag N.tags (e * W)) = t e) :
    GivesVector s i lat (vunitPort u) d W (actW W N) f t [] :=
  writeMasked_gives h hl he hW hs (fun e hlt ha => by rw [← hf e hlt ha, BitVec.toNat_ofNat]) ht

theorem selected_gives (h : s.Go g) (hl : legal = true)
    (he : exec i s = issueLone (.plain slot legal g sem) true false s) (hW : IsWidth W)
    (hs : sem s.ctx = writeAll u lat d reads W F T gov)
    (hf : ∀ e, e < 256 / W → BitVec.ofNat (8 * W) (F e) = f e)
    (ht : ∀ e, e < 256 / W → Tag.max (T e) gov = t e) :
    GivesVector s i lat (vunitPort u) d W (fun _ => true) f t [] :=
  writeAll_gives h hl he hW hs (fun e hlt => by rw [← hf e hlt, BitVec.toNat_ofNat]) ht
end

/-! ### What each shape of element-wise operation gives (R249, R250, R252, R255) -/

/-- An element of the width that code w names (R248). -/
abbrev Element (w : BitVec 3) : Type := BitVec (8 * 2 ^ w.toNat)

theorem vec2_gives {s : State} {i : Instr} {u : VUnit} {slot lat : Nat} {legal : Bool} {g : BitVec 4}
    {d a b : BitVec 5} {m w : BitVec 3} {f : Nat → Nat → Nat → Nat} {v : Element w → Element w → Element w}
    (h : s.Go g) (hl : legal = true) (hw : w.toNat < 3)
    (he : exec i s = issueLone (.plain slot legal g (vec2 u lat d a b m w f)) true false s)
    (hv : ∀ x y : Element w, BitVec.ofNat _ (f (8 * 2 ^ w.toNat) x.toNat y.toNat) = v x y) :
    let W := 2 ^ w.toNat
    let p := s.ctx.rv a
    let q := s.ctx.rv b
    let N := s.ctx.rm m.toNat
    GivesVector s i lat (vunitPort u) d W (actW W N) (fun e => v (lane (8 * W) p.val e) (lane (8 * W) q.val e))
      (fun e => maxTag [elemTag W p.tags e, elemTag W q.tags e, mtag N.tags (e * W)]) [] :=
  masked_gives h hl he (isWidth_widthOf hw) rfl (fun _ _ _ => hv _ _)
    (fun e _ _ => by simp [Tag.max_assoc, widthOf])

theorem vec1_gives {s : State} {i : Instr} {u : VUnit} {slot lat : Nat} {legal : Bool} {g : BitVec 4} {d a : BitVec 5}
    {m w : BitVec 3} {f : Nat → Nat → Nat} {v : Element w → Element w}
    (h : s.Go g) (hl : legal = true) (hw : w.toNat < 3)
    (he : exec i s = issueLone (.plain slot legal g (vec1 u lat d a m w f)) true false s)
    (hv : ∀ x : Element w, BitVec.ofNat _ (f (8 * 2 ^ w.toNat) x.toNat) = v x) :
    let W := 2 ^ w.toNat
    let p := s.ctx.rv a
    let N := s.ctx.rm m.toNat
    GivesVector s i lat (vunitPort u) d W (actW W N) (fun e => v (lane (8 * W) p.val e))
      (fun e => maxTag [elemTag W p.tags e, mtag N.tags (e * W)]) [] :=
  masked_gives h hl he (isWidth_widthOf hw) rfl (fun _ _ _ => hv _)
    (fun e _ _ => by simp [widthOf])

/-- The scalar operand takes part with its low bits, σ in R248. -/
theorem vecX_gives {s : State} {i : Instr} {u : VUnit} {slot : Nat} {legal : Bool} {g : BitVec 4} {d a : BitVec 5}
    {c : BitVec 6} {m : BitVec 2} {w : BitVec 3} {f : Nat → Nat → Nat → Nat}
    {v : Element w → Element w}
    (h : s.Go g) (hl : legal = true) (hw : w.toNat < 3)
    (he : exec i s = issueLone (.plain slot legal g (vecX u d a c m w f)) true false s)
    (hv : ∀ x : Element w,
      BitVec.ofNat _ (f (8 * 2 ^ w.toNat) x.toNat ((s.ctx.rs c).val.setWidth (8 * 2 ^ w.toNat)).toNat) = v x) :
    let W := 2 ^ w.toNat
    let p := s.ctx.rv a
    let N := s.ctx.rm m.toNat
    GivesVector s i 2 (vunitPort u) d W (actW W N) (fun e => v (lane (8 * W) p.val e))
      (fun e => maxTag [elemTag W p.tags e, (s.ctx.rs c).tag, mtag N.tags (e * W)]) [] :=
  masked_gives h hl he (isWidth_widthOf hw) rfl
    (fun e _ _ => by rw [← hv, BitVec.toNat_setWidth]; rfl)
    (fun e _ _ => by simp [Tag.max_assoc, widthOf])

/-- `vmad` reads its destination (R253). -/
theorem vmad_gives {s : State} {u : VUnit} {g : BitVec 4} {d a b : BitVec 5} {m w : BitVec 3} (h : s.Go g)
    (hd : vDst d = true) (hd31 : d ≠ 31) (hw : w.toNat < 3) :
    let W := 2 ^ w.toNat
    let p := s.ctx.rv a
    let q := s.ctx.rv b
    let o := s.ctx.rv d
    let N := s.ctx.rm m.toNat
    GivesVector s (.vmad u g d a b m w) 2 (vunitPort u) d W (actW W N)
      (fun e => lane (8 * W) p.val e * lane (8 * W) q.val e + lane (8 * W) o.val e)
      (fun e => maxTag [elemTag W p.tags e, elemTag W q.tags e, elemTag W o.tags e, mtag N.tags (e * W)]) [] := by
  have hlegal : (Instr.vmad u g d a b m w).wf = true := by
    rw [Instr.wf, hd, Bool.true_and]
    exact Bool.and_eq_true_iff.mpr ⟨by simpa using hd31, legal_width hw⟩
  exact masked_gives h hlegal rfl (isWidth_widthOf hw) rfl (fun _ _ _ => ofNat_mulAdd _ _ _)
    (fun e _ _ => by simp [Tag.max_assoc, widthOf])

end Sys2Proof.Machine

namespace Sys2Proof.Certificates
open Sys2Proof.Machine

/-- Settles O14: but for `vmad`, which reads its destination too, each operation is a `vec2` or a `vec1`, whose element
function is the stated operation of bit vectors. -/
theorem vectorIntegers : Obligations.VectorIntegers := by
  unfold Obligations.VectorIntegers
  refine ⟨fun s u g d a b m w hgo hd hw => ?_, fun s u g d a b m w hgo hd hw => ?_⟩
  · intro W n p q o N x y clamp gives
    have hl := legal_vector hd hw
    exact ⟨vec2_gives hgo hl hw rfl ofNat_eAdd, vec2_gives hgo hl hw rfl ofNat_eSub,
      vec2_gives hgo hl hw rfl ofNat_eMul, vec2_gives hgo hl hw rfl ofNat_eMulh,
      vec2_gives hgo hl hw rfl ofNat_eMin, vec2_gives hgo hl hw rfl ofNat_eMax,
      vec2_gives hgo hl hw rfl ofNat_eMinu, vec2_gives hgo hl hw rfl ofNat_eMaxu,
      vec2_gives hgo hl hw rfl ofNat_eAdds, vec2_gives hgo hl hw rfl ofNat_eSubs,
      vec1_gives hgo hl hw rfl ofNat_eAbs, fun hd31 => vmad_gives hgo hd hd31 hw⟩
  · intro W n p q N x y c gives one
    have hl := legal_vector hd hw
    exact ⟨vec2_gives hgo hl hw rfl ofNat_eAnd, vec2_gives hgo hl hw rfl ofNat_eOr,
      vec2_gives hgo hl hw rfl ofNat_eXor, vec2_gives hgo hl hw rfl ofNat_eShl,
      vec2_gives hgo hl hw rfl ofNat_eShr, vec2_gives hgo hl hw rfl ofNat_eSar,
      vec1_gives hgo hl hw rfl (fun x => congrArg _ (clzN_toNat x)),
      vec1_gives hgo hl hw rfl (fun x => congrArg _ (popcount_toNat x))⟩

end Sys2Proof.Certificates
end

section
/-!
PROOF. The scalar-operand forms and the mask instructions of slots 4 and 5, and from them the obligations O16 and O17
(R255 to R261).
-/
namespace Sys2Proof.Machine

/-! ### Shift counts of a scalar operand (R255) -/

/-- The bits of a scalar operand that an element has no room for do not change a shift count. -/
theorem shiftCount_setWidth {w : BitVec 3} (hw : w.toNat < 3) (r : Word) :
    (r.setWidth (8 * 2 ^ w.toNat)).toNat % (8 * 2 ^ w.toNat) = r.toNat % (8 * 2 ^ w.toNat) := by
  rw [BitVec.toNat_setWidth]
  apply Nat.mod_mod_of_dvd
  rcases isWidth_widthOf hw with h | h | h <;> rw [h] <;> decide

/-- The low bits of a scalar operand, σ in R248. -/
theorem ofNat_mod_eq_setWidth (n : Nat) (r : Word) : BitVec.ofNat n (r.toNat % 2 ^ n) = r.setWidth n := by
  rw [← BitVec.toNat_setWidth, ofNat_toNat_self]

theorem gives_k {s : State} {i : Instr} {slot lat k : Nat} {legal : Bool} {g : BitVec 4} {sem : Ctx → SlotOut}
    {reads : List RegId} {x : Word} {t : Tag} (h : s.Go g) (hl : legal = true)
    (he : exec i s = issueLone (.plain slot legal g sem) true false s) (hs : sem s.ctx = kOut lat k reads ⟨x, t⟩) :
    Gives s i lat [(.s (48 + k), .word x t)] :=
  gives_of_issues he (kOut_issues h hl hs)

/-! ### Single elements (R256 to R258) -/

section
variable {s : State} {u : VUnit} {g : BitVec 4} {d a : BitVec 5} {c : BitVec 6} {m : BitVec 2} {w : BitVec 3}

theorem vdup_gives (h : s.Go g) (hd : vDst d = true) (hw : w.toNat < 3) :
    let W := 2 ^ w.toNat
    let r := s.ctx.rs c
    let N := s.ctx.rm m.toNat
    GivesVector s (.vdup u g d a c m w) 2 (vunitPort u) d W (actW W N) (fun _ => r.val.setWidth (8 * W))
      (fun e => maxTag [r.tag, mtag N.tags (e * W)]) [] :=
  masked_gives h (legal_vector hd hw) rfl (isWidth_widthOf hw) rfl
    (fun _ _ _ => ofNat_mod_eq_setWidth _ _) (fun _ _ _ => by simp)

/-- The lowest active element of N as a selector, where `vins` inserts (R257). -/
def firstActive (W : Nat) (N : MReg) (e : Nat) : Bool := (List.range (256 / W)).find? (actS W N) == some e

theorem firstActive_iff (W : Nat) (N : MReg) (e : Nat) :
    firstActive W N e = true ↔ e < 256 / W ∧ actS W N e = true ∧ ∀ i, i < e → actS W N i = false := by
  rw [firstActive, beq_iff_eq, List.find?_range_eq_some, List.mem_range]
  simp only [Bool.not_eq_true']
  exact and_left_comm

theorem vins_gives (h : s.Go g) (hd : vDst d = true) (hw : w.toNat < 3) :
    let W := 2 ^ w.toNat
    let p := s.ctx.rv a
    let r := s.ctx.rs c
    let N := s.ctx.rm m.toNat
    GivesVector s (.vins u g d a c m w) 2 (vunitPort u) d W (fun _ => true)
      (fun e => if firstActive W N e = true then r.val.setWidth (8 * W) else lane (8 * W) p.val e)
      (fun e => Tag.max (if firstActive W N e = true then r.tag else elemTag W p.tags e) (worstGov W N)) [] :=
  selected_gives h (legal_vector hd hw) rfl (isWidth_widthOf hw) rfl
    (fun _ _ => (apply_ite _ _ _ _).trans (ite_congr (propext beq_iff_eq.symm)
      (fun _ => ofNat_mod_eq_setWidth _ _) (fun _ => ofNat_elem _ _ _)))
    (fun _ _ => congrArg (Tag.max · _) (ite_congr (propext beq_iff_eq.symm) (fun _ => rfl) (fun _ => rfl)))

theorem vext_gives {k : BitVec 3} (h : s.Go g) (hw : w.toNat < 3) :
    let W := 2 ^ w.toNat
    let p := s.ctx.rv a
    let r := s.ctx.rs c
    let j := r.val.toNat % (256 / W)
    Gives s (.vext u g k a c m w) 2 [(.s (48 + k.toNat),
      .word ((lane (8 * W) p.val j).setWidth 32) (Tag.max (elemTag W p.tags j) r.tag))] :=
  gives_k h (legal_width hw) rfl (by rw [← BitVec.ofNat_toNat]; rfl)
end

/-! ### Mask logic, counts and the byte select (R259 to R261) -/

theorem mlogic_gives {s : State} {i : Instr} {slot : Nat} {legal : Bool} {g : BitVec 4} {d a b : BitVec 3}
    {F : Mask → Mask → Mask} {f : Bool → Bool → Bool} (h : s.Go g) (hl : legal = true)
    (he : exec i s = issueLone (.plain slot legal g (mlogic d a b F)) true false s)
    (hf : ∀ (x y : Mask) j, j < 256 → (F x y).getLsbD j = f (x.getLsbD j) (y.getLsbD j)) :
    let p := s.ctx.rm a.toNat
    let q := s.ctx.rm b.toNat
    GivesMask s i 2 d 1 (fun _ => true) (fun j => f (p.bits.getLsbD j) (q.bits.getLsbD j))
      (fun j => Tag.max (mtag p.tags j) (mtag q.tags j)) [] := by
  intro p q
  refine ⟨_, _, _, gives_mask h hl he rfl rfl, fun j hj => ⟨?_, fun _ => ?_⟩⟩
  · exact BitVec.getLsbD_allOnes.trans (decide_eq_true hj)
  · rw [Nat.div_one]
    exact ⟨hf _ _ j hj, mtag_packMTags _ j hj⟩

theorem worstGov_one (N : MReg) : worstGov 1 N = maxTag ((List.range 256).map (mtag N.tags)) := by
  simp [worstGov]

section
variable {s : State} {u : VUnit} {g : BitVec 4} {d a : BitVec 3}

theorem mpop_gives (h : s.Go g) :
    let p := s.ctx.rm a.toNat
    Gives s (.mpop u g d a) 2 [(.s (48 + d.toNat),
      .word (.ofNat 32 ((List.range 256).filter (fun i => p.bits.getLsbD i)).length)
        (maxTag ((List.range 256).map (mtag p.tags))))] :=
  gives_k h rfl rfl (by rw [← popcount_toNat, ← worstGov_one]; rfl)

theorem mfirst_gives (h : s.Go g) :
    let p := s.ctx.rm a.toNat
    Gives s (.mfirst u g d a) 2 [(.s (48 + d.toNat),
      .word (.ofNat 32 ((List.range 256).findIdx (fun i => p.bits.getLsbD i)))
        (maxTag ((List.range 256).map (mtag p.tags))))] :=
  gives_k h rfl rfl (by rw [← ctzN_toNat, ← worstGov_one]; rfl)
end

theorem maxTag_le_iff {l : List Tag} {t : Nat} : (maxTag l).toNat ≤ t ↔ ∀ a ∈ l, a.toNat ≤ t := by
  induction l with
  | nil => simp
  | cons a l ih => rw [maxTag_cons, Tag.max_toNat, List.forall_mem_cons, ← ih]; exact Nat.max_le

/-- Two lists of tags with the same upper bounds have the same greatest tag. -/
theorem maxTag_eq_of_le_iff {l k : List Tag} (h : ∀ t : Nat, (∀ a ∈ l, a.toNat ≤ t) ↔ ∀ a ∈ k, a.toNat ≤ t) :
    maxTag l = maxTag k := by
  apply BitVec.eq_of_toNat_eq
  apply Nat.le_antisymm
  · exact maxTag_le_iff.mpr ((h _).mpr (maxTag_le_iff.mp (Nat.le_refl _)))
  · exact maxTag_le_iff.mpr ((h _).mp (maxTag_le_iff.mp (Nat.le_refl _)))

theorem toNat_ite_zero_le_iff {c : Prop} [Decidable c] {x : Tag} {t : Nat} :
    (if c then x else 0).toNat ≤ t ↔ (c → x.toNat ≤ t) := by
  split <;> simp_all

theorem extractLsb'_four_eq_zero_iff (b : Mask) (k : Nat) :
    b.extractLsb' k 4 = 0 ↔ ∀ j, j < 4 → b.getLsbD (k + j) = false := by
  rw [BitVec.eq_of_getLsbD_eq_iff]
  exact forall₂_congr fun j hj => by simp [hj]

theorem extractLsb'_four_eq_fifteen_iff (b : Mask) (k : Nat) :
    b.extractLsb' k 4 = 15 ↔ ∀ j, j < 4 → b.getLsbD (k + j) = true := by
  rw [show (15 : BitVec 4) = BitVec.allOnes 4 from rfl, BitVec.eq_of_getLsbD_eq_iff]
  exact forall₂_congr fun j hj => by
    rw [BitVec.getLsbD_allOnes, BitVec.getLsbD_extractLsb', decide_eq_true hj, Bool.true_and]

/-- The tags of the source lanes from which the lane took a byte, and those of its four mask bits (R261). -/
theorem vsel_tag (N : MReg) (x y : Tag) (l : Nat) :
    (let e := N.bits.extractLsb' (4 * l) 4
     maxTag [if e ≠ 0 then x else 0, if e ≠ 15 then y else 0, mtag N.tags (4 * l), mtag N.tags (4 * l + 1),
      mtag N.tags (4 * l + 2), mtag N.tags (4 * l + 3)]) =
    maxTag ((List.range 4).map (fun j =>
      Tag.max (if N.bits.getLsbD (4 * l + j) then x else y) (mtag N.tags (4 * l + j)))) := by
  refine maxTag_eq_of_le_iff fun t => ?_
  simp only [List.forall_mem_cons, List.forall_mem_map, List.mem_range, Tag.max_toNat, Nat.max_le, ne_eq,
    extractLsb'_four_eq_zero_iff, extractLsb'_four_eq_fifteen_iff, toNat_ite_zero_le_iff]
  constructor
  · rintro ⟨hx, hy, h0, h1, h2, h3, -⟩ j hj
    refine ⟨?_, ?_⟩
    · split <;> rename_i taken
      · exact hx (fun zeros => Bool.false_ne_true ((zeros j hj).symm.trans taken))
      · exact hy (fun ones => taken (ones j hj))
    · obtain rfl | rfl | rfl | rfl : j = 0 ∨ j = 1 ∨ j = 2 ∨ j = 3 := by omega
      · exact h0
      · exact h1
      · exact h2
      · exact h3
  · intro h
    refine ⟨fun nonzero => ?_, fun nonfull => ?_, (h 0 (by decide)).2, (h 1 (by decide)).2, (h 2 (by decide)).2,
      (h 3 (by decide)).2, List.forall_mem_nil _⟩
    · obtain ⟨j, hj, taken⟩ : ∃ j, j < 4 ∧ N.bits.getLsbD (4 * l + j) = true := by simpa using nonzero
      simpa [taken] using (h j hj).1
    · obtain ⟨j, hj, taken⟩ : ∃ j, j < 4 ∧ N.bits.getLsbD (4 * l + j) = false := by simpa using nonfull
      simpa [taken] using (h j hj).1

theorem vsel_gives {s : State} {u : VUnit} {g : BitVec 4} {d a b : BitVec 5} {m : BitVec 3} (h : s.Go g)
    (hd : vDst d = true) :
    let p := s.ctx.rv a
    let q := s.ctx.rv b
    let N := s.ctx.rm m.toNat
    ∃ r tg, Gives s (.vsel u g d a b m) 2 (toVector (vunitPort u) d r tg (BitVec.allOnes 256)) ∧
      (∀ j, j < 256 → lane 8 r j = if N.bits.getLsbD j then lane 8 p.val j else lane 8 q.val j) ∧
      (∀ i, i < 64 → ltag tg i = maxTag ((List.range 4).map (fun j =>
        Tag.max (if N.bits.getLsbD (4 * i + j) then ltag p.tags i else ltag q.tags i) (mtag N.tags (4 * i + j))))) :=
  ⟨_, _, gives_vector h hd rfl rfl (List.append_nil _), fun j hj => lane_blend _ _ _ j hj,
    fun i hi => (ltag_packTags _ i hi).trans (vsel_tag _ _ _ i)⟩

end Sys2Proof.Machine

namespace Sys2Proof.Certificates
open Sys2Proof.Machine

/-- Settles O16: the forms with a scalar operand are `vecX`; an element's shift count is that of the whole scalar. -/
theorem vectorScalarOperands : Obligations.VectorScalarOperands := by
  unfold Obligations.VectorScalarOperands
  intro s u g d a c m w k hgo hd hw W n p r N x y j gives
  have hl := legal_vector hd hw
  have count : y.toNat % n = r.val.toNat % n := shiftCount_setWidth hw _
  have shl : gives (.vshlX u g d a c m w) (fun e => x e <<< (r.val.toNat % n)) :=
    vecX_gives (v := fun z => z <<< (r.val.toNat % n)) hgo hl hw rfl (fun z => (ofNat_eShl z y).trans (by rw [count]))
  have shr : gives (.vshrX u g d a c m w) (fun e => x e >>> (r.val.toNat % n)) :=
    vecX_gives (v := fun z => z >>> (r.val.toNat % n)) hgo hl hw rfl (fun z => (ofNat_eShr z y).trans (by rw [count]))
  have sar : gives (.vsarX u g d a c m w) (fun e => .ofInt n ((x e).toInt / 2 ^ (r.val.toNat % n))) :=
    vecX_gives (v := fun z => .ofInt n (z.toInt / 2 ^ (r.val.toNat % n))) hgo hl hw rfl
      (fun z => (ofNat_eSar z y).trans (by rw [count]))
  exact ⟨vecX_gives hgo hl hw rfl (fun _ => ofNat_eAdd _ _), vecX_gives hgo hl hw rfl (fun _ => ofNat_eSub _ _),
    vecX_gives hgo hl hw rfl (fun _ => ofNat_eMul _ _), vecX_gives hgo hl hw rfl (fun _ => ofNat_eAnd _ _),
    shl, shr, sar, vdup_gives hgo hd hw, ⟨firstActive W N, firstActive_iff W N, vins_gives hgo hd hw⟩,
    vext_gives hgo hw⟩

/-- Settles O17: the mask logic is `mlogic`; the counts are those of the bits of A, and `vsel` blends bytes. -/
theorem vectorMasks : Obligations.VectorMasks := by
  unfold Obligations.VectorMasks
  intro s u g d a b m v x y hgo hd p q N h l all gives
  have andn (i j : Mask) (n : Nat) (hn : n < 256) : (i &&& ~~~j).getLsbD n = (i.getLsbD n && !j.getLsbD n) := by
    rw [BitVec.getLsbD_and, BitVec.getLsbD_not, decide_eq_true hn, Bool.true_and]
  exact ⟨mlogic_gives hgo rfl rfl (fun _ _ _ _ => BitVec.getLsbD_and),
    mlogic_gives hgo rfl rfl (fun _ _ _ _ => BitVec.getLsbD_or),
    mlogic_gives hgo rfl rfl (fun _ _ _ _ => BitVec.getLsbD_xor),
    mlogic_gives (f := fun i j => i && !j) hgo rfl rfl andn, mpop_gives hgo, mfirst_gives hgo, vsel_gives hgo hd⟩

end Sys2Proof.Certificates
end

section
/-!
PROOF. The permutes of slots 4 and 5, and from them the obligation O18 (R262, R263).
-/
namespace Sys2Proof.Machine

section
variable {s : State} {i : Instr} {u : VUnit} {slot : Nat} {legal : Bool} {g : BitVec 4} {d a b : BitVec 5}
  {c : BitVec 6} {m w : BitVec 3} {m2 : BitVec 2} {k : BitVec 8} {src : Nat → Bool × Nat}
  {fromA : Nat → Bool} {from_ : Nat → Nat} {sem : Ctx → SlotOut}

theorem vperm_gives (h : s.Go g) (hd : vDst d = true) (hw : w.toNat < 3) :
    let W := 2 ^ w.toNat
    let p := s.ctx.rv a
    let q := s.ctx.rv b
    let N := s.ctx.rm m.toNat
    let from_ (e : Nat) : Nat := (lane (8 * W) q.val e).toNat % (256 / W)
    GivesVector s (.vperm u g d a b m w) 3 (vunitPort u) d W (actW W N) (fun e => lane (8 * W) p.val (from_ e))
      (fun e => maxTag [elemTag W p.tags (from_ e), elemTag W q.tags e, mtag N.tags (e * W)]) [] :=
  masked_gives h (legal_vector hd hw) rfl (isWidth_widthOf hw) rfl (fun _ _ _ => ofNat_elem _ _ _)
    (fun _ _ _ => by simp [Tag.max_assoc, elem_eq_lane, widthOf])

theorem vrotX_gives (h : s.Go g) (hd : vDst d = true) (hw : w.toNat < 3) :
    let W := 2 ^ w.toNat
    let p := s.ctx.rv a
    let r := s.ctx.rs c
    let N := s.ctx.rm m2.toNat
    let from_ (e : Nat) : Nat := (e + r.val.toNat) % (256 / W)
    GivesVector s (.vrotX u g d a c m2 w) 3 (vunitPort u) d W (actW W N) (fun e => lane (8 * W) p.val (from_ e))
      (fun e => maxTag [elemTag W p.tags (from_ e), r.tag, mtag N.tags (e * W)]) [] :=
  masked_gives h (legal_vector hd hw) rfl (isWidth_widthOf hw) rfl (fun _ _ _ => ofNat_elem _ _ _)
    (fun _ _ _ => by simp [Tag.max_assoc, widthOf])

/-- A permute of two vectors under a write mask (R262). -/
theorem perm2_masked_gives (h : s.Go g) (hl : legal = true) (hw : w.toNat < 3)
    (he : exec i s = issueLone (.plain slot legal g sem) true false s)
    (hs : sem s.ctx = perm2 u d a b m false src (widthOf w) s.ctx) (hsrc : ∀ e, src e = (fromA e, from_ e)) :
    let W := 2 ^ w.toNat
    let p := s.ctx.rv a
    let q := s.ctx.rv b
    let N := s.ctx.rm m.toNat
    GivesVector s i 3 (vunitPort u) d W (actW W N)
      (fun e => if fromA e then lane (8 * W) p.val (from_ e) else lane (8 * W) q.val (from_ e))
      (fun e => Tag.max (if fromA e then elemTag W p.tags (from_ e) else elemTag W q.tags (from_ e))
        (mtag N.tags (e * W))) [] :=
  masked_gives h hl he (isWidth_widthOf hw) hs
    (fun e _ _ => by
      rw [hsrc]; exact (apply_ite _ _ _ _).trans (ite_congr rfl (fun _ => ofNat_elem _ _ _) (fun _ => ofNat_elem _ _ _)))
    (fun e _ _ => by rw [hsrc]; rfl)

/-- A permute of two vectors with its mask as a selector; an element that comes from b keeps its place (R263). -/
theorem perm2_selected_gives (h : s.Go g) (hl : legal = true) (hw : w.toNat < 3)
    (he : exec i s = issueLone (.plain slot legal g sem) true false s)
    (hs : sem s.ctx = perm2 u d a b m true src (widthOf w) s.ctx)
    (hsrc : ∀ e, src e = (fromA e, if fromA e then from_ e else e)) :
    let W := 2 ^ w.toNat
    let p := s.ctx.rv a
    let q := s.ctx.rv b
    let N := s.ctx.rm m.toNat
    GivesVector s i 3 (vunitPort u) d W (fun _ => true)
      (fun e => if fromA e then lane (8 * W) p.val (from_ e) else lane (8 * W) q.val e)
      (fun e => Tag.max (if fromA e then elemTag W p.tags (from_ e) else elemTag W q.tags e)
        (maxTag ((List.range (256 / W)).map (fun i => mtag N.tags (i * W))))) [] := by
  refine selected_gives h hl he (isWidth_widthOf hw) hs (fun e _ => ?_) (fun e _ => ?_)
  · rw [hsrc]
    cases fromA e
    · exact ofNat_elem _ _ _
    · exact ofNat_elem _ _ _
  · rw [hsrc]
    cases fromA e <;> rfl

theorem vidx_gives (h : s.Go g) (hd : vDst d = true) (hw : w.toNat < 3) :
    let W := 2 ^ w.toNat
    GivesVector s (.vidx u g d k w) 3 (vunitPort u) d W (fun _ => true) (fun e => .ofNat (8 * W) (k.toNat + e))
      (fun _ => 0) [] :=
  selected_gives h (legal_vector hd hw) rfl (isWidth_widthOf hw) rfl (fun _ _ => rfl) (fun _ _ => rfl)
end

/-! ### The elements that a selector picks, in order (R263) -/

/-- The entry of the selected numbers below n that stands after those below e is e. -/
theorem getD_filter_range_length {p : Nat → Bool} {n e : Nat} (he : e < n) (hp : p e = true) (x : Nat) :
    ((List.range n).filter p).getD ((List.range e).filter p).length x = e := by
  obtain ⟨k, rfl⟩ := Nat.exists_eq_add_of_le he
  rw [List.range_add, List.range_succ, List.filter_append, List.filter_append, List.filter_cons_of_pos hp]
  simp

end Sys2Proof.Machine

namespace Sys2Proof.Certificates
open Sys2Proof.Machine

/-- Settles O18: `vzip`, `vunzip`, `vcompress` and `vexpand` are `perm2`, each with the sources of its elements. -/
theorem vectorPermutes : Obligations.VectorPermutes := by
  unfold Obligations.VectorPermutes
  intro s u g d a b c m m2 k w hgo hd hw W n p q r N M x y gov masked selected before
  have hl := legal_vector hd hw
  exact ⟨vperm_gives hgo hd hw, vrotX_gives hgo hd hw, perm2_masked_gives hgo hl hw rfl rfl (fun _ => rfl),
    perm2_masked_gives hgo hl hw rfl rfl (fun _ => rfl),
    ⟨fun e => ((List.range (256 / W)).filter (actS W N)).getD e 0, fun e he hp => getD_filter_range_length he hp 0,
     perm2_selected_gives hgo hl hw rfl rfl
       (fun _ => Prod.ext rfl (ite_congr (propext decide_eq_true_iff.symm) (fun _ => rfl) (fun _ => rfl)))⟩,
    perm2_selected_gives hgo hl hw rfl rfl (fun _ => rfl),
    vidx_gives hgo hd hw⟩

end Sys2Proof.Certificates
end

section
/-!
PROOF. The reductions, scans and match-and-reduce instructions of slots 4 and 5, and from them the obligation O19
(R264 to R266).
-/
namespace Sys2Proof.Machine

/-! ### Folds of element functions (R264) -/

theorem ofNat_mod_two_pow (n k : Nat) : BitVec.ofNat n (k % 2 ^ n) = .ofNat n k :=
  BitVec.eq_of_toNat_eq (by simp)

theorem ofNat_foldl_eAdd (n : Nat) (f : Nat → Nat) (l : List Nat) (a : Nat) :
    BitVec.ofNat n (l.foldl (fun t j => eAdd n t (f j)) a) = .ofNat n (a + (l.map f).sum) := by
  induction l generalizing a with
  | nil => rfl
  | cons j l ih =>
    rw [List.foldl_cons, ih, List.map_cons, List.sum_cons, ← Nat.add_assoc]
    exact BitVec.eq_of_toNat_eq (by simp [eAdd])

theorem ofNat_foldl_eAdd_zero (n : Nat) (f : Nat → Nat) (l : List Nat) :
    BitVec.ofNat n (l.foldl (fun t j => eAdd n t (f j)) 0) = .ofNat n (l.map f).sum := by
  rw [ofNat_foldl_eAdd, Nat.zero_add]

/-- A fold of an operation on patterns is the fold of the operation on bit vectors that it computes. -/
theorem foldl_toNat {n : Nat} {op : Nat → Nat → Nat} {v : BitVec n → BitVec n → BitVec n}
    (hop : ∀ x y : BitVec n, op x.toNat y.toNat = (v x y).toNat) (f : Nat → BitVec n) (l : List Nat)
    (a : BitVec n) : l.foldl (fun t j => op t (f j).toNat) a.toNat = ((l.map f).foldl v a).toNat := by
  induction l generalizing a with
  | nil => rfl
  | cons j l ih => rw [List.foldl_cons, hop, ih]; rfl

/-- A fold that keeps of two the one with the greater key gives one of its inputs, and none has a greater key. -/
theorem foldl_greatest {α : Type} {v : α → α → α} {key : α → Int}
    (hv : ∀ x y, (v x y = x ∧ key y ≤ key x) ∨ (v x y = y ∧ key x ≤ key y)) (l : List α) (a : α) :
    l.foldl v a ∈ a :: l ∧ ∀ z ∈ a :: l, key z ≤ key (l.foldl v a) := by
  induction l generalizing a with
  | nil => simp
  | cons b l ih =>
    rw [List.foldl_cons]
    obtain ⟨kept, hk⟩ | ⟨kept, hk⟩ := hv a b <;> rw [kept]
    · obtain ⟨hmem, hle⟩ := ih a
      obtain ⟨ha, hl⟩ := List.forall_mem_cons.mp hle
      exact ⟨List.mem_cons.mpr ((List.mem_cons.mp hmem).imp_right (List.mem_cons_of_mem b)),
        List.forall_mem_cons.mpr ⟨ha, List.forall_mem_cons.mpr ⟨Int.le_trans hk ha, hl⟩⟩⟩
    · obtain ⟨hmem, hle⟩ := ih b
      obtain ⟨hb, -⟩ := List.forall_mem_cons.mp hle
      exact ⟨List.mem_cons_of_mem a hmem, List.forall_mem_cons.mpr ⟨Int.le_trans hk hb, hle⟩⟩

/-- The signed maximum and minimum of a list of elements after a (R252, R264). -/
def foldMax {n : Nat} (l : List (BitVec n)) (a : BitVec n) : BitVec n :=
  l.foldl (fun x y => if x.toInt > y.toInt then x else y) a
def foldMin {n : Nat} (l : List (BitVec n)) (a : BitVec n) : BitVec n :=
  l.foldl (fun x y => if x.toInt < y.toInt then x else y) a

section
variable {n : Nat} (l : List (BitVec n)) (a : BitVec n)

theorem foldMax_spec : foldMax l a ∈ a :: l ∧ ∀ z ∈ a :: l, z.toInt ≤ (foldMax l a).toInt :=
  foldl_greatest (key := BitVec.toInt) (fun x y => by split <;> simp <;> omega) l a

theorem foldMin_spec : foldMin l a ∈ a :: l ∧ ∀ z ∈ a :: l, (foldMin l a).toInt ≤ z.toInt := by
  obtain ⟨hmem, hle⟩ := foldl_greatest (v := fun x y : BitVec n => if x.toInt < y.toInt then x else y)
    (key := fun x => -x.toInt) (fun x y => by split <;> simp <;> omega) l a
  exact ⟨hmem, fun z hz => Int.neg_le_neg_iff.mp (hle z hz)⟩
end

/-- The signed maximum of the values f over a group, begun with the value of its first element (R265). -/
def greatestOf {n : Nat} (f : Nat → BitVec n) (l : List Nat) : BitVec n := foldMax (l.map f) (f (l.headD 0))

theorem greatestOf_spec {n : Nat} {l : List Nat} (hl : l ≠ []) (f : Nat → BitVec n) :
    greatestOf f l ∈ l.map f ∧ ∀ j ∈ l, (f j).toInt ≤ (greatestOf f l).toInt := by
  obtain ⟨k, t, rfl⟩ := List.exists_cons_of_ne_nil hl
  obtain ⟨hmem, hle⟩ := foldMax_spec ((k :: t).map f) (f k)
  obtain ⟨-, below⟩ := List.forall_mem_cons.mp hle
  refine ⟨?_, fun j hj => below _ (List.mem_map_of_mem hj)⟩
  rcases List.mem_cons.mp hmem with first | later
  · exact List.mem_cons.mpr (.inl first)
  · exact later

/-! ### Reductions and the scan (R264) -/

section
variable {s : State} {i : Instr} {u : VUnit} {slot : Nat} {legal : Bool} {g : BitVec 4} {d a b : BitVec 5}
  {m w : BitVec 3} {op : Nat → Nat → Nat → Nat} {v : Element w}

theorem vred_gives (h : s.Go g) (hl : legal = true) (hw : w.toNat < 3)
    (he : exec i s = issueLone (.plain slot legal g (vred u d a b m w op)) true false s) :
    let W := 2 ^ w.toNat
    let p := s.ctx.rv a
    let q := s.ctx.rv b
    let N := s.ctx.rm m.toNat
    let act := (List.range (256 / W)).filter (actS W N)
    BitVec.ofNat (8 * W) (act.foldl (fun t j => op (8 * W) t (lane (8 * W) p.val j).toNat)
      (lane (8 * W) q.val 0).toNat) = v →
    GivesVector s i 6 (vunitPort u) d W (fun _ => true) (fun e => if e = 0 then v else 0)
      (fun e => Tag.max (if e = 0 then maxTag (elemTag W q.tags 0 :: act.map (elemTag W p.tags)) else 0)
        (maxTag ((List.range (256 / W)).map (fun i => mtag N.tags (i * W))))) [] := by
  intro W p q N act hv
  exact selected_gives h hl he (isWidth_widthOf hw) rfl
    (fun _ _ => (apply_ite _ _ _ _).trans (ite_congr rfl (fun _ => hv) (fun _ => rfl))) (fun _ _ => rfl)

theorem filter_range_filter_le {p : Nat → Bool} {n e : Nat} (he : e < n) :
    ((List.range n).filter p).filter (fun j => decide (j ≤ e)) = (List.range (e + 1)).filter p := by
  obtain ⟨k, rfl⟩ := Nat.exists_eq_add_of_le he
  have upTo : ((List.range (e + 1)).filter p).filter (fun j => decide (j ≤ e)) = (List.range (e + 1)).filter p :=
    List.filter_eq_self.mpr fun j hj =>
      decide_eq_true (Nat.le_of_lt_succ (List.mem_range.mp (List.mem_filter.mp hj).1))
  have after : (((List.range k).map (fun x => e + 1 + x)).filter p).filter (fun j => decide (j ≤ e)) = [] :=
    List.filter_eq_nil_iff.mpr fun j hj => by
      obtain ⟨x, -, rfl⟩ := List.mem_map.mp (List.mem_filter.mp hj).1
      simp only [decide_eq_true_eq]; omega
  rw [show e.succ + k = e + 1 + k from rfl, List.range_add, List.filter_append, List.filter_append, upTo, after,
    List.append_nil]

theorem vscanAdd_gives (h : s.Go g) (hd : vDst d = true) (hw : w.toNat < 3) :
    let W := 2 ^ w.toNat
    let p := s.ctx.rv a
    let q := s.ctx.rv b
    let N := s.ctx.rm m.toNat
    let upTo (e : Nat) : List Nat := ((List.range (256 / W)).filter (actS W N)).filter (fun j => decide (j ≤ e))
    GivesVector s (.vscanAdd u g d a b m w) 6 (vunitPort u) d W (fun _ => true)
      (fun e => .ofNat (8 * W) ((lane (8 * W) q.val 0).toNat +
        ((upTo e).map (fun j => (lane (8 * W) p.val j).toNat)).sum))
      (fun e => Tag.max (maxTag (elemTag W q.tags 0 :: (upTo e).map (elemTag W p.tags)))
        (maxTag ((List.range (256 / W)).map (fun i => mtag N.tags (i * W))))) [] := by
  intro W p q N upTo
  refine selected_gives h (legal_vector hd hw) rfl (isWidth_widthOf hw) rfl (fun e he => ?_) (fun e he => ?_)
  · rw [show upTo e = _ from filter_range_filter_le he]
    exact ofNat_foldl_eAdd _ _ _ _
  · rw [show upTo e = _ from filter_range_filter_le he]; rfl
end

/-! ### Groups of equal keys (R265) -/

/-- The active elements whose key is that of element e (R265). -/
def keyGroup (W : Nat) (N : MReg) (p : Vec) (e : Nat) : List Nat :=
  (List.range (256 / W)).filter (fun j => actW W N j && lane (8 * W) p j == lane (8 * W) p e)

/-- The tags that element j brings to its group: those of its key, its value and its governing bit (R265). -/
def memberTags (useB : Bool) (W : Nat) (N : MReg) (p q : VReg) (j : Nat) : List Tag :=
  [elemTag W p.tags j, if useB then elemTag W q.tags j else 0, mtag N.tags (j * W)]

/-- The greatest tag that the elements of e's group bring (R265). -/
def groupTag (useB : Bool) (W : Nat) (N : MReg) (p q : VReg) (e : Nat) : Tag :=
  maxTag ((keyGroup W N p.val e).map (fun j => maxTag (memberTags useB W N p q j)))

section
variable {W : Nat} {N : MReg} {p : Vec} {v k : VReg} {e : Nat}

theorem keyGroup_eq : ((List.range (256 / W)).filter (actW W N)).filter (fun j => elem W p j == elem W p e) =
    keyGroup W N p e := by
  rw [List.filter_filter]
  refine List.filter_congr fun j _ => ?_
  rw [Bool.and_comm, Bool.eq_iff_iff]
  simp [elem_eq_lane, BitVec.toNat_inj]

theorem mem_keyGroup_self (he : e < 256 / W) (ha : actW W N e = true) : e ∈ keyGroup W N p e :=
  List.mem_filter.mpr ⟨List.mem_range.mpr he, by simp [ha]⟩

/-- The first of a group is its least element (R265). -/
theorem keyGroup_head_iff (he : e < 256 / W) (ha : actW W N e = true) :
    (keyGroup W N p e).head? = some e ↔ ∀ j ∈ keyGroup W N p e, e ≤ j := by
  rw [keyGroup, List.head?_filter, List.find?_range_eq_some]
  constructor
  · rintro ⟨-, -, before⟩ j hj
    refine Nat.le_of_not_lt fun hlt => ?_
    have out := before j hlt
    rw [(List.mem_filter.mp hj).2] at out
    cases out
  · intro least
    obtain ⟨hr, hp⟩ := List.mem_filter.mp (mem_keyGroup_self he ha)
    refine ⟨hp, hr, fun j hj => ?_⟩
    rw [Bool.not_eq_true', Bool.eq_false_iff]
    intro same
    have hmem : j ∈ keyGroup W N p e := List.mem_filter.mpr ⟨List.mem_range.mpr (Nat.lt_trans hj he), same⟩
    exact Nat.not_le_of_lt hj (least j hmem)

/-- The governing bit of an active element is among those of its own group (R265). -/
theorem groupTag_max_gov {useB : Bool} (he : e < 256 / W) (ha : actW W N e = true) :
    Tag.max (groupTag useB W N k v e) (mtag N.tags (e * W)) = groupTag useB W N k v e := by
  have own : maxTag (memberTags useB W N k v e) ∈
      (keyGroup W N k.val e).map (fun j => maxTag (memberTags useB W N k v j)) :=
    List.mem_map_of_mem (mem_keyGroup_self he ha)
  have gov : mtag N.tags (e * W) ∈ memberTags useB W N k v e := by simp [memberTags]
  calc Tag.max (groupTag useB W N k v e) (mtag N.tags (e * W))
      = Tag.max (Tag.max (groupTag useB W N k v e) (maxTag (memberTags useB W N k v e))) (mtag N.tags (e * W)) :=
        congrArg (Tag.max · _) (le_maxTag own).symm
    _ = Tag.max (groupTag useB W N k v e) (maxTag (memberTags useB W N k v e)) := by
        rw [Tag.max_assoc, le_maxTag gov]
    _ = groupTag useB W N k v e := le_maxTag own
end

/-! ### Match-and-reduce (R265) -/

/-- A vector result and a whole mask at one position. -/
theorem gives_vector_and_mask {s : State} {i : Instr} {slot n lat : Nat} {legal : Bool} {g : BitVec 4}
    {sem : Ctx → SlotOut} {d : BitVec 5} {m : BitVec 3} {x : Vec} {t : VTags} {en lead : Mask}
    {tg : MTags} (h : s.Go g) (hl : legal = true)
    (he : exec i s = issueLone (.plain slot legal g sem) true false s)
    (hr : (sem s.ctx).res = .ok ((dstV d).map (fun r => ⟨lat, r, .vec x t en⟩) ++
      [⟨lat, .vPort n, .vec x t en⟩, ⟨lat, .m m.toNat, .mask lead tg (BitVec.allOnes 256)⟩]) id .seq)
    (hx : (sem s.ctx).indexed = false) :
    Gives s i lat (toVector n d x t en ++ toMask m lead tg (BitVec.allOnes 256)) := by
  have issues := plain_issues (slot := slot) (lat := lat) h hl hr hx (by unfold dstV; split <;> simp)
    (by unfold dstV; split <;> simp [Sorted, Res.flagged])
  simpa [toVector, toMask, Function.comp_def] using gives_of_issues he issues

/-- The mask of the leaders: the bytes of the active elements that stand first in their groups (R265). -/
def leaderMask (W : Nat) (N : MReg) (p : Vec) : Mask :=
  packMask (fun j => actW W N (j / W) && (keyGroup W N p (j / W)).head? == some (j / W))

/-- The tags of the leader mask: clean for an inactive element (R265). -/
def leaderTags (useB : Bool) (W : Nat) (N : MReg) (p q : VReg) : MTags :=
  packMTags (fun j => if actW W N (j / W) then groupTag useB W N p q (j / W) else 0)

theorem getLsbD_leaderMask {W : Nat} (hW : IsWidth W) (N : MReg) (p : Vec) {j : Nat} (hj : j < 256) :
    (leaderMask W N p).getLsbD j = true ↔ actW W N (j / W) = true ∧ ∀ e ∈ keyGroup W N p (j / W), j / W ≤ e := by
  have hlt : j / W < 256 / W := by rcases hW with rfl | rfl | rfl <;> omega
  rw [leaderMask, bit_packMask _ j hj, Bool.and_eq_true, beq_iff_eq]
  exact and_congr_right fun ha => keyGroup_head_iff hlt ha

section
variable {s : State} {i : Instr} {u : VUnit} {slot : Nat} {legal : Bool} {g : BitVec 4} {d a b : BitVec 5}
  {m w : BitVec 3} {useB : Bool} {F : Nat → Nat → List Nat → (Nat → Nat) → Nat} {f : Nat → Element w}

theorem vmatch_res (x : Ctx) :
    let W := widthOf w
    let p := x.rv a
    let q := x.rv b
    let N := x.rm m.toNat
    let v := packElems W (256 / W) (fun e => F (8 * W) e (keyGroup W N p.val e) (elem W q.val))
    let t := laneTags W (actW W N) (fun e => Tag.max (groupTag useB W N p q e) (mtag N.tags (e * W)))
    (vmatch u d a b m w useB F x).res = .ok ((dstV d).map (fun r => ⟨6, r, .vec v t (enOf W (actW W N))⟩) ++
      [⟨6, .vPort (vunitPort u), .vec v t (enOf W (actW W N))⟩,
       ⟨6, .m m.toNat, .mask (leaderMask W N p.val) (leaderTags useB W N p q) (BitVec.allOnes 256)⟩]) id .seq := by
  intro W p q N v t
  simp only [vmatch, keyGroup_eq, writeMasked, vectorOut, if_true, List.append_nil, List.append_assoc, List.cons_append,
    List.nil_append]
  rfl

theorem vmatch_gives (h : s.Go g) (hl : legal = true) (hw : w.toNat < 3)
    (he : exec i s = issueLone (.plain slot legal g (vmatch u d a b m w useB F)) true false s) :
    let W := 2 ^ w.toNat
    let p := s.ctx.rv a
    let q := s.ctx.rv b
    let N := s.ctx.rm m.toNat
    (∀ e, e < 256 / W → actW W N e = true →
      BitVec.ofNat (8 * W) (F (8 * W) e (keyGroup W N p.val e) (fun j => (lane (8 * W) q.val j).toNat)) = f e) →
    ∃ lead tg, GivesVector s i 6 (vunitPort u) d W (actW W N) f (groupTag useB W N p q)
        (toMask m lead tg (BitVec.allOnes 256)) ∧
      ∀ j, j < 256 →
        (lead.getLsbD j = true ↔ actW W N (j / W) = true ∧ ∀ e ∈ keyGroup W N p.val (j / W), j / W ≤ e) ∧
        mtag tg j = if actW W N (j / W) then groupTag useB W N p q (j / W) else 0 := by
  intro W p q N hf
  have hW : IsWidth W := isWidth_widthOf hw
  exact ⟨_, _, ⟨_, _, _, gives_vector_and_mask h hl he (vmatch_res s.ctx) rfl,
      elements_of hW (fun j hj => bit_enOf W _ j hj)
        (fun e hlt ha => by rw [← hf e hlt ha, BitVec.toNat_ofNat]; rfl)
        (fun e hlt ha => groupTag_max_gov hlt ha)⟩,
    fun j hj => ⟨getLsbD_leaderMask hW N p.val hj, mtag_packMTags _ j hj⟩⟩
end

end Sys2Proof.Machine

namespace Sys2Proof.Certificates
open Sys2Proof.Machine

/-- Settles O19: the reductions are `vred`, the match instructions `vmatch`; each folds its element function over the
active elements, or over the group of equal keys, and the fold is a sum or a signed maximum or minimum. -/
theorem vectorReductions : Obligations.VectorReductions := by
  unfold Obligations.VectorReductions
  intro s u g d a b m w hgo hd hw W n p q N x y act gov reduces upTo group tag matches_ sum
  have hl := legal_vector hd hw
  have redMax : reduces (.vredMax u g d a b m w) (foldMax (act.map x) (y 0)) :=
    vred_gives hgo hl hw rfl (by rw [foldl_toNat eMax_toNat]; exact ofNat_toNat_self _)
  have redMin : reduces (.vredMin u g d a b m w) (foldMin (act.map x) (y 0)) :=
    vred_gives hgo hl hw rfl (by rw [foldl_toNat eMin_toNat]; exact ofNat_toNat_self _)
  have addMatch : matches_ (.vmredAdd u g d a b m w) true (fun e => .ofNat n (sum (group e) y)) :=
    vmatch_gives hgo hl hw rfl (fun _ _ _ => ofNat_foldl_eAdd_zero _ _ _)
  have maxMatch : matches_ (.vmredMax u g d a b m w) true (fun e => greatestOf y (group e)) :=
    vmatch_gives hgo hl hw rfl (fun _ _ _ => by rw [foldl_toNat eMax_toNat]; exact ofNat_toNat_self _)
  have scanMatch : matches_ (.vmscanAdd u g d a b m w) true
      (fun e => .ofNat n (sum ((group e).filter (fun j => decide (j ≤ e))) y)) :=
    vmatch_gives hgo hl hw rfl (fun _ _ _ => ofNat_foldl_eAdd_zero _ _ _)
  have countMatch : matches_ (.vmcount u g d a b m w) false (fun e => .ofNat n (group e).length) :=
    vmatch_gives hgo hl hw rfl (fun _ _ _ => ofNat_mod_two_pow _ _)
  exact ⟨vred_gives hgo hl hw rfl (ofNat_foldl_eAdd _ _ _ _), ⟨_, redMax, foldMax_spec _ _⟩,
    ⟨_, redMin, foldMin_spec _ _⟩, vscanAdd_gives hgo hd hw, addMatch,
    ⟨_, maxMatch, fun e he ha => greatestOf_spec (List.ne_nil_of_mem (mem_keyGroup_self he ha)) y⟩,
    scanMatch, countMatch⟩

end Sys2Proof.Certificates
end

section
/-!
PROOF. Packs, unpacks, the shared exponent of each half and scaling in slots 4 and 5, and from them the obligation O22
(R277 to R280).
-/
namespace Sys2Proof.Machine

/-! ### Fields of a vector (R7, R277, R278) -/

theorem bits_eq_toNat_extractLsb' {w : Nat} (x : BitVec w) (lo n : Nat) : bits x lo n = (x.extractLsb' lo n).toNat := by
  rw [BitVec.extractLsb'_toNat, Nat.shiftRight_eq_div_pow]; rfl

theorem nbits_toNat {w : Nat} (x : BitVec w) (lo n : Nat) : nbits x.toNat lo n = (x.extractLsb' lo n).toNat :=
  bits_eq_toNat_extractLsb' x lo n

theorem ofNat_bits {w : Nat} (x : BitVec w) (lo n k : Nat) :
    BitVec.ofNat k (bits x lo n) = (x.extractLsb' lo n).setWidth k := by
  rw [bits_eq_toNat_extractLsb', BitVec.ofNat_toNat]

theorem ofNat_toNat_add_mul {w v : Nat} (lo : BitVec w) (hi : BitVec v) :
    BitVec.ofNat (v + w) (lo.toNat + 2 ^ w * hi.toNat) = hi ++ lo := by
  have joined : lo.toNat + 2 ^ w * hi.toNat = (hi ++ lo).toNat := by
    rw [BitVec.toNat_append, ← Nat.shiftLeft_add_eq_or_of_lt lo.isLt, Nat.shiftLeft_eq, Nat.add_comm, Nat.mul_comm]
  rw [joined, ofNat_toNat_self]

/-! ### Packs (R277) -/

theorem maxTag_concat (l : List Tag) (a : Tag) : maxTag (l ++ [a]) = Tag.max (maxTag l) a := by
  rw [maxTag_append, maxTag_cons, maxTag_nil, Tag.max_zero]

/-- Narrow field i of a, then of b: the low w bits of a field twice as wide (R277). -/
def narrowField (p q : Vec) (w i : Nat) : BitVec w :=
  if i < 1024 / w then p.extractLsb' (i * (2 * w)) w else q.extractLsb' ((i - 1024 / w) * (2 * w)) w

/-- The tag of the lane that narrow field i comes from (R277, R278). -/
def narrowTag (p q : VTags) (w i : Nat) : Tag :=
  if i < 1024 / w then ltag p (i * (2 * w) / 32) else ltag q ((i - 1024 / w) * (2 * w) / 32)

section
variable {s : State} {i : Instr} {u : VUnit} {slot W w : Nat} {legal : Bool} {g : BitVec 4} {d a b : BitVec 5}
  {m : BitVec 3}

/-- A pack writes elements of 8 W / w narrow fields each, the lowest first; half of all fields are those of a. -/
theorem vpack_eq (fields : 256 / W * (8 * W / w) / 2 = 1024 / w) (x : Ctx) :
    vpack u d a b m W w x = writeMasked u 3 d (idV a ++ idV b ++ idM m.toNat) W (x.rm m.toNat)
      (fun e => (List.range (8 * W / w)).foldr
        (fun k acc => (narrowField (x.rv a).val (x.rv b).val w (e * (8 * W / w) + k)).toNat + 2 ^ w * acc) 0)
      (fun e => maxTag ((List.range (8 * W / w)).map
        (fun k => narrowTag (x.rv a).tags (x.rv b).tags w (e * (8 * W / w) + k)))) := by
  have value (j : Nat) : bits (if j < 1024 / w then x.rv a else x.rv b).val
      ((if j < 1024 / w then j else j - 1024 / w) * (2 * w)) w =
      (narrowField (x.rv a).val (x.rv b).val w j).toNat := by
    rw [bits_eq_toNat_extractLsb', narrowField]; split <;> rfl
  have tag (j : Nat) : ltag (if j < 1024 / w then x.rv a else x.rv b).tags
      ((if j < 1024 / w then j else j - 1024 / w) * (2 * w) / 32) = narrowTag (x.rv a).tags (x.rv b).tags w j := by
    rw [narrowTag]; split <;> rfl
  simp only [vpack, fields, value, tag]

/-- A pack whose elements are one field each; byte gov e of its mask governs element e (R249). -/
theorem vpack_field_gives {gov : Nat → Nat} (h : s.Go g) (hl : legal = true) (hW : IsWidth W)
    (he : exec i s = issueLone (.plain slot legal g (vpack u d a b m W (8 * W))) true false s)
    (hgov : ∀ e, e * W = gov e) :
    let p := s.ctx.rv a
    let q := s.ctx.rv b
    let N := s.ctx.rm m.toNat
    GivesVector s i 3 (vunitPort u) d W (actW W N) (narrowField p.val q.val (8 * W))
      (fun e => Tag.max (narrowTag p.tags q.tags (8 * W) e) (mtag N.tags (gov e))) [] := by
  intro p q N
  have one : 8 * W / (8 * W) = 1 := by rcases hW with rfl | rfl | rfl <;> rfl
  have fields : 256 / W * (8 * W / (8 * W)) / 2 = 1024 / (8 * W) := by rcases hW with rfl | rfl | rfl <;> rfl
  refine masked_gives h hl he hW (vpack_eq fields s.ctx) (fun e _ _ => ?_) (fun e _ _ => ?_)
  · rw [one, Nat.mul_one]; exact ofNat_toNat_self _
  · rw [one, Nat.mul_one, hgov e]; exact congrArg (Tag.max · _) (Tag.zero_max _)

/-- The nibble pack, whose elements are two fields each. -/
theorem vpackN_gives (h : s.Go g) (hd : vDst d = true) :
    let p := s.ctx.rv a
    let q := s.ctx.rv b
    let N := s.ctx.rm m.toNat
    let nibble := narrowField p.val q.val 4
    let its := narrowTag p.tags q.tags 4
    GivesVector s (.vpackN u g d a b m) 3 (vunitPort u) d 1 (actW 1 N) (fun e => nibble (2 * e + 1) ++ nibble (2 * e))
      (fun e => maxTag [its (2 * e), its (2 * e + 1), mtag N.tags e]) [] := by
  intro p q N nibble its
  refine masked_gives h hd rfl (.inl rfl) (vpack_eq rfl s.ctx) (fun e _ _ => ?_) (fun e _ _ => ?_)
  · rw [Nat.mul_comm e]; exact ofNat_toNat_add_mul (nibble (2 * e)) (nibble (2 * e + 1))
  · rw [Nat.mul_comm e, Nat.mul_one e]; exact (maxTag_concat [its (2 * e), its (2 * e + 1)] _).symm
end

/-! ### Unpacks (R278) -/

theorem isWidth_unpacked {t : BitVec 5} (ht : t.toNat < 3) : IsWidth (4 / 2 ^ t.toNat) := by
  have codes : t.toNat = 0 ∨ t.toNat = 1 ∨ t.toNat = 2 := by omega
  rcases codes with h | h | h <;> simp [IsWidth, h]

theorem legal_unpack {d t : BitVec 5} (hd : vDst d = true) (ht : t.toNat < 3) : (vDst d && t.ult 3) = true := by
  rw [hd, Bool.true_and]; exact decide_eq_true ht

/-- An unpack reads the fields of its source from number off on. -/
theorem vunpk_gives {s : State} {i : Instr} {u : VUnit} {slot off : Nat} {legal hi : Bool} {g : BitVec 4}
    {d a t : BitVec 5} {m : BitVec 3} (h : s.Go g) (hl : legal = true) (ht : t.toNat < 3)
    (he : exec i s = issueLone (.plain slot legal g (vunpk u d a m hi t)) true false s)
    (hoff : ∀ e, (if hi then 256 / (4 / 2 ^ t.toNat) + e else e) = off + e) :
    let p := s.ctx.rv a
    let N := s.ctx.rm m.toNat
    let W := 4 / 2 ^ t.toNat
    let half := 16 / 2 ^ t.toNat
    GivesVector s i 3 (vunitPort u) d W (actW W N)
      (fun e => (p.val.extractLsb' ((off + e) * half) half).setWidth (8 * W))
      (fun e => Tag.max (ltag p.tags ((off + e) * half / 32)) (mtag N.tags (e * W))) [] :=
  masked_gives h hl he (isWidth_unpacked ht) rfl (fun e _ _ => by simp only [hoff, ofNat_bits])
    (fun e _ _ => by simp only [hoff])

/-! ### The shared exponent (R279) -/

/-- The greatest of a list of fields, unsigned. -/
def greatestField {n : Nat} (l : List (BitVec n)) : BitVec n := l.foldl (fun x y => if x.toNat < y.toNat then y else x) 0

theorem greatestField_spec {n : Nat} {l : List (BitVec n)} (hl : l ≠ []) :
    greatestField l ∈ l ∧ ∀ z ∈ l, z.toNat ≤ (greatestField l).toNat := by
  obtain ⟨hmem, hle⟩ := foldl_greatest (v := fun x y : BitVec n => if x.toNat < y.toNat then y else x)
    (key := fun x => (x.toNat : Int)) (fun x y => by split <;> simp <;> omega) l 0
  have below : ∀ z ∈ l, z.toNat ≤ (greatestField l).toNat := fun z hz =>
    Int.ofNat_le.mp (hle z (List.mem_cons_of_mem _ hz))
  refine ⟨?_, below⟩
  rcases List.mem_cons.mp hmem with zero | mem
  · obtain ⟨z, hz⟩ := List.exists_mem_of_ne_nil l hl
    have least : z.toNat ≤ (0 : BitVec n).toNat := zero ▸ below z hz
    have hz0 : z = 0 := BitVec.eq_of_toNat_eq (Nat.le_antisymm least (Nat.zero_le _))
    rwa [show greatestField l = z from zero.trans hz0.symm]
  · exact mem

theorem foldl_max_toNat {n : Nat} (f : Nat → BitVec n) (l : List Nat) :
    l.foldl (fun t j => max t (f j).toNat) 0 = (greatestField (l.map f)).toNat :=
  foldl_toNat (op := max) (fun x y => by rw [apply_ite BitVec.toNat, Nat.max_def]; split <;> split <;> omega) f l 0

/-- The active lanes of the half of the register that holds lane e (R279). -/
def halfMates (N : MReg) (e : Nat) : List Nat := (List.range 64).filter (fun i => actW 4 N i && i / 32 == e / 32)

/-- The exponent field of lane i (R279). -/
def expField (p : Vec) (i : Nat) : BitVec 8 := (lane 32 p i).extractLsb' 23 8

/-- The tags that the active lanes of e's half and their governing bits bring (R279). -/
def halfTags (N : MReg) (p : VTags) (e : Nat) : List Tag :=
  (halfMates N e).map (fun i => Tag.max (ltag p i) (mtag N.tags (4 * i)))

section
variable {N : MReg} {e : Nat}

theorem range_half_eq {h : Nat} (hh : h < 2) :
    (List.range 32).map (· + 32 * h) = (List.range 64).filter (fun i => i / 32 == h) := by
  obtain rfl | rfl : h = 0 ∨ h = 1 := by omega
  · decide
  · decide

theorem filter_half_eq_halfMates (he : e < 64) :
    ((List.range 32).map (· + 32 * (e / 32))).filter (actW 4 N) = halfMates N e := by
  rw [range_half_eq (by omega), List.filter_filter]; rfl

theorem mem_halfMates_self (he : e < 64) (ha : actW 4 N e = true) : e ∈ halfMates N e :=
  List.mem_filter.mpr ⟨List.mem_range.mpr he, by simp [ha]⟩

/-- The governing bit of an active lane is among those of its own half. -/
theorem halfTags_max_gov {p : VTags} (he : e < 64) (ha : actW 4 N e = true) :
    Tag.max (maxTag (halfTags N p e)) (mtag N.tags (4 * e)) = maxTag (halfTags N p e) := by
  have own : Tag.max (ltag p e) (mtag N.tags (4 * e)) ∈ halfTags N p e :=
    List.mem_map_of_mem (mem_halfMates_self he ha)
  rw [← le_maxTag own, Tag.max_assoc, Tag.max_assoc, Tag.max_self]
end

theorem vbexp_gives {s : State} {u : VUnit} {g : BitVec 4} {d a : BitVec 5} {m : BitVec 3} (h : s.Go g)
    (hd : vDst d = true) :
    let p := s.ctx.rv a
    let N := s.ctx.rm m.toNat
    GivesVector s (.vbexp u g d a m) 4 (vunitPort u) d 4 (actW 4 N)
      (fun e => (greatestField ((halfMates N e).map (expField p.val))).setWidth 32)
      (fun e => maxTag (halfTags N p.tags e)) [] := by
  intro p N
  refine masked_gives h hd rfl (.inr (.inr rfl)) rfl (fun e he _ => ?_) (fun e he ha => ?_)
  · simp only [filter_half_eq_halfMates he, elem_eq_lane, nbits_toNat]
    exact (congrArg _ (foldl_max_toNat (expField p.val) _)).trans (BitVec.ofNat_toNat _ _)
  · simp only [filter_half_eq_halfMates he]
    rw [Nat.mul_comm e]
    exact halfTags_max_gov he ha

/-! ### Scaling (R280) -/

section
variable {W : Nat} {act act' : Nat → Bool}

theorem laneJoin_congr_act (hW : IsWidth W) (h : ∀ e, e < 256 / W → act e = act' e) (t : Nat → Tag) {l : Nat}
    (hl : l < 64) : laneJoin W act t l = laneJoin W act' t l := by
  unfold laneJoin
  refine congrArg maxTag (List.map_congr_left fun e he => ?_)
  rw [h _ (hW.lane hl (List.mem_range.mp he))]

theorem givesFloat_congr_act {s : State} {i : Instr} {lat n : Nat} {d : BitVec 5} {f : Nat → FRes} {t : Nat → Tag}
    (hW : IsWidth W) (h : ∀ e, e < 256 / W → act e = act' e) (hg : GivesFloat s i lat n d W act f t) :
    GivesFloat s i lat n d W act' f t := by
  obtain ⟨fl, raised, x, tg, en, gives, enabled, value, joined⟩ := hg
  refine ⟨fl, fun b => (raised b).trans ?_, x, tg, en, gives, fun j hj => ?_, fun e he ha => ?_, fun l hl => ?_⟩
  · refine exists_congr fun e => and_congr_right fun he => ?_
    rw [h e he, laneJoin_congr_act hW h t (hW.lane_of he)]
  · rw [enabled j hj]
    exact h _ (by rcases hW with rfl | rfl | rfl <;> omega)
  · exact value e he ((h e he).trans ha)
  · rw [joined l hl, laneJoin_congr_act hW h t hl]
end

/-- Mask m0 makes every element active. -/
theorem actW_rm_zero (x : Ctx) {W e : Nat} (hW : IsWidth W) (he : e < 256 / W) : actW W (x.rm 0) e = true := by
  have inRange : e * W < 256 := by rcases hW with rfl | rfl | rfl <;> omega
  show ((BitVec.allOnes 256).getLsbD (e * W) || _) = true
  rw [BitVec.getLsbD_allOnes, decide_eq_true inRange, Bool.true_or]

theorem mtag_rm_zero (x : Ctx) (j : Nat) : mtag (x.rm 0).tags j = 0 :=
  BitVec.extractLsb'_zero

theorem srH3_snd (x : Ctx) (mode : Nat) : (x.srH3 mode).2 = if mode = 6 then x.rv 27 else .zero :=
  apply_ite Prod.snd _ _ _

theorem semVscalb_eq (u : VUnit) (d a : BitVec 5) (r : BitVec 3) (k : BitVec 8) (x : Ctx) :
    let mode := x.mode r
    let p := x.rv a
    let q : VReg := if mode = 6 then x.rv 27 else .zero
    semVscalb u d a r k x = fpMasked u 4 d (idV a ++ (x.srH3 mode).1) 4 (x.rm 0)
      (fun e => fpScalb mode (elem 4 q.val e % 65536) (elem 4 p.val e) k.toInt)
      (fun e => Tag.max (ltag p.tags e) (ltag q.tags e)) := by
  intro mode p q
  rw [show q = (x.srH3 mode).2 from (srH3_snd x mode).symm]
  rfl

theorem vscalb_gives {s : State} {u : VUnit} {g : BitVec 4} {d a : BitVec 5} {k : BitVec 8} {r : BitVec 3}
    (h : s.Go g) (hd : vDst d = true) :
    let mode := s.ctx.mode r
    let p := s.ctx.rv a
    let q : VReg := if mode = 6 then s.ctx.rv 27 else .zero
    GivesFloat s (.vscalb u g d a k r) 4 (vunitPort u) d 4 (fun _ => true)
      (fun e => fpScalb mode (elem 4 q.val e % 65536) (elem 4 p.val e) k.toInt)
      (fun e => Tag.max (ltag p.tags e) (ltag q.tags e)) := by
  intro mode p q
  have hW : IsWidth 4 := .inr (.inr rfl)
  exact givesFloat_congr_act hW (fun e he => actW_rm_zero s.ctx hW he)
    (fpMasked_gives h hd rfl hW (semVscalb_eq u d a r k s.ctx) (fun _ _ _ => rfl)
      (fun e _ _ => by rw [mtag_rm_zero]; exact Tag.max_zero _))

end Sys2Proof.Machine

namespace Sys2Proof.Certificates
open Sys2Proof.Machine

/-- Settles O22: the packs are `vpack` and the unpacks `vunpk`; the exponent of a half is the greatest of its active
lanes, and `vscalb` writes under the mask m0, under which every lane is active. -/
theorem vectorPackingAndScaling : Obligations.VectorPackingAndScaling := by
  unfold Obligations.VectorPackingAndScaling
  intro s u g d a b t m r k hgo hd ht mode p q h N field its W half unpacks ex mates
  have hl := legal_unpack hd ht
  have shared (e : Nat) (he : e < 64) (ha : actW 4 N e = true) :
      greatestField ((mates e).map ex) ∈ (mates e).map ex ∧
        ∀ i ∈ mates e, (ex i).toNat ≤ (greatestField ((mates e).map ex)).toNat := by
    obtain ⟨hmem, hle⟩ := greatestField_spec (List.ne_nil_of_mem (List.mem_map_of_mem (mem_halfMates_self he ha)))
    exact ⟨hmem, fun i hi => hle _ (List.mem_map_of_mem hi)⟩
  exact ⟨vpack_field_gives hgo hd (.inr (.inl rfl)) rfl (fun e => Nat.mul_comm e 2),
    vpack_field_gives hgo hd (.inl rfl) rfl Nat.mul_one, vpackN_gives hgo hd,
    vunpk_gives hgo hl ht rfl (fun e => (Nat.zero_add e).symm), vunpk_gives hgo hl ht rfl (fun _ => rfl),
    ⟨_, shared, vbexp_gives hgo hd⟩, vscalb_gives hgo hd⟩

end Sys2Proof.Certificates
end
